-- ==== Sys2Proof/Word.lean ====
section
/-! DEFINITION. The word types of the block (R8, R9): what the manual treats as bits. -/

namespace Sys2Proof

/-- A setup register (R9). -/
abbrev Word := BitVec 32
/-- A byte of memory or of a message. -/
abbrev Byte := BitVec 8
/-- A 64-byte descriptor (R90), byte 0 in bits 7:0 (R8). -/
abbrev Desc := BitVec 512
/-- A 256-byte mailbox page (R71, R73). -/
abbrev Page := BitVec 2048
/-- A 32-byte command, event, journal entry or record. -/
abbrev Rec32 := BitVec 256
/-- A 16-byte completion or log entry. -/
abbrev Rec16 := BitVec 128

end Sys2Proof
end

