-- ==== Sys2Proof/Syntax.lean ====
section
/-! DEFINITION. The commands that the block takes: one constructor for each row of the table.  Every command carries, as its first
operand `t`, the DTIME stamp of the event (R33). -/

namespace Sys2Proof

/-- A contact in a digitiser report: its contact identifier, Tip Switch, Confidence, X and Y with their logical ranges, and Tip
Pressure with its range where it is reported (R331 to R333). -/
structure TouchPoint where
  id : Nat
  tip : Bool
  conf : Bool
  x : Int
  xMin : Int
  xMax : Int
  y : Int
  yMin : Int
  yMax : Int
  pressure : Option (Int × Int × Int)
deriving DecidableEq, Repr

/-- What the device reads of a digitiser as it enumerates it (R329 to R331): what would keep it from being served, whether its
descriptor has Input Mode, its Contact Count Maximum where it gives one, and the usages of each top-level collection, each as
page × 65536 + code and whether its value is relative. -/
structure TouchDevice where
  lowSpeed : Bool := false
  interruptIn : Bool := true
  isochronous : Bool := false
  bootOnly : Bool := false
  secondTier : Bool := false
  inputMode : Bool := false
  contactMax : Option Nat := none
  colls : List (List (Nat × Bool)) := []
deriving DecidableEq, Repr

/-- What a haptic channel senses at a tick: the back-EMF that BRAKE senses in mV, the coil's current in mA, and its resistance in mΩ
where the tick completes the measurement of R347. -/
structure CoilSense where
  bemf : Int := 0
  amp : Int := 0
  res : Option Nat := none
deriving DecidableEq, Repr

/-- The readings of the eight die sensors, in °C: the two render domains, the memory PHY, the display engine, the PCIe PHY, the control
cores, the DisplayPort PHYs and Shallot (R389). -/
structure DieSensors where
  render0 : Int := 0
  render1 : Int := 0
  memory : Int := 0
  display : Int := 0
  pcie : Int := 0
  cores : Int := 0
  dpPhy : Int := 0
  shallot : Int := 0
deriving DecidableEq, Repr

/-- A patrol read: the error that its codeword holds by now (0 none, 1 correctable, 2 uncorrectable), and how many requests its channel
serves after it (R362). -/
structure PatrolFind where
  err : Nat := 0
  served : Nat := 0
deriving DecidableEq, Repr

/-- How an exchange of the update server ends: whether its response is a success, and how often the request was sent again (R417). -/
structure CoapReply where
  good : Bool := true
  resent : Nat := 0
deriving DecidableEq, Repr

/-- The contacts that a report gives for one surface. -/
structure SurfaceReport where
  surface : Nat
  points : List TouchPoint
deriving DecidableEq, Repr

/-- The traffic that a memory request belongs to (Table 14.4): fetches of layer pipes, plate reads in stage 5, value record reads at
latch, writeback, Fennel's buffer reads, Shallot's memory port, value record writes, retirement copies, render and compute at the
priority at which it runs, COPY, ingest and the translation cache, journal backing, zero-fill, and patrol scrub. -/
inductive Traffic where
  | scanout
  | plate
  | recordRead
  | writeback
  | audio
  | shallot
  | recordWrite
  | retirementCopy
  | render (priority : Nat)
  | copy
  | ingest
  | journal
  | zeroFill
  | patrol
deriving DecidableEq, Repr

/-- How the checks and the storage of a start stage turn out: Shallot's self-test, the
verification of each staging copy (main firmware, setup blob), the time the copies take, whether each memory channel's record verifies and
what its full training finds in each of three tries, and the outcomes of the store commits in their order. -/
structure BootOutcome where
  selfTest : Bool := true
  copyOk : List Bool := []
  copyNs : Nat := 0
  verified : List Bool := []
  tries : List (List Bool) := []
  store : List Bool := []
deriving DecidableEq, Repr

/-- A reply to an AUX transaction (R216). -/
inductive AuxReply where
  | ack
  | nack
  | defer
  | timeout
deriving DecidableEq, Repr

/-- What the sink's link status shows after a try of step 3 or 4 of Table 8.5: whether it is done, and the swing and the pre-emphasis that
the sink requests. -/
structure LevelTry where
  done : Bool := false
  swing : Nat := 0
  pre : Nat := 0
deriving DecidableEq, Repr

/-- The tries of clock recovery and of channel equalisation on one configuration, in order; one beyond the list does not succeed. -/
structure LinkTry where
  clock : List LevelTry := []
  equal : List LevelTry := []
deriving DecidableEq, Repr

/-- How a sink answers in a run of the training policy (R216, R219, R220, R274): the replies to the reads of the receiver capability
field and of the DSC capability field, its maxima as HDn_LINK codes them, whether it has DSC, TPS3 and the test CRC, and its status in the
tries of each configuration. -/
structure SinkReport where
  caps : List AuxReply := []
  dscCaps : List AuxReply := []
  maxRate : Nat := 0
  maxLanes : Nat := 0
  dsc : Bool := false
  tps3 : Bool := false
  crc : Bool := false
  tries : List LinkTry := []
deriving DecidableEq, Repr

/-- A command. -/
inductive Instr where
  /-- REGISTER_WRITE (R11): A host write to a setup register that has no row of its own acts on each field by its access code,
  with whole-write discard of reserved or out-of-range values. `fn` 0 an access of BAR0, n one of the BAR2 of VF n; offset,
  size in bytes and value. -/
  | registerWrite (t : Nat) (fn : Nat) (off : Nat) (size : Nat) (v : Word)
  /-- LATCHED_LOW_WORD_READ (R9): A read of the low word of a wider value returns it and latches the high word for the next
  high-word read. Function, offset and size of the read. -/
  | latchedLowWordRead (t : Nat) (fn : Nat) (off : Nat) (size : Nat)
  /-- READ_CLEAR_COUNTER (R11): A read of an RC field returns its value and clears it in the same read. Function, offset and
  size of the read. -/
  | readClearCounter (t : Nat) (fn : Nat) (off : Nat) (size : Nat)
  /-- SETUP_LOCK (R451): Writing 1 to ID_LOCK.SETUP_LOCK sets the setup lock, which only a module reset clears. The word
  written to ID_LOCK. -/
  | setupLock (t : Nat) (v : Word)
  /-- PTP_SYNC (R27): A PTP Sync message of the selected master updates the servo, sets TIME_INC and may set or step
  TIME_TAI_OFFSET and change the time state. Sender, PTP domain and origin time in TAI ns, corrected. -/
  | ptpSync (t : Nat) (ident : Nat) (domain : Nat) (origin : Int)
  /-- PTP_ANNOUNCE (R26): A PTP Announce message is taken into master selection and qualification. Sender, its data set in
  comparison order, domain, log intervals and whether its timescale is PTP. -/
  | ptpAnnounce (t : Nat) (ident : Nat) (rank : List Nat) (domain : Nat) (logSync : Int) (logAnnounce : Int) (ptpScale : Bool)
  /-- PTP_ANNOUNCE_TIMEOUT (R29): Expiry of the announce receipt timeout of 3 announce intervals moves a LOCKED PTP source to
  HOLDOVER. -/
  | ptpAnnounceTimeout (t : Nat)
  /-- PTP_SYNC_LOSS (R458): At the end of the window of the 4th consecutive missing Sync message, the loss is taken and the
  time state leaves LOCKED. -/
  | ptpSyncLoss (t : Nat)
  /-- SYNC_IN_REFERENCE (R210): A SYNC_IN reference point is stamped and judged valid or invalid by the time unit and by each
  genlock group. -/
  | syncInReference (t : Nat)
  /-- SYNC_IN_REFERENCE_MISSING (R458): The window of an expected reference point closes without one, counting towards loss for
  the time unit and genlock. -/
  | syncInReferenceMissing (t : Nat)
  /-- HOLDOVER_EXPIRY (R30): The holdover timer reaches HOLDOVER_MAX seconds and the time state becomes FREE. -/
  | holdoverExpiry (t : Nat)
  /-- TIME_SRC_WRITE (R29): A write of TIME_CTRL that changes SRC takes the time state to FREE and starts discipline by the new
  source. The word written to TIME_CTRL. -/
  | timeSrcWrite (t : Nat) (v : Word)
  /-- TAI_OFFSET_LO_WRITE (R48): A write of TIME_TAI_OFFSET_LO holds the low word until the high word is written. The word
  written. -/
  | taiOffsetLoWrite (t : Nat) (v : Word)
  /-- TAI_OFFSET_HI_WRITE (R25): A write of TIME_TAI_OFFSET_HI applies the 64-bit offset and sets OFFSET_VALID, or is discarded
  while a PTP source is selected. The word written. -/
  | taiOffsetHiWrite (t : Nat) (v : Word)
  /-- TILE_ROW_SCAN (R44): At a tile row's stamp the freshness stage forms the age of every class contributing to each tile and
  chooses a stale treatment. Head and tile row. -/
  | tileRowScan (t : Nat) (h : Nat) (row : Nat)
  /-- BATCH (R73): The manager's doorbell submits a batch whose header is checked; a failed header yields a BATCH_REPLY of
  ST_BAD_DESC results. Generation written to the doorbell, and the outbound page. -/
  | batch (t : Nat) (gen : Nat) (page : Page)
  /-- INST_CREATE (R52): The command allots a slice and PASIDs to an ABSENT tenant and makes it CREATED with share 16. -/
  | instCreate (t : Nat)
  /-- INST_ENABLE (R52): The command moves a CREATED tenant to ENABLED or PARKED by SHARE_NEXT. -/
  | instEnable (t : Nat)
  /-- INST_RESET (R56): The command takes a reset of a tenant: the generation increments and the reset sequence of Table 3.4
  starts. -/
  | instReset (t : Nat)
  /-- INST_DESTROY (R59): The command increments the generation, revokes every lease of the tenant and drains it towards
  ABSENT. -/
  | instDestroy (t : Nat)
  /-- SHARE_SET (R61): The command sets SHARE_NEXT of an instance, taking effect at the next epoch boundary. -/
  | shareSet (t : Nat)
  /-- LEASE_GRANT (R75): The command grants, renews or rebinds a lease on a unit, or fails by the unit's state. -/
  | leaseGrant (t : Nat)
  /-- LEASE_REVOKE (R68): The command starts the revocation sequence on a unit held by the named instance. -/
  | leaseRevoke (t : Nat)
  /-- TENANT_REPLY (R72): The command copies the manager's reply window to a tenant's inbound page and clears its outstanding
  request. -/
  | tenantReply (t : Nat)
  /-- EPOCH_BOUNDARY (R61): At each 250 µs epoch boundary SHARE_NEXT is copied to SHARE, instances move between ENABLED and
  PARKED, and clusters are granted. -/
  | epochBoundary (t : Nat)
  /-- VF_FLR (R56): A function-level reset of a VF takes an instance reset of that tenant. The VF. -/
  | vfFlr (t : Nat) (n : Nat)
  /-- RESET_COMPLETE (R56): When the drain of a reset completes, the instance returns to its previous state and FLR or
  INST_RESET completes. The instance. -/
  | resetComplete (t : Nat) (n : Nat)
  /-- DRAIN_TIMEOUT (R57): At t0 + 100 µs with the drain incomplete, the reset completes with DRAIN_TIMEOUT set and ST_TIMEOUT
  reported. The instance. -/
  | drainTimeout (t : Nat) (n : Nat)
  /-- CONTEXT_PREEMPT_TIMEOUT (R68): A context that has not reached a preemption point 100 µs after a reset or lease end has
  its clusters reset. The context. -/
  | contextPreemptTimeout (t : Nat) (c : Nat)
  /-- DESTROY_COMPLETE (R59): When revocations and drain of a destroy complete, the instance becomes ABSENT and its slice scrub
  starts. The instance. -/
  | destroyComplete (t : Nat) (n : Nat)
  /-- NUMVFS_LOWER (R83): The host lowering NumVFs destroys every instance above the new count. The new count. -/
  | numvfsLower (t : Nat) (v : Nat)
  /-- VF_ENABLE_CLEAR (R83): The host setting VF Enable to 0 destroys every tenant instance. -/
  | vfEnableClear (t : Nat)
  /-- LEASE_KICK (R67): A write of INST_LEASE_KICK with the current generation renews the expiry of every held lease of the
  instance. Function and generation written. -/
  | leaseKick (t : Nat) (fn : Nat) (gen : Nat)
  /-- LEASE_EXPIRY (R67): A lease reaches its EXPIRY and the revocation sequence runs with END_REASON expired. Lease kind and
  unit. -/
  | leaseExpiry (t : Nat) (kind : Nat) (unit : Nat)
  /-- REVOCATION_COMPLETE (R68): The unit's in-flight operation ends, the lease becomes FREE or RETIRED and LEASE_END events
  are sent. Lease kind and unit. -/
  | revocationComplete (t : Nat) (kind : Nat) (unit : Nat)
  /-- LEASE_REQUEST (R72): A tenant's LEASE_REQUEST message is checked and forwarded to the manager as an outstanding request.
  Tenant, generation written to its mailbox doorbell, and its outbound page. -/
  | leaseRequest (t : Nat) (n : Nat) (gen : Nat) (page : Page)
  /-- LEASE_RELEASE (R72): A tenant's LEASE_RELEASE message is checked and forwarded to the manager. As LEASE_REQUEST. -/
  | leaseRelease (t : Nat) (n : Nat) (gen : Nat) (page : Page)
  /-- SETUP (R72): A tenant's SETUP message for a leased unit is checked and forwarded to the manager. As LEASE_REQUEST. -/
  | setup (t : Nat) (n : Nat) (gen : Nat) (page : Page)
  /-- QUERY (R72): A tenant's QUERY message is checked and forwarded to the manager. As LEASE_REQUEST. -/
  | query (t : Nat) (n : Nat) (gen : Nat) (page : Page)
  /-- MAILBOX_TIMEOUT (R72): With no TENANT_REPLY by INST_MB_TIMEOUT, the device writes a REPLY with ST_TIMEOUT and clears the
  request. The tenant. -/
  | mailboxTimeout (t : Nat) (n : Nat)
  /-- PF_FLR (R80): A function-level reset of the PF increments I0's generation, discards unstarted batch commands and clears
  I0's inbound page. -/
  | pfFlr (t : Nat)
  /-- SQ_TAIL_DOORBELL (R105): A submission ring tail doorbell records the new tail for fetch, or for later dispatch while
  parked. Function, ring, generation and index. -/
  | sqTailDoorbell (t : Nat) (fn : Nat) (q : Nat) (gen : Nat) (idx : Nat)
  /-- CQ_HEAD_DOORBELL (R105): A completion ring head doorbell frees slots and may move the device's tail forward. Function,
  ring, generation and index. -/
  | cqHeadDoorbell (t : Nat) (fn : Nat) (c : Nat) (gen : Nat) (idx : Nat)
  /-- EQ_HEAD_DOORBELL (R103): An event ring head doorbell frees slots and ends the overflow drop state. Function, generation
  and index. -/
  | eqHeadDoorbell (t : Nat) (fn : Nat) (gen : Nat) (idx : Nat)
  /-- DESCRIPTOR_FETCH (R89): A fetch of up to 8 descriptors of one ring completes and the descriptors await dispatch.
  Function, ring and the descriptors that the host answers. -/
  | descriptorFetch (t : Nat) (fn : Nat) (q : Nat) (ds : List Desc)
  /-- NOP (R92): A NOP descriptor is checked and completes at dispatch. -/
  | nop (t : Nat)
  /-- TIMESTAMP (R97): A TIMESTAMP descriptor, after earlier descriptors of its ring complete, writes the DTIME of dispatch to
  DEST. -/
  | timestamp (t : Nat)
  /-- WAIT_VALUE (R95): A WAIT_VALUE descriptor holds its ring until the u64 at ADDR reaches VALUE or its timeout passes. -/
  | waitValue (t : Nat)
  /-- WAIT_VALUE_EVAL (R95): Every 10 µs a pending WAIT_VALUE condition is evaluated and completes with ST_OK or ST_TIMEOUT. -/
  | waitValueEval (t : Nat)
  /-- WRITE_VALUE (R95): A WRITE_VALUE descriptor writes VALUE to ADDR after earlier descriptors complete and re-evaluates
  waiting WAIT_VALUEs. -/
  | writeValue (t : Nat)
  /-- COPY (R96): A COPY descriptor is checked and starts copying LEN bytes from SRC to DST. -/
  | copy (t : Nat)
  /-- COPY_COMPLETE (R96): The copy finishes or stops at a failed read and its completion is written. The flight of the COPY,
  and the bytes of a source in host memory. -/
  | copyComplete (t : Nat) (id : Nat) (data : List Byte)
  /-- MSIX_MOD_TIMEOUT (R107): A ring's moderation window reaches MOD_TIME_US and its MSI-X vector is signalled. Function,
  completion ring, and whether it is the event ring. -/
  | msixModTimeout (t : Nat) (fn : Nat) (c : Nat) (events : Bool)
  /-- HOST_READ_FAILURE (R109): A failed host read is retried or fails the descriptor or halts the ring by Table 4.12.
  Function, ring and flight (0 a descriptor fetch), whether it is a completion timeout or poisoned completion, the bytes that
  the reads before it delivered, and its length as issued. -/
  | hostReadFailure (t : Nat) (fn : Nat) (q : Nat) (id : Nat) (soft : Bool) (good : List Byte) (len : Nat)
  /-- ATS_INVALIDATION (R110): An ATS invalidation is completed within 20 µs after requests using the translation finish. The
  tag of the request. -/
  | atsInvalidation (t : Nat) (tag : Nat)
  /-- RING_ENABLE (R111): Writing ENABLE = 1 validates a ring's setup and enables it or records the failing status in ERR.
  Function, kind (0 submission, 1 completion, 2 event), ring and the word written. -/
  | ringEnable (t : Nat) (fn : Nat) (kind : Nat) (idx : Nat) (v : Word)
  /-- RING_DISABLE (R112): Writing ENABLE = 0 stops a ring's fetch and discards fetched but undispatched descriptors. As
  RING_ENABLE. -/
  | ringDisable (t : Nat) (fn : Nat) (kind : Nat) (idx : Nat) (v : Word)
  /-- CS_SUBMIT (R115): A CS_SUBMIT descriptor starts executing its command stream on its context after the previous one
  completes. The words of a stream in host memory. -/
  | csSubmit (t : Nat) (words : List Word)
  /-- GROW (R134): A GROW descriptor attaches bin heap chunks to a context, all or none. -/
  | grow (t : Nat)
  /-- CS_NOP (R118): The command-stream NOP is skipped. The context. -/
  | csNop (t : Nat) (c : Nat)
  /-- SET_STATE (R120): The command writes context state words in order. The context. -/
  | setState (t : Nat) (c : Nat)
  /-- BIND_PIPELINE (R152): The command binds a registered pipeline or waits while ingest runs. The context. -/
  | bindPipeline (t : Nat) (c : Nat)
  /-- BIND_TABLE (R157): The command binds a resource table for later draws and dispatches. The context. -/
  | bindTable (t : Nat) (c : Nat)
  /-- BEGIN_PASS (R122): The command reads and checks a pass record and starts binning. The context. -/
  | beginPass (t : Nat) (c : Nat)
  /-- DRAW (R129): The command runs the vertex stages and bins the surviving primitives. The context. -/
  | draw (t : Nat) (c : Nat)
  /-- DRAW_INDEXED (R129): The command runs an indexed draw and bins its primitives. The context. -/
  | drawIndexed (t : Nat) (c : Nat)
  /-- DRAW_INDIRECT (R129): The command reads draw arguments from memory and bins the draw. The context. -/
  | drawIndirect (t : Nat) (c : Nat)
  /-- END_PASS (R129): The command ends binning and hands the pass's tiles to the tile phase. The context. -/
  | endPass (t : Nat) (c : Nat)
  /-- DISPATCH (R118): The command dispatches compute workgroups. The context. -/
  | dispatch (t : Nat) (c : Nat)
  /-- DISPATCH_INDIRECT (R118): The command reads dispatch arguments from memory and dispatches them. The context. -/
  | dispatchIndirect (t : Nat) (c : Nat)
  /-- BARRIER (R140): The command orders earlier writes before later reads by its flags. The context. -/
  | barrier (t : Nat) (c : Nat)
  /-- TILE_STORE (R127): A tile finishes rendering and is stored by its attachments' store ops. The context and the tile. -/
  | tileStore (t : Nat) (c : Nat) (tile : Nat)
  /-- SPLIT_START (R136): At SPLIT_AT without an accepted GROW, the split render starts or the pass aborts with
  ST_BIN_EXHAUSTED. The context. -/
  | splitStart (t : Nat) (c : Nat)
  /-- SPLIT_COMPLETE (R136): The split render finishes, frees list and vertex pods and resumes binning. The context. -/
  | splitComplete (t : Nat) (c : Nat)
  /-- CLUSTER_FAULT (R143): A render cluster fault is reported and takes the reaction of Table 5.13. The cluster, 0 a corrected
  error, 1 one in the tile phase or 2 one elsewhere, and whether the retry succeeds. -/
  | clusterFault (t : Nat) (k : Nat) (row : Nat) (retryOk : Bool)
  /-- CLUSTER_RESET_COMPLETE (R143): A cluster reset completes and other contexts resume from their saves. The cluster. -/
  | clusterResetComplete (t : Nat) (k : Nat)
  /-- CLUSTER_RESET_TIMEOUT (R143): A cluster reset not complete within 20 µs retires the cluster. The cluster. -/
  | clusterResetTimeout (t : Nat) (k : Nat)
  /-- INGEST_START (R154): The control cores take the next waiting instance's ingest in round-robin order. -/
  | ingestStart (t : Nat)
  /-- INGEST_COMPLETE (R153): Ingest writes its result into the pipeline record and binds it or stops the stream. -/
  | ingestComplete (t : Nat)
  /-- DEADLINE_TICK (R167): Every 1 µs the scheduler evaluates deadline windows and reserves or releases clusters. -/
  | deadlineTick (t : Nat)
  /-- PREEMPT_MIDWAVE_TIMEOUT (R162): 10 µs after a preemption request without a boundary, the cluster stops mid-wave and saves
  its state. The cluster. -/
  | preemptMidwaveTimeout (t : Nat) (k : Nat)
  /-- PREEMPT_STOP (R162): A preempted cluster finishes its stop and save and becomes free. The cluster. -/
  | preemptStop (t : Nat) (k : Nat)
  /-- RESUME_COMPLETE (R162): A cluster finishes resuming a context from its save. The cluster. -/
  | resumeComplete (t : Nat) (k : Nat)
  /-- NP_HOLD_EXPIRY (R164): An NP job reaching 50 µs on its cluster is preempted and SHD_CTXn_NP_OVERRUN counts it. The
  cluster. -/
  | npHoldExpiry (t : Nat) (k : Nat)
  /-- LATEST_START_REACHED (R170): At the latest start L with the reservation incomplete, SHD_HDn_LATE increments. The head. -/
  | latestStartReached (t : Nat) (h : Nat)
  /-- COMPOSITION_DEADLINE (R170): At S with the composition incomplete, the reservation is released and SHD_HDn_MISS
  increments. The head. -/
  | compositionDeadline (t : Nat) (h : Nat)
  /-- ASYNC_FILL (R161): An idle unreserved cluster takes workgroups of ready DISPATCH work of any context. The cluster. -/
  | asyncFill (t : Nat) (k : Nat)
  /-- FLIP (R177): A FLIP descriptor is checked and written into the pipe's pending flip slot, replacing any pending flip. -/
  | flip (t : Nat)
  /-- COEF_DATA_WRITE (R188): A write of LYR_n_COEF_DATA stores one coefficient word and increments WORD, unless the bank is
  protected. Pipe and word. -/
  | coefDataWrite (t : Nat) (p : Nat) (v : Word)
  /-- WB_CAPTURE (R199): A WB_CAPTURE descriptor is checked and armed. -/
  | wbCapture (t : Nat)
  /-- WB_CAPTURE_COMPLETE (R201): A capture writes its last row and trailer and completes with ST_OK. The writeback unit. -/
  | wbCaptureComplete (t : Nat) (u : Nat)
  /-- WB_CAPTURE_TIMEOUT (R200): An armed capture not started 1 s after dispatch completes with ST_TIMEOUT. -/
  | wbCaptureTimeout (t : Nat)
  /-- WB_BUFFER_OVERFLOW (R202): A pixel arriving at a full writeback buffer stops the capture with ST_TIMEOUT and counts
  LYR_WB_ABORT. The writeback unit. -/
  | wbBufferOverflow (t : Nat) (u : Nat)
  /-- PIPE_FAULT (R203): A layer pipe fault draws fault pixels and marks the affected tile rows stale. Pipe, row of the table,
  and the pixels from a line and column to a last line. -/
  | pipeFault (t : Nat) (p : Nat) (row : Nat) (line : Nat) (col : Nat) (last : Nat)
  /-- COMMIT_POINT (R226): At a group's commit point the frame counter increments and pending commits and flips are decided and
  applied. The group. -/
  | commitPoint (t : Nat) (g : Nat)
  /-- HEAD_COMMIT_GO (R224): Writing HDn_COMMIT.GO checks the head's shadow state and makes it a pending commit or sets a
  failing RESULT. The head. -/
  | headCommitGo (t : Nat) (h : Nat)
  /-- HEAD_COMMIT_CANCEL (R225): Writing HDn_COMMIT.CANCEL ends the pending commit and reloads shadow registers from active
  values. The head. -/
  | headCommitCancel (t : Nat) (h : Nat)
  /-- COMMIT_GROUP_GO (R229): Writing HD_CGk_CTRL.GO with a mask makes a commit group pending or refuses it. The commit group
  and MASK. -/
  | commitGroupGo (t : Nat) (k : Nat) (mask : Nat)
  /-- COMMIT_GROUP_CANCEL (R229): Writing HD_CGk_CTRL.CANCEL cancels the pending commit group on every member. The commit
  group. -/
  | commitGroupCancel (t : Nat) (k : Nat)
  /-- PIXEL_PLL_LOCK (R231): A retuned pixel PLL locks and the held timing generator runs frame N at the new timing. The group. -/
  | pixelPllLock (t : Nat) (g : Nat)
  /-- HPD_DEBOUNCE (R220): Hot-plug high for 100 ms starts link training of the head. The head. -/
  | hpdDebounce (t : Nat) (h : Nat)
  /-- HPD_UNPLUG (R221): Hot-plug low for 2 ms stops the link and sets LINK_FAIL with reason no sink. The head. -/
  | hpdUnplug (t : Nat) (h : Nat)
  /-- IRQ_HPD (R221): An IRQ_HPD pulse makes the head read link status and retrain if the link is lost. The head, and whether
  the link is found lost. -/
  | irqHpd (t : Nat) (h : Nat) (lost : Bool)
  /-- LINK_TRAIN_RESULT (R220): A run of the training policy ends in success or LINK_FAIL with its reason. The head, and how
  the sink answers in the run. -/
  | linkTrainResult (t : Nat) (h : Nat) (k : SinkReport)
  /-- LINK_TRAIN_RETRY (R220): Every 1 s in LINK_FAIL with hot-plug high, the training policy runs again. The head. -/
  | linkTrainRetry (t : Nat) (h : Nat)
  /-- VALUE_POST (R237): A VALUE_POST descriptor is checked and its record stored in the value store or refused. -/
  | valuePost (t : Nat)
  /-- FIELD_LATCH (R246): Two lines before a field's first scan line, the value plane latches the field's current record for
  the frame. The field, and whether its record has an uncorrectable error. -/
  | fieldLatch (t : Nat) (f : Nat) (ecc : Bool)
  /-- FDESC_WRITE (R241): VAL_FDESC_CTRL.GO checks a field descriptor and copies it into the field's shadow descriptor. The
  field. -/
  | fdescWrite (t : Nat) (f : Nat)
  /-- FDESC_READ (R241): VAL_FDESC_CTRL.READ copies a field's shadow descriptor into VAL_FDESC_D0–D7. The field. -/
  | fdescRead (t : Nat) (f : Nat)
  /-- FONT_LOAD (R253): VAL_FONT_LOAD.GO starts copying the font region into the unused on-chip copy. -/
  | fontLoad (t : Nat)
  /-- FONT_COPY_COMPLETE (R254): The font copy completes or fails, and heads switch to it at their next commit point. -/
  | fontCopyComplete (t : Nat)
  /-- SAFETY_PAGE_POLL (R265): Every 1 ms Shallot reads the safety page's PUB_SEQ and consumes published commands. -/
  | safetyPagePoll (t : Nat)
  /-- SELECT (R268): A SELECT command is checked and sets a region's plate and T_src at the next commit point. -/
  | select (t : Nat)
  /-- REFRESH (R268): A REFRESH command is checked and sets a region's T_src at the next commit point. -/
  | refresh (t : Nat)
  /-- PLATE_CRC_CHECK (R262): Every 10 s Shallot checks every plate against its CRC. -/
  | plateCrcCheck (t : Nat)
  /-- REGION_F7_CHECK (R269): At a region's first-line stamp its F7 age is judged and its content for the frame chosen. Head
  and region. -/
  | regionF7Check (t : Nat) (h : Nat) (r : Nat)
  /-- REGION_SIGNATURE_COMPARE (R273): One line after a region ends, its signature is compared with the expected reference.
  Head, region, and what errors of the datapath have done to the signature. -/
  | regionSignatureCompare (t : Nat) (h : Nat) (r : Nat) (upset : Nat)
  /-- SINK_CRC_READ_RESULT (R276): A sink CRC read is judged Match, Frozen, Mismatch or No response and the streaks updated.
  Head, the replies to the AUX read and its retries, and the CRCs and count read. -/
  | sinkCrcReadResult (t : Nat) (h : Nat) (replies : List AuxReply) (cr : Nat) (cg : Nat) (cb : Nat) (count : Nat)
  /-- PLATE_REWRITE_COMPLETE (R277): A plate rewritten from flash is verified and the guard ends at the next commit point. The
  plate and whether it verifies. -/
  | plateRewriteComplete (t : Nat) (p : Nat) (ok : Bool)
  /-- FAULT_REPORT (R285): A fault on the fault bus is classified by Table 11.3 and its reaction, log entry and event taken.
  Fault, unit, detail and place, and whether a retry or commit succeeds. -/
  | faultReport (t : Nat) (id : Nat) (unit : Nat) (detail : Nat) (line : Nat) (col : Nat) (last : Nat) (ok : Bool)
  /-- LOCKSTEP_MISMATCH (R281): The comparator finds the Shallot cores differ and sets the safe-state latch. -/
  | lockstepMismatch (t : Nat)
  /-- SHALLOT_CORE_WD_EXPIRY (R283): The Shallot core watchdog expires, fault 0x03. -/
  | shallotCoreWdExpiry (t : Nat)
  /-- CONTROL_CORE_WD_EXPIRY (R283): The control-core watchdog expires, fault 0x0A. Whether the commit of LAST_REASON succeeds,
  where a start fails, and whether the change of a manager command in progress was taken. -/
  | controlCoreWdExpiry (t : Nat) (ok : Bool) (taken : Bool)
  /-- GROUP_FRAME_WD_EXPIRY (R283): A group's frame watchdog expires, fault 0x0D on each enabled head. The group. -/
  | groupFrameWdExpiry (t : Nat) (g : Nat)
  /-- DTIME_MONITOR_WINDOW (R283): At the end of each 100 ms window, DTIME's rate is judged against the Shallot oscillator. The
  ns by which DTIME advanced. -/
  | dtimeMonitorWindow (t : Nat) (adv : Nat)
  /-- MANAGER_WD_EXPIRY (R284): The manager watchdog expires and the host becomes absent. -/
  | managerWdExpiry (t : Nat)
  /-- MGR_KICK (R284): A write of SHL_MGR_KICK with I0's generation arms or kicks the manager watchdog. The generation written. -/
  | mgrKick (t : Nat) (gen : Nat)
  /-- UNIT_RETIRE (R289): At the end of its reaction a unit is retired, its lease ended and its retirement logged and reported.
  Retirement kind and unit. -/
  | unitRetire (t : Nat) (kind : Nat) (unit : Nat)
  /-- UNRETIRE (R291): SHL_UNRETIRE.GO checks a unit and starts its self-test or reports a status. The word written. -/
  | unretire (t : Nat) (v : Word)
  /-- UNRETIRE_SELFTEST_COMPLETE (R291): The self-test ends and the unit returns with its lease FREE or stays retired. Whether
  it passed. -/
  | unretireSelftestComplete (t : Nat) (pass : Bool)
  /-- LINK_DOWN_10MS (R296): The PCIe link out of L0 for 10 ms makes the host absent. -/
  | linkDown10ms (t : Nat)
  /-- BLOCK_BOUNDARY (R301): At each engine block boundary Fennel stamps the block and starts buffers, fades, ramps, swaps and
  map changes. -/
  | blockBoundary (t : Nat)
  /-- AUDIO_BUFFER (R304): An AUDIO_BUFFER descriptor is checked and queued on its channel. The bytes of a buffer in host
  memory. -/
  | audioBuffer (t : Nat) (data : List Byte)
  /-- AUDIO_BUFFER_COMPLETE (R306): A buffer's last sample is played and its completion written. The channel. -/
  | audioBufferComplete (t : Nat) (a : Nat)
  /-- BUFFER_UNDERRUN (R307): A buffer sample not arrived by its period is played as 0 and counted. The channel. -/
  | bufferUnderrun (t : Nat) (a : Nat)
  /-- ROUTE_GO (R309): AUD_An_RCTL.GO requests a route fade to the staging row at the next block boundary. The channel and the
  word written. -/
  | routeGo (t : Nat) (a : Nat) (v : Word)
  /-- GAIN_WRITE (R311): A write of a channel or bus gain sets a target reached by a linear ramp from the next block boundary.
  Whether it is a bus, its number, and the word written. -/
  | gainWrite (t : Nat) (bus : Bool) (n : Nat) (v : Word)
  /-- EQ_DATA_WRITE (R315): A write of AUD_EQ_DATA stores one coefficient and increments WORD, unless invalid or protected. The
  word written. -/
  | eqDataWrite (t : Nat) (v : Word)
  /-- EQ_SWAP (R316): AUD_Bb_EQ.SWAP requests a checked swap to the other equaliser bank at the next block boundary. The bus. -/
  | eqSwap (t : Nat) (b : Nat)
  /-- MAP_WRITE (R318): A TDM or DisplayPort audio map write takes effect at the next block boundary. Whether it is a
  DisplayPort map, port or head, register of the map, and the word written. -/
  | mapWrite (t : Nat) (head : Bool) (n : Nat) (k : Nat) (v : Word)
  /-- TDM_PORT_ENABLE (R320): Setting AUD_Tp_CFG.EN starts a port in master or slave mode. The port and the word written. -/
  | tdmPortEnable (t : Nat) (p : Nat) (v : Word)
  /-- TDM_PORT_DISABLE (R325): Clearing AUD_Tp_CFG.EN stops the port at the next frame boundary. The port and the word written. -/
  | tdmPortDisable (t : Nat) (p : Nat) (v : Word)
  /-- TDM_FRAME_SYNC (R320): A frame sync from the peer is taken, advancing SYNCING to RUN or detecting misplacement. The port
  and the bit clocks since the last sync. -/
  | tdmFrameSync (t : Nat) (p : Nat) (clocks : Nat)
  /-- TDM_FRAME (R323): At each frame position the port moves a frame through its FIFOs and updates its FLOW pins. The port,
  whether the peer of a slave gives it no frame sync, and the bits sampled at its 512 bit clocks from the frame sync on. -/
  | tdmFrame (t : Nat) (p : Nat) (held : Bool) (bits : List Bool)
  /-- TDM_BCLK_LOSS (R324): No bit clock edge for two frame periods is fault 0x13. The port. -/
  | tdmBclkLoss (t : Nat) (p : Nat)
  /-- TDM_FRAME_SYNC_MISSING (R324): Two consecutive frame positions without sync while pins were low is fault 0x13. The port. -/
  | tdmFrameSyncMissing (t : Nat) (p : Nat)
  /-- TOUCH_DEVICE_ATTACH (R331): A digitiser is enumerated and its surfaces bound or marked NO_MATCH. Port, hub port, and what
  the device is. -/
  | touchDeviceAttach (t : Nat) (p : Nat) (hub : Nat) (d : TouchDevice)
  /-- I2C_INT_FALL (R330): A falling edge of an I²C-HID interrupt line is stamped and starts reading the input report. The
  port. -/
  | i2cIntFall (t : Nat) (p : Nat)
  /-- TOUCH_REPORT (R332): A digitiser report is mapped and produces DOWN, MOVE, UP or CANCEL events for its contacts. The
  reports that end at one stamp, by surface. -/
  | touchReport (t : Nat) (rs : List SurfaceReport)
  /-- SURFACE_SILENT_TIMEOUT (R332): A surface that sends no report for 100 ms cancels its contacts. The surface. -/
  | surfaceSilentTimeout (t : Nat) (n : Nat)
  /-- ROUTE_DISABLE (R337): Writing TCH_Rr_CFG.EN = 0 ends the route's contacts with CANCEL. The route and the word written. -/
  | routeDisable (t : Nat) (r : Nat) (v : Word)
  /-- HAPTIC_TICK (R339): Every 10 µs Kohlrabi acts on requests, senses back-EMF and drives or brakes each channel. Back-EMF
  and drive samples of each channel, and the energies of the brakes and pulses. -/
  | hapticTick (t : Nat) (sense : List CoilSense) (brakeUj : Nat) (measuredUj : Nat)
  /-- HAPTIC_PLAY (R342): A HAPTIC_PLAY descriptor is checked and acted on by Table 13.4. -/
  | hapticPlay (t : Nat)
  /-- HTRIG_EDGE (R346): A deglitched HTRIG edge is stamped and is a request for its configured channel and effect. The input
  and the edge. -/
  | htrigEdge (t : Nat) (m : Nat) (rising : Bool)
  /-- DRIVE_END (R340): DRIVE reaches its duration D and BRAKE starts. The channel. -/
  | driveEnd (t : Nat) (n : Nat)
  /-- BRAKE_END (R344): BRAKE ends at low back-EMF or after 4 ms and any latched request starts DRIVE. The channel and its
  back-EMF. -/
  | brakeEnd (t : Nat) (n : Nat) (bemf : Int)
  /-- HAPTIC_OVERCURRENT (R347): Coil current above 3.3 A for 2 µs drives both bridge halves low, fault 0x14. The channel. -/
  | hapticOvercurrent (t : Nat) (n : Nat)
  /-- MEMORY_REQUEST (R356): A memory request arrives at a channel and is served by class, age and open row. Source, address,
  traffic, the data of a write, the error in the codeword, and how many requests are served. -/
  | memoryRequest (t : Nat) (src : Nat) (addr : Nat) (k : Traffic) (write : Option (Nat × List Byte)) (err : Nat) (n : Nat)
  /-- REQUEST_AGE_RAISE (R356): A request waiting 100 µs rises one class, up to class 3. The channel. -/
  | requestAgeRaise (t : Nat) (c : Nat)
  /-- PATROL_SCRUB_READ (R362): Patrol scrub reads a block at class 5 and handles any error it finds. The error in the
  codeword, and how many requests the channel serves. -/
  | patrolScrubRead (t : Nat) (find : PatrolFind)
  /-- PAGE_REMAP_COMPLETE (R363): The copy of a retiring page to its spare completes and the page becomes REMAPPED. The page. -/
  | pageRemapComplete (t : Nat) (p : Nat)
  /-- ZERO_FILL_COMPLETE (R369): A slice or region zero-fill completes and its SCRUB_PEND clears. The instance or region. -/
  | zeroFillComplete (t : Nat) (k : Nat)
  /-- ECC_REGION_CHANGE (R359): A write of MEM_ECC_EN changing a region's bit starts its zero-fill. The word written. -/
  | eccRegionChange (t : Nat) (v : Word)
  /-- BANK_REFRESH (R371): A channel refreshes one bank. Channel, bank and whether a pause holds it back. -/
  | bankRefresh (t : Nat) (c : Nat) (b : Nat) (held : Bool)
  /-- REFRESH_RATE_READ (R371): Every 16 ms a channel reads its package's refresh-rate report. The channel and the rate
  reported. -/
  | refreshRateRead (t : Nat) (c : Nat) (rate : Nat)
  /-- RETRAIN_DUE (R372): A channel's retraining falls due INTERVAL_MS after the last one completed. The channel. -/
  | retrainDue (t : Nat) (c : Nat)
  /-- RETRAIN_OPPORTUNITY (R372): At a pause opportunity, channels with a step due take one pause each if fetch margins allow.
  The group, and channel by channel whether fetch margins allow a pause and whether its step succeeds. -/
  | retrainOpportunity (t : Nat) (g : Nat) (margins : List Bool) (results : List Bool)
  /-- RETRAIN_FORCE (R373): A retraining incomplete FORCE_MS after falling due is forced and counted. The channel. -/
  | retrainForce (t : Nat) (c : Nat)
  /-- SELF_REFRESH_ENTRY (R374): A channel idle for IDLE_US with no class 0 source active enters self-refresh. The channel. -/
  | selfRefreshEntry (t : Nat) (c : Nat)
  /-- BROWN_OUT (R381): VIN below 5.5 V for 20 µs starts the brown-out sequence from the hold-up store. VIN and store in mV,
  input current in mA. -/
  | brownOut (t : Nat) (vin : Nat) (store : Nat) (iin : Nat)
  /-- OVERVOLTAGE (R378): VIN above 42 V for 10 µs opens the input switch and starts the brown-out sequence. VIN and store in
  mV, input current in mA. -/
  | overvoltage (t : Nat) (vin : Nat) (store : Nat) (iin : Nat)
  /-- VIN_RECOVERED (R377): VIN within 6 V to 40 V for 1 ms ends a brown-out or closes the input switch. VIN and store in mV,
  input current in mA. -/
  | vinRecovered (t : Nat) (vin : Nat) (store : Nat) (iin : Nat)
  /-- RIDE_THROUGH_EXPIRY (R381): A brown-out not recovered after 10 ms starts a module reset and orderly power-down. -/
  | rideThroughExpiry (t : Nat)
  /-- PD0_POWER_UP (R392): PD0 powers up and a cold start clears all state. VIN and store in mV, input current in mA. -/
  | pd0PowerUp (t : Nat) (vin : Nat) (store : Nat) (iin : Nat)
  /-- PD0_POWER_LOSS (R377): VIN and the hold-up store fall below threshold and PD0 loses power. VIN and store in mV, input
  current in mA. -/
  | pd0PowerLoss (t : Nat) (vin : Nat) (store : Nat) (iin : Nat)
  /-- PWR_EN_RISE (R384): PWR_EN rising with the start condition met starts the power-up sequence. VIN and store in mV, input
  current in mA. -/
  | pwrEnRise (t : Nat) (vin : Nat) (store : Nat) (iin : Nat)
  /-- PWR_EN_LOW (R392): PWR_EN low for 1 ms starts a module reset. -/
  | pwrEnLow (t : Nat)
  /-- DOMAIN_GOOD (R384): A domain reports its rails good and the next power-up step begins. The domain. -/
  | domainGood (t : Nat) (d : Nat)
  /-- DOMAIN_GOOD_TIMEOUT (R384): A domain not good within 5 ms of its step fails the start. The domain, and whether the commit
  of LAST_REASON succeeds. -/
  | domainGoodTimeout (t : Nat) (d : Nat) (ok : Bool)
  /-- RENDER_GATE_IDLE (R385): A render domain idle for GATE_IDLE_US is switched off. The domain. -/
  | renderGateIdle (t : Nat) (d : Nat)
  /-- THERMAL_SAMPLE (R389): Every 1 ms the die sensors are read and T_DIE judged against throttle and shutdown limits. The
  sensors and T_MOD, in °C. -/
  | thermalSample (t : Nat) (die : DieSensors) (tMod : Int)
  /-- THERMAL_TRIP (R391): T_DIE of 125 °C or T_MOD of 110 °C starts a module reset with cause thermal. T_DIE and T_MOD, in °C. -/
  | thermalTrip (t : Nat) (tDie : Int) (tMod : Int)
  /-- THERMAL_RECOVERY (R391): T_DIE below 90 °C for 60 s allows power-up again. VIN and store in mV, input current in mA. -/
  | thermalRecovery (t : Nat) (vin : Nat) (store : Nat) (iin : Nat)
  /-- PWR_RESET (R398): A write of PWR_RESET with GO and the key starts a module reset. The word written. -/
  | pwrReset (t : Nat) (v : Word)
  /-- CONVENTIONAL_PCIE_RESET (R394): PERST_N low, hot reset or link down resets configuration space, destroys tenants and
  resets I0. 0 PERST_N low, 1 hot reset, 2 link down. -/
  | conventionalPcieReset (t : Nat) (kind : Nat)
  /-- PERST_N_RISE (R404): PERST_N rising without module reset lets the PF answer configuration requests after 20 ms. -/
  | perstNRise (t : Nat)
  /-- BOOT_START (R403): The boot ROM reads the persistent store, applies the failed-start count and chooses the boot slot.
  Whether the root PLL locked, and the outcomes of the commits in order. -/
  | bootStart (t : Nat) (pll : Bool) (oks : List Bool)
  /-- BOOT_STAGE_COMPLETE (R403): A start stage completes and the next begins, up to RUN. How the stage turned out. -/
  | bootStageComplete (t : Nat) (o : BootOutcome)
  /-- START_DEADLINE (R407): RUN not reached 3,000 ms after reset release fails the start with reason 0x0B. Whether the commit
  succeeds. -/
  | startDeadline (t : Nat) (ok : Bool)
  /-- RETRY (R411): BOOT_CTRL.RETRY with the key commits ATTEMPTS 0 and starts a module reset. The word written and whether the
  commit succeeds. -/
  | retry (t : Nat) (v : Word) (ok : Bool)
  /-- SEEDLING (R411): BOOT_CTRL.SEEDLING with the key commits ATTEMPTS 3 and reason 0x0F and resets into Seedling mode. The
  word written and whether the commit succeeds. -/
  | seedling (t : Nat) (v : Word) (ok : Bool)
  /-- UPD_BEGIN (R415): UPD_CTRL.BEGIN discards any package and starts receiving from the chosen source. SRC, and whether the
  commit succeeds. -/
  | updBegin (t : Nat) (src : Nat) (ok : Bool)
  /-- UPD_CANCEL (R418): UPD_CTRL.CANCEL ends the update and sets STATE IDLE. Whether the commit succeeds. -/
  | updCancel (t : Nat) (ok : Bool)
  /-- UPD_INSTALL (R419): UPD_CTRL.INSTALL checks and writes each component of a complete package. -/
  | updInstall (t : Nat)
  /-- INSTALL_COMPLETE (R419): The install finishes, commits the store record and sets INSTALLED, or fails. Whether the areas
  program and verify, and whether the commit succeeds. -/
  | installComplete (t : Nat) (progOk : Bool) (ok : Bool)
  /-- UPD_XFER (R416): UPD_XFER.GO reads a chunk from host memory for its index. The word written. -/
  | updXfer (t : Nat) (v : Word)
  /-- UPD_XFER_COMPLETE (R416): A transferred chunk is programmed, verified and kept or refused, and RESULT set. The bytes
  read, whether the read, the programming and the commit succeed. -/
  | updXferComplete (t : Nat) (data : List Byte) (readOk : Bool) (progOk : Bool) (ok : Bool)
  /-- COAP_UPDATE_START (R417): A POST to /w12/upd from the server starts a CoAP update or is answered 4.09. Whether the POST
  is from the server, and whether the commit succeeds. -/
  | coapUpdateStart (t : Nat) (fromServer : Bool) (ok : Bool)
  /-- COAP_RESPONSE (R417): A CoAP block response is taken and the chunk kept or the exchange counted as failed. The block,
  whether more follow, how the exchange ended, and whether programming and the commit succeed. -/
  | coapResponse (t : Nat) (data : List Byte) (more : Bool) (reply : CoapReply) (progOk : Bool) (ok : Bool)
  /-- COAP_RETRY (R417): After RETRY_S seconds a failed CoAP exchange is retried. -/
  | coapRetry (t : Nat)
  /-- COAP_HEALTH_GET (R417): A GET of /w12/health is answered with the health record. -/
  | coapHealthGet (t : Nat)
  /-- QUOTE (R423): ID_CTRL.GO with OP QUOTE signs and writes the attestation quote by DMA. -/
  | quote (t : Nat)
  /-- CERTS (R423): ID_CTRL.GO with OP CERTS writes the two certificates by DMA. -/
  | certs (t : Nat)
  /-- ATTEST_COMPLETE (R423): The attestation DMA ends and RESULT reads ST_OK or ST_NOT_OWNER. Whether the DMA succeeded. -/
  | attestComplete (t : Nat) (ok : Bool)
  /-- WORKGROUP_COMPLETE (R161): A workgroup of a compute dispatch finishes on its cluster, freeing the cluster for its granted
  context or fill and completing the DISPATCH, and with it a CS_SUBMIT, when it is the last. The context, the place of the
  dispatch among those outstanding, and the workgroup, counted along x, then y, then z. -/
  | workgroupComplete (t : Nat) (c : Nat) (d : Nat) (g : Nat)
  /-- ENGINE_SAMPLE_PERIOD (R321): In every engine sample period Fennel computes one sample of each channel and bus, puts one
  frame into each TX FIFO and takes one from each RX FIFO. -/
  | engineSamplePeriod (t : Nat)
  /-- PCIE_LINK_L0 (R296): The PCIe link enters L0, ending host absence for the reason link down when its other conditions
  hold. -/
  | pcieLinkL0 (t : Nat)
  /-- START_ALLOWED (R377): The start condition becomes true, VIN at least 6.0 V and the hold-up store at least 34.0 V with
  PWR_EN already high, and the power-up sequence begins. VIN and store in mV, input current in mA. -/
  | startAllowed (t : Nat) (vin : Nat) (store : Nat) (iin : Nat)
  /-- RESET_STAGE_RELEASE (R393): With its domains kept powered, a module reset releases the PD1 blocks at 2.5 ms and every
  other block, the DTIME epoch, at 3.0 ms after it began. -/
  | resetStageRelease (t : Nat)
  /-- COAP_EXCHANGE_TIMEOUT (R417): A confirmable CoAP request gets no answer within the default RFC 7252 transmission
  parameters and the exchange fails, to be retried after RETRY_S. -/
  | coapExchangeTimeout (t : Nat)
  /-- PTP_DELAY_RESPONSE (R26): A Delay_Resp message of the default profile, or a peer-delay response of the power utility
  profile, is taken and updates the path delay used by the servo. Responder, PTP domain, egress time of the request, and its
  receive and response times at the peer. -/
  | ptpDelayResponse (t : Nat) (ident : Nat) (domain : Nat) (egress : Nat) (peerRx : Int) (peerTx : Int)
  /-- MSIX_VECTOR_UNMASK (R107): The host clears a vector's mask bit and the device sends the message whose pending bit was set
  while masked. Function and vector. -/
  | msixVectorUnmask (t : Nat) (fn : Nat) (v : Nat)
  /-- VF_ENABLE_SET (R459): The host sets VF Enable, so that VFs up to NumVFs exist and decode BAR2 with their instances
  ABSENT. NumVFs. -/
  | vfEnableSet (t : Nat) (v : Nat)
  /-- FONT_REGION_REWRITE_COMPLETE (R286): After fault 0x12 in the font region, the rewrite from flash completes and
  VAL_FONT_LOAD no longer completes with ST_FAULT_TRANSIENT. -/
  | fontRegionRewriteComplete (t : Nat)
deriving DecidableEq, Repr

end Sys2Proof
end

