-- ==== Sys2Proof/Decode.lean ====
section
/-! DEFINITION. The reading of a word as a command.  The table gives no row of this block any bits: a command reaches the device as
an access, a message or an event, and no word spells one. -/

namespace Sys2Proof

/-- The command that a word spells by the bits of the table: none, since no row has bits. -/
def decodeTableWord (_nbits _w : Nat) : Option Instr := none

end Sys2Proof
end

