-- ==== Sys2Proof/Machine/Bits.lean ====
section
/-! DEFINITION. Bit-field, byte-order and sign helpers (R8). -/

namespace Sys2Proof.Machine

/-- Bits `hi` to `lo` of a number. -/
def bitsOf (v hi lo : Nat) : Nat := (v >>> lo) % 2 ^ (hi + 1 - lo)

/-- A number with bits `hi` to `lo` replaced by `x` (cut to the field's width). -/
def setBits (v hi lo x : Nat) : Nat :=
  (v >>> (hi + 1)) <<< (hi + 1) + (x % 2 ^ (hi + 1 - lo)) <<< lo + v % 2 ^ lo

/-- Whether bit `i` of a number is 1. -/
def bit (v i : Nat) : Bool := v / 2 ^ i % 2 = 1

/-- A number with bit `i` set. -/
def setBit (v i : Nat) : Nat := if bit v i then v else v + 2 ^ i

/-- A number with bit `i` cleared. -/
def clearBit (v i : Nat) : Nat := if bit v i then v - 2 ^ i else v

/-- How many of the low `n` bits are 1. -/
def popCount (n v : Nat) : Nat := ((List.range n).filter (bit v)).length

/-- `n` bytes at byte offset `off`, least significant first (R8). -/
def bytesAt {w : Nat} (x : BitVec w) (off n : Nat) : Nat := (x.toNat >>> (8 * off)) % 256 ^ n

def u8 {w : Nat} (x : BitVec w) (off : Nat) : Nat := bytesAt x off 1
def u16 {w : Nat} (x : BitVec w) (off : Nat) : Nat := bytesAt x off 2
def u32 {w : Nat} (x : BitVec w) (off : Nat) : Nat := bytesAt x off 4
def u64 {w : Nat} (x : BitVec w) (off : Nat) : Nat := bytesAt x off 8

/-- The two's complement value of the low `w` bits. -/
def signed (w v : Nat) : Int :=
  if v % 2 ^ w < 2 ^ (w - 1) then (v % 2 ^ w : Nat) else (v % 2 ^ w : Nat) - (2 ^ w : Nat)

/-- The low `w` bits that stand for an integer in two's complement. -/
def unsigned (w : Nat) (i : Int) : Nat := (i % (2 ^ w : Nat)).toNat

/-- A value placed at a byte offset, for building a record by addition (R8). -/
def at8 (off v : Nat) : Nat := (v % 256) <<< (8 * off)
def at16 (off v : Nat) : Nat := (v % 65536) <<< (8 * off)
def at32 (off v : Nat) : Nat := (v % 2 ^ 32) <<< (8 * off)
def at48 (off v : Nat) : Nat := (v % 2 ^ 48) <<< (8 * off)
def at64 (off v : Nat) : Nat := (v % 2 ^ 64) <<< (8 * off)

/-- The `n` bytes of a number, least significant first. -/
def toBytes : Nat → Nat → List Byte
  | 0, _ => []
  | n + 1, v => BitVec.ofNat 8 v :: toBytes n (v / 256)

/-- The number that bytes spell, least significant first. -/
def ofBytes : List Byte → Nat
  | [] => 0
  | b :: bs => b.toNat + 256 * ofBytes bs

/-- A 32-bit counter that saturates at 0xFFFF_FFFF. -/
def satAdd32 (a b : Nat) : Nat := min (a + b) 0xFFFFFFFF

/-- A 16-bit counter that saturates at 0xFFFF. -/
def satAdd16 (a b : Nat) : Nat := min (a + b) 0xFFFF

/-- The quotient rounded up. -/
def ceilDiv (a b : Nat) : Nat := (a + b - 1) / b

end Sys2Proof.Machine
end

