-- ==== Sys2Proof/Config.lean ====
section
/-! DEFINITION. Values the spec leaves open.  Each is a constant without a body: nothing in Lean can evaluate it, and a
claim about the machine holds whatever it is.  Where a value is drawn afresh each time, the meaning applies the
constant to the counter `State.free` and advances the counter. -/

namespace Sys2Proof

/-! ### The body of a setup blob (R400)

Tangatra's format of the body is not in the spec: `Config.parseBlob` stands for the firmware's reading of it. -/

/-- A plate of the Shallot section: its place in the plate store, its size, its CRC and its words (R262). -/
structure BlobPlate where
  offset : Nat
  w : Nat
  h : Nat
  crc : Nat
  words : List Nat
deriving DecidableEq, Repr, Inhabited

/-- A protected region of the Shallot section (R261, Table 10.1): plates as places in the section's list of plates. -/
structure BlobRegion where
  head : Nat
  region : Nat
  x : Nat
  y : Nat
  w : Nat
  h : Nat
  initial : Nat
  plates : List Nat
deriving DecidableEq, Repr, Inhabited

/-- The Shallot section (R258, R261, R264, R274, R276, R279, R284, R359). -/
structure ShallotSection where
  inst : Nat
  pageOfs : Nat
  limitUs : Nat
  colour : Nat
  mgrWdMs : Nat
  alertMask : Nat
  /-- SINK_CRC and PERIOD_M1 of heads 0 to 11. -/
  heads : List (Nat × Nat)
  /-- The plate store, in chunks. -/
  storeBase : Nat
  storeSize : Nat
  plates : List BlobPlate
  regions : List BlobRegion
deriving DecidableEq, Repr, Inhabited

/-- The body of a setup blob. -/
structure BlobBody where
  /-- Register writes of the wall configuration, as BAR0 offset and value, in order. -/
  config : List (Nat × Nat)
  shallot : ShallotSection
  /-- The font region's bytes from its start (Table 9.5). -/
  fonts : List Byte
  /-- Management port settings, as the bytes of MGMT (Table 16.5). -/
  mgmt : List Byte
  /-- Key operations (R401): some h enrols the key with hash h, none-with-slot revokes: (0, hash) or (1, slot). -/
  keyOps : List (Nat × Nat)
  /-- Channel hash masks (R354). -/
  masks : List Nat
deriving DecidableEq, Repr, Inhabited

/-- The firmware's reading of a setup blob's body. -/
opaque Config.parseBlob : List Byte → BlobBody

/-! ### Shaders (R146 to R150)

The engine's instruction set is not in the spec, and a shader means what SPIR-V and Vulkan 1.3 give it.  What the device does of its
own around a shader is the model's: the checks of modules that this spec states, the entries a pipeline uses, every access to memory
and its bounds, attribute and index fetch, bins, tiles, tests, blending and stores. -/

/-- What the firmware's translator makes of a pipeline (R150, R153): what fails SPIR-V's and Vulkan's own validation, as module and the
number of the instruction among those that it does not ignore; V; the size of the translation; the bindings used with the type of each;
and the code. -/
structure Translation where
  findings : List (Nat × Nat)
  vOut : Nat
  sizeMiB : Nat
  uses : List (Nat × Nat)
  code : List Nat
deriving DecidableEq, Repr, Inhabited

/-- The translation of a record (bytes 0–63 and 128–255) with its modules, as words without their NonSemantic instructions (R148), by a
firmware version; of nothing else (R150). -/
opaque Config.translate : (record : List Byte) → (modules : List (List Nat)) → (firmware : Nat) → Translation

/-- One unit of shader work: vertex work of a draw (stage 0), fragment work of a primitive in a tile (1) or a workgroup (2), with its
arguments, the context state words, the resource table entries it uses, by binding, and the primitive record of fragment work. -/
structure ShaderJob where
  code : List Nat
  stage : Nat
  args : List Nat
  words : List Nat
  entries : List (Nat × Rec32)
  record : List Byte
deriving DecidableEq, Repr, Inhabited

/-- A primitive that survives clipping and culling: its record, and the tiles it touches, twice the tile plus FULL (R129, R131). -/
structure Prim where
  record : List Byte
  tiles : List Nat
deriving DecidableEq, Repr, Inhabited

/-- Fragment work on a pixel of a tile: which samples it covers, whether its primitive faces front, the depth of each sample, and four
components for each colour attachment; FP32 encodings, or integers for a UINT attachment. -/
structure Frag where
  pixel : Nat
  mask : Nat
  front : Bool
  depth : List Nat
  colours : List (List Nat)
deriving DecidableEq, Repr, Inhabited

/-- The arithmetic operations that R150 defines to the bit. -/
inductive FpOp where
  | add | sub | mul | fma | half
deriving DecidableEq, Repr, Inhabited

/-- What a unit of work asks of the engine next; an atomic answers the old bytes, an operation its result. -/
inductive ShaderReq where
  | load (binding ofs len : Nat)
  | store (binding ofs : Nat) (bytes : List Byte)
  | atomic (binding ofs len : Nat) (new : List Byte → List Byte)
  | texel (binding x y : Nat)
  | putTexel (binding x y : Nat) (bytes : List Byte)
  | atomicTexel (binding x y : Nat) (new : List Byte → List Byte)
  /-- The attribute at a location, of a vertex and an instance. -/
  | attr (location vertex inst : Nat)
  /-- The texels that a sampled image's sampler selects at a place in texels × 256, minified or not (Table 6.6). -/
  | sample (binding sampler : Nat) (u v : Int) (minify : Bool)
  /-- FP32 arithmetic: sum, difference, product, fused multiply-add, or rounding to FP16 (R150). -/
  | fp (op : FpOp) (a b c : Nat)
  /-- The work is done, with its primitives or its fragments in order. -/
  | done (prims : List Prim) (frags : List Frag)
deriving Inhabited

/-- A shader's next request, given its job and the answers to its requests so far. -/
opaque Config.shader : ShaderJob → (answers : List (List Byte)) → ShaderReq

/-- How many requests a unit of work makes. -/
opaque Config.shaderSteps : ShaderJob → Nat

/-- The decoding of an 8-bit SRGB component to linear FP32, and its encoding: the spec names them and not their arithmetic (R121). -/
opaque Config.srgbDecode : Nat → Nat
opaque Config.srgbEncode : Nat → Nat

/-- Which two of some partial sums a resolve adds next: the spec names the mean and not the order of its additions (R127). -/
opaque Config.sumPick : List Nat → Nat × Nat

/-- The payload of a NaN that an FP32 operation delivers (R150). -/
opaque Config.nanPayload : Nat

/-- The 8- to 16-bit UNORM code of a NaN (R121). -/
opaque Config.unormNan : (width : Nat) → Nat

/-- The contents of a save record: what a cluster writes at a stop, in a private format (R162, R163).  `whole` tells a mid-wave stop. -/
opaque Config.saveRecord : (whole : Bool) → (number : Nat) → List Byte

/-- How a DSC encoder is set: BPC, DSC_BPP16, and the width and the height of its slices (R218). -/
structure DscSet where
  bpc : Nat
  bpp16 : Nat
  width : Nat
  lines : Nat
deriving DecidableEq, Repr, Inhabited

/-- A line of one slice as DSC 1.2a encodes it with its recommended rate control, from the encoder's state before it: the state after
it, the encoder's reconstructed pixels, and the bits (R218, R275). -/
opaque Config.dscLine : (set : DscSet) → (coder : Nat) → (line : List (Nat × Nat × Nat)) → Nat × List (Nat × Nat × Nat) × List Bool

/-- The DisplayPort test CRC of a component: its first value, and its value after a component value of a width in bits (R275; the CRC
is VESA's). -/
opaque Config.testCrcInit : BitVec 16
opaque Config.testCrc : (bits : Nat) → BitVec 16 → (value : Nat) → BitVec 16

/-- A fresh value of an open result: the frequency estimate of R27, a self-test figure, the mantissa of a computation
whose algorithm the spec does not give. -/
opaque Config.freeNat : Nat → Nat

/-- The content of a byte that a stopped COPY leaves in any mix (R96). -/
opaque Config.freeByte : Nat → Byte

/-- What a byte of a DEAD page reads as: poisoned data of no stated value (R364). -/
opaque Config.deadByte : Nat → Byte

/-- The page that the host's translation agent gives for a page of a function's address space, with its PASID, in the `n`-th period
between invalidations (R88, R110). -/
opaque Config.atsPage : (fn : Nat) → (pasid : Option Nat) → (page n : Nat) → Nat

/-- SHA-384 of a list of bytes (R401 names the function; its definition is FIPS 180-4's and outside the spec). -/
opaque Config.sha384 : List Byte → Nat

/-- SHA-256 of a list of bytes, the key of the translation cache (R155). -/
opaque Config.sha256 : List Byte → Nat

/-- ECDSA P-384 verification of a signature over a digest with the key of index `key` (R401). -/
opaque Config.verify : (key digest signature : Nat) → Bool

/-- SHA-384 of the Mehrys firmware key, held in OTP (R401). -/
opaque Config.firmwareKeyHash : Nat

/-- The Shallot firmware in a boot image (R403): the spec does not give the image's layout. -/
opaque Config.shallotImage : List Byte → List Byte

/-- The two certificates in an identity area (R422): the spec does not give the area's layout. -/
opaque Config.certificates : List Byte → List Byte × List Byte

/-- The subject serialNumber, as character codes, and the public key of a certificate in X.509 v3 DER (R422). -/
opaque Config.certFields : List Byte → List Nat × Nat

/-- A glyph bit of the boot ROM's font for the out-of-service card (R410): character code, row and column. -/
opaque Config.romGlyph : (code row col : Nat) → Bool

/-- ECDSA P-384 signature of a digest by the device key (R423). -/
opaque Config.sign : (digest nonce : Nat) → Nat

end Sys2Proof
end

