-- ==== Sys2Proof/Machine/Regs.lean ====
section
/-! DEFINITION. The setup registers: one constructor per register of Tables 18.4 to 18.15 (R444), its place, its
reset value and its fields with their access codes (R11, Table 0.5) and admitted values.  Unit indices follow the
manual's names: `LYR_FMT 20` is LYR_20_FMT, `HD_CTRL 7` is HD7_CTRL, `HDG_PLL 1` is HD_G1_PLL, `HDCG_CTRL 2` is
HD_CG2_CTRL, `ART_R_POS 3 5` is ART_HD3_R5_POS.  `TIME_F_LIMIT n`, `HOST_LIMIT n` and `HOST_PASID n k` count from 0,
so `TIME_F_LIMIT 0` is TIME_F1_LIMIT and `HOST_LIMIT 0` is HOST_1_LIMIT.  The registers of a ring setup page carry
the function they belong to: 0 the PF, n the VF n. -/

namespace Sys2Proof.Machine

/-- Access codes of Table 0.5 (R11). -/
inductive Acc where
  | rw | ro | wo | w1c | w1s | rc | lk
deriving DecidableEq, Repr

/-- One field of a register: bits `hi` to `lo`, its access code and the values it admits (R48, R81, R457; an empty
list admits every value). -/
structure FieldSpec where
  hi : Nat
  lo : Nat
  acc : Acc
  ok : List (Nat × Nat) := []
deriving DecidableEq, Repr

/-- The registers of a ring setup page (R452, Table 18.15). -/
inductive PageReg where
  | SQ_BASE_LO (q : Nat)
  | SQ_BASE_HI (q : Nat)
  | SQ_CFG (q : Nat)
  | SQ_PTR (q : Nat)
  | CQ_BASE_LO (c : Nat)
  | CQ_BASE_HI (c : Nat)
  | CQ_CFG (c : Nat)
  | CQ_MOD (c : Nat)
  | CQ_PTR (c : Nat)
  | EQ_BASE_LO
  | EQ_BASE_HI
  | EQ_CFG
  | EQ_MOD
  | EQ_PTR
  | EQ_DROP
  | INST_SELF
  | INST_LEASE_KICK
  | INST_MB_DOORBELL
  | INST_LAST_DB_STATUS
  | VF_TIME_NOW_LO
  | VF_TIME_NOW_HI
  | VF_TIME_STATUS
  | VF_TIME_TAI_OFFSET_LO
  | VF_TIME_TAI_OFFSET_HI
deriving DecidableEq, Repr

/-- The setup registers (R444); `page f r` is register `r` of the ring setup page of function `f`. -/
inductive Reg where
  | ID_VENDOR
  | ID_SUBSYS
  | ID_VF_DEVICE
  | ID_FAMILY
  | ID_SCALE0
  | ID_SCALE1
  | ID_FW
  | ID_LOCK
  | ID_SERIAL (j : Nat)
  | ID_STATUS
  | ID_NONCE (k : Nat)
  | ID_OUT_ADDR_LO
  | ID_OUT_ADDR_HI
  | ID_CTRL
  | BOOT_STATUS
  | BOOT_REASON
  | BOOT_CTRL
  | UPD_CTRL
  | UPD_STATUS
  | UPD_PKG_LO
  | UPD_PKG_HI
  | UPD_XFER_ADDR_LO
  | UPD_XFER_ADDR_HI
  | UPD_XFER
  | UPD_XFER_RESULT
  | UPD_COAP
  | PWR_STATUS
  | PWR_IIN
  | PWR_DOMAIN
  | PWR_CTRL
  | PWR_RESET
  | PWR_BO_COUNT
  | PWR_THERM
  | PWR_THROTTLE
  | PWR_THROTTLE_MS
  | PWR_GPIO
  | CLK_STATUS
  | TIME_NOW_LO
  | TIME_NOW_HI
  | TIME_TAI_OFFSET_LO
  | TIME_TAI_OFFSET_HI
  | TIME_UNCERT
  | TIME_EPOCH_ACC
  | TIME_STEP_COUNT
  | TIME_SYNC_PERIOD
  | TIME_STATUS
  | TIME_CTRL
  | TIME_F_LIMIT (n : Nat)
  | TIME_F_TREAT (n : Nat)
  | TIME_F_COLOUR (n : Nat)
  | SHL_STATUS
  | SHL_ALERT
  | SHL_ALERT_MASK
  | SHL_ALERT_LATCH
  | SHL_MGR_WD
  | SHL_MGR_KICK
  | SHL_RET_HEAD
  | SHL_RET_PIPE (i : Nat)
  | SHL_RET_CLUSTER
  | SHL_RET_PORTS
  | SHL_RET_PAGES
  | SHL_UNRETIRE
  | SHL_TRANSIENT_TOTAL
  | SHL_LOG_HEAD
  | SHL_LOG_DROP
  | ART_SAFETY
  | ART_F7_LIMIT
  | ART_F7_COLOUR
  | ART_OVERRUN
  | ART_HD_CFG (n : Nat)
  | ART_HD_STATUS (n : Nat)
  | ART_HD_STALE (n : Nat)
  | ART_HD_SINK_RG (n : Nat)
  | ART_HD_SINK_B (n : Nat)
  | ART_HD_SIG_MISMATCH (n : Nat)
  | ART_HD_SINK_MISMATCH (n : Nat)
  | ART_R_POS (n : Nat) (r : Nat)
  | ART_R_SIZE (n : Nat) (r : Nat)
  | ART_R_SEL (n : Nat) (r : Nat)
  | ART_R_SIG (n : Nat) (r : Nat)
  | ART_R_TSRC_LO (n : Nat) (r : Nat)
  | ART_R_TSRC_HI (n : Nat) (r : Nat)
  | HOST_LIMIT (m : Nat)
  | HOST_PASID (m : Nat) (k : Nat)
  | INST_STATE (n : Nat)
  | INST_SHARE (n : Nat)
  | INST_SLICE (n : Nat)
  | INST_PASIDS (n : Nat)
  | INST_STATUS (n : Nat)
  | INST_STALE_WRITE (n : Nat)
  | INST_LATE_DROP (n : Nat)
  | INST_MB_OVERRUN (n : Nat)
  | INST_SRC_CLAMP (n : Nat)
  | INST_JOURNAL_HEAD
  | INST_MB_TIMEOUT
  | INST_JBACK
  | INST_MGR_MB_DOORBELL
  | MEM_ECC_EN
  | MEM_HASH_LO (k : Nat)
  | MEM_HASH_HI (k : Nat)
  | MEM_RETRAIN
  | MEM_SR
  | MEM_PATROL
  | MEM_ECC_CE
  | MEM_ECC_UE
  | MEM_ECC_LAST_LO
  | MEM_ECC_LAST_HI
  | MEM_MMU_FAULT
  | MEM_SPARE_FREE
  | MEM_DEAD
  | MEM_PAGE_SEL
  | MEM_PAGE_ENTRY_LO
  | MEM_PAGE_ENTRY_HI
  | MEM_CH_STATUS (c : Nat)
  | MEM_CH_RETRAINED (c : Nat)
  | MEM_CH_FORCED (c : Nat)
  | MEM_CH_LAST_LO (c : Nat)
  | MEM_CH_LAST_HI (c : Nat)
  | RND_CTX_CFG (n : Nat)
  | RND_CTX_SPILL (n : Nat)
  | RND_CTX_STATUS (n : Nat)
  | RND_CTX_FAILOFS (n : Nat)
  | RND_CTX_SPLIT_TOTAL (n : Nat)
  | SHD_CTX_SAVE (n : Nat)
  | SHD_CTX_SCHED (n : Nat)
  | SHD_CTX_PREEMPT (n : Nat)
  | SHD_CTX_NP_OVERRUN (n : Nat)
  | RND_GROW_TIMEOUT
  | RND_CLUSTER_RETIRED
  | SHD_HD_COMP (n : Nat)
  | SHD_HD_EST (n : Nat)
  | SHD_HD_LATE (n : Nat)
  | SHD_HD_MISS (n : Nat)
  | SHD_INGEST_QUEUE
  | SHD_CACHE_USED
  | SHD_CACHE_EVICT
  | LYR_HEAD (n : Nat)
  | LYR_FCLASS (n : Nat)
  | LYR_FMT (n : Nat)
  | LYR_SRC (n : Nat)
  | LYR_PITCH (n : Nat)
  | LYR_CROP_XY (n : Nat)
  | LYR_CROP_WH (n : Nat)
  | LYR_DST_XY (n : Nat)
  | LYR_DST_WH (n : Nat)
  | LYR_RP (n : Nat)
  | LYR_STATUS (n : Nat)
  | LYR_TARGET (n : Nat)
  | LYR_TSRC_LO (n : Nat)
  | LYR_TSRC_HI (n : Nat)
  | LYR_COEF_SEL (n : Nat)
  | LYR_COEF_ADDR (n : Nat)
  | LYR_COEF_DATA (n : Nat)
  | LYR_WB_HD (n : Nat)
  | LYR_WB_BUSY
  | LYR_WB_ABORT
  | HD_CTRL (n : Nat)
  | HD_HTIM (n : Nat)
  | HD_HSYNC (n : Nat)
  | HD_VTIM (n : Nat)
  | HD_VSYNC (n : Nat)
  | HD_BG (n : Nat)
  | HD_OUT (n : Nat)
  | HD_LINK (n : Nat)
  | HD_COMMIT (n : Nat)
  | HD_STATUS (n : Nat)
  | HD_BW (n : Nat)
  | HDG_PLL (g : Nat)
  | HDG_GENLOCK (g : Nat)
  | HDG_STATUS (g : Nat)
  | HDG_PHASE_ERR (g : Nat)
  | HDG_FRAME_LO (g : Nat)
  | HDG_FRAME_HI (g : Nat)
  | HD_SYNC_IN
  | HD_SYNC_OUT
  | HD_BW_BUDGET
  | HD_BW_USED
  | HDCG_CTRL (k : Nat)
  | HDCG_STATUS (k : Nat)
  | VAL_GRP_CLASS (n : Nat)
  | VAL_FDESC_D (k : Nat)
  | VAL_FDESC_CTRL
  | VAL_PEEK_SEL
  | VAL_PEEK_VAL_LO
  | VAL_PEEK_VAL_HI
  | VAL_PEEK_MEAS_LO
  | VAL_PEEK_MEAS_HI
  | VAL_PEEK_STATE
  | VAL_FONT_SRC
  | VAL_FONT_LOAD
  | VAL_FONT_CFG (k : Nat)
  | VAL_HD_COUNT (n : Nat)
  | VAL_OLD_REJECT
  | AUD_A_CFG (n : Nat)
  | AUD_A_GAIN (n : Nat)
  | AUD_A_RCTL (n : Nat)
  | AUD_A_STATUS (n : Nat)
  | AUD_A_UNDERRUN (n : Nat)
  | AUD_A_XP (n : Nat) (b : Nat)
  | AUD_B_GAIN (b : Nat)
  | AUD_B_EQ (b : Nat)
  | AUD_B_CLIP (b : Nat)
  | AUD_T_CFG (p : Nat)
  | AUD_T_WM (p : Nat)
  | AUD_T_STATUS (p : Nat)
  | AUD_T_TXMAP (p : Nat) (k : Nat)
  | AUD_T_IDLE (p : Nat)
  | AUD_T_DROP (p : Nat)
  | AUD_T_HOLDS (p : Nat)
  | AUD_T_TIME_LO (p : Nat)
  | AUD_T_TIME_HI (p : Nat)
  | AUD_HD_CFG (n : Nat)
  | AUD_HD_MAP (n : Nat) (k : Nat)
  | AUD_CFG
  | AUD_EQ_ADDR
  | AUD_EQ_DATA
  | AUD_BLOCK_TIME_LO
  | AUD_BLOCK_TIME_HI
  | TCH_CFG
  | TCH_P_CFG (p : Nat)
  | TCH_P_STATUS (p : Nat)
  | TCH_S_SRC (n : Nat)
  | TCH_S_MAP0 (n : Nat)
  | TCH_S_MAP1 (n : Nat)
  | TCH_S_MAP2 (n : Nat)
  | TCH_S_STATUS (n : Nat)
  | TCH_R_CFG (r : Nat)
  | TCH_UNROUTED
  | TCH_REFUSED
  | TCH_OVER
  | HAP_K_CFG (n : Nat)
  | HAP_K_COIL (n : Nat)
  | HAP_K_DET (n : Nat)
  | HAP_K_STATUS (n : Nat)
  | HAP_K_DROP (n : Nat)
  | HAP_TRIG (m : Nat)
  | HAP_GOV
  | HAP_GOV_LIMITED
  | page (f : Nat) (r : PageReg)
deriving DecidableEq, Repr

abbrev Reg.SQ_BASE_LO (f : Nat) (q : Nat) : Reg := .page f (.SQ_BASE_LO q)
abbrev Reg.SQ_BASE_HI (f : Nat) (q : Nat) : Reg := .page f (.SQ_BASE_HI q)
abbrev Reg.SQ_CFG (f : Nat) (q : Nat) : Reg := .page f (.SQ_CFG q)
abbrev Reg.SQ_PTR (f : Nat) (q : Nat) : Reg := .page f (.SQ_PTR q)
abbrev Reg.CQ_BASE_LO (f : Nat) (c : Nat) : Reg := .page f (.CQ_BASE_LO c)
abbrev Reg.CQ_BASE_HI (f : Nat) (c : Nat) : Reg := .page f (.CQ_BASE_HI c)
abbrev Reg.CQ_CFG (f : Nat) (c : Nat) : Reg := .page f (.CQ_CFG c)
abbrev Reg.CQ_MOD (f : Nat) (c : Nat) : Reg := .page f (.CQ_MOD c)
abbrev Reg.CQ_PTR (f : Nat) (c : Nat) : Reg := .page f (.CQ_PTR c)
abbrev Reg.EQ_BASE_LO (f : Nat) : Reg := .page f .EQ_BASE_LO
abbrev Reg.EQ_BASE_HI (f : Nat) : Reg := .page f .EQ_BASE_HI
abbrev Reg.EQ_CFG (f : Nat) : Reg := .page f .EQ_CFG
abbrev Reg.EQ_MOD (f : Nat) : Reg := .page f .EQ_MOD
abbrev Reg.EQ_PTR (f : Nat) : Reg := .page f .EQ_PTR
abbrev Reg.EQ_DROP (f : Nat) : Reg := .page f .EQ_DROP
abbrev Reg.INST_SELF (f : Nat) : Reg := .page f .INST_SELF
abbrev Reg.INST_LEASE_KICK (f : Nat) : Reg := .page f .INST_LEASE_KICK
abbrev Reg.INST_MB_DOORBELL (f : Nat) : Reg := .page f .INST_MB_DOORBELL
abbrev Reg.INST_LAST_DB_STATUS (f : Nat) : Reg := .page f .INST_LAST_DB_STATUS
abbrev Reg.VF_TIME_NOW_LO (f : Nat) : Reg := .page f .VF_TIME_NOW_LO
abbrev Reg.VF_TIME_NOW_HI (f : Nat) : Reg := .page f .VF_TIME_NOW_HI
abbrev Reg.VF_TIME_STATUS (f : Nat) : Reg := .page f .VF_TIME_STATUS
abbrev Reg.VF_TIME_TAI_OFFSET_LO (f : Nat) : Reg := .page f .VF_TIME_TAI_OFFSET_LO
abbrev Reg.VF_TIME_TAI_OFFSET_HI (f : Nat) : Reg := .page f .VF_TIME_TAI_OFFSET_HI

/-- A named field of a register. -/
structure Fld where
  reg : Reg
  hi : Nat
  lo : Nat
deriving DecidableEq, Repr

/-- Where a register lies: its BAR0 offset (R444), or, for a register of the ring setup page of function `f`, the page
offset above `(f + 1) * 2^32`. -/
def Reg.key (r : Reg) : Nat :=
  match r with
  | .ID_VENDOR => 0x0
  | .ID_SUBSYS => 0x4
  | .ID_VF_DEVICE => 0x8
  | .ID_FAMILY => 0xC
  | .ID_SCALE0 => 0x10
  | .ID_SCALE1 => 0x14
  | .ID_FW => 0x18
  | .ID_LOCK => 0x1C
  | .ID_SERIAL j => 0x20 + 4*j
  | .ID_STATUS => 0x30
  | .ID_NONCE k => 0x40 + 4*k
  | .ID_OUT_ADDR_LO => 0x60
  | .ID_OUT_ADDR_HI => 0x64
  | .ID_CTRL => 0x68
  | .BOOT_STATUS => 0x100
  | .BOOT_REASON => 0x104
  | .BOOT_CTRL => 0x108
  | .UPD_CTRL => 0x200
  | .UPD_STATUS => 0x204
  | .UPD_PKG_LO => 0x208
  | .UPD_PKG_HI => 0x20C
  | .UPD_XFER_ADDR_LO => 0x210
  | .UPD_XFER_ADDR_HI => 0x214
  | .UPD_XFER => 0x218
  | .UPD_XFER_RESULT => 0x21C
  | .UPD_COAP => 0x220
  | .PWR_STATUS => 0x300
  | .PWR_IIN => 0x304
  | .PWR_DOMAIN => 0x308
  | .PWR_CTRL => 0x30C
  | .PWR_RESET => 0x310
  | .PWR_BO_COUNT => 0x314
  | .PWR_THERM => 0x318
  | .PWR_THROTTLE => 0x31C
  | .PWR_THROTTLE_MS => 0x320
  | .PWR_GPIO => 0x324
  | .CLK_STATUS => 0x400
  | .TIME_NOW_LO => 0x10000
  | .TIME_NOW_HI => 0x10004
  | .TIME_TAI_OFFSET_LO => 0x10008
  | .TIME_TAI_OFFSET_HI => 0x1000C
  | .TIME_UNCERT => 0x10010
  | .TIME_EPOCH_ACC => 0x10014
  | .TIME_STEP_COUNT => 0x10018
  | .TIME_SYNC_PERIOD => 0x1001C
  | .TIME_STATUS => 0x10020
  | .TIME_CTRL => 0x10024
  | .TIME_F_LIMIT n => 0x10100 + 0x10*n
  | .TIME_F_TREAT n => 0x10104 + 0x10*n
  | .TIME_F_COLOUR n => 0x10108 + 0x10*n
  | .SHL_STATUS => 0x20000
  | .SHL_ALERT => 0x20004
  | .SHL_ALERT_MASK => 0x20008
  | .SHL_ALERT_LATCH => 0x2000C
  | .SHL_MGR_WD => 0x20010
  | .SHL_MGR_KICK => 0x20014
  | .SHL_RET_HEAD => 0x20020
  | .SHL_RET_PIPE i => 0x20024 + 4*i
  | .SHL_RET_CLUSTER => 0x20030
  | .SHL_RET_PORTS => 0x20034
  | .SHL_RET_PAGES => 0x20038
  | .SHL_UNRETIRE => 0x20040
  | .SHL_TRANSIENT_TOTAL => 0x20044
  | .SHL_LOG_HEAD => 0x20048
  | .SHL_LOG_DROP => 0x2004C
  | .ART_SAFETY => 0x30000
  | .ART_F7_LIMIT => 0x30004
  | .ART_F7_COLOUR => 0x30008
  | .ART_OVERRUN => 0x3000C
  | .ART_HD_CFG n => 0x30100 + 0x20*n
  | .ART_HD_STATUS n => 0x30104 + 0x20*n
  | .ART_HD_STALE n => 0x30108 + 0x20*n
  | .ART_HD_SINK_RG n => 0x3010C + 0x20*n
  | .ART_HD_SINK_B n => 0x30110 + 0x20*n
  | .ART_HD_SIG_MISMATCH n => 0x30114 + 0x20*n
  | .ART_HD_SINK_MISMATCH n => 0x30118 + 0x20*n
  | .ART_R_POS n r => 0x31000 + 0x200*n + 0x20*r
  | .ART_R_SIZE n r => 0x31004 + 0x200*n + 0x20*r
  | .ART_R_SEL n r => 0x31008 + 0x200*n + 0x20*r
  | .ART_R_SIG n r => 0x3100C + 0x200*n + 0x20*r
  | .ART_R_TSRC_LO n r => 0x31010 + 0x200*n + 0x20*r
  | .ART_R_TSRC_HI n r => 0x31014 + 0x200*n + 0x20*r
  | .HOST_LIMIT m => 0x40000 + 0x80*m
  | .HOST_PASID m k => 0x40040 + 0x80*m + 4*k
  | .INST_STATE n => 0x50000 + 0x40*n
  | .INST_SHARE n => 0x50004 + 0x40*n
  | .INST_SLICE n => 0x50008 + 0x40*n
  | .INST_PASIDS n => 0x5000C + 0x40*n
  | .INST_STATUS n => 0x50010 + 0x40*n
  | .INST_STALE_WRITE n => 0x50014 + 0x40*n
  | .INST_LATE_DROP n => 0x50018 + 0x40*n
  | .INST_MB_OVERRUN n => 0x5001C + 0x40*n
  | .INST_SRC_CLAMP n => 0x50020 + 0x40*n
  | .INST_JOURNAL_HEAD => 0x58000
  | .INST_MB_TIMEOUT => 0x58004
  | .INST_JBACK => 0x58008
  | .INST_MGR_MB_DOORBELL => 0x5800C
  | .MEM_ECC_EN => 0x60000
  | .MEM_HASH_LO k => 0x60010 + 8*k
  | .MEM_HASH_HI k => 0x60014 + 8*k
  | .MEM_RETRAIN => 0x60040
  | .MEM_SR => 0x60044
  | .MEM_PATROL => 0x60048
  | .MEM_ECC_CE => 0x60050
  | .MEM_ECC_UE => 0x60054
  | .MEM_ECC_LAST_LO => 0x60058
  | .MEM_ECC_LAST_HI => 0x6005C
  | .MEM_MMU_FAULT => 0x60060
  | .MEM_SPARE_FREE => 0x60064
  | .MEM_DEAD => 0x60068
  | .MEM_PAGE_SEL => 0x60070
  | .MEM_PAGE_ENTRY_LO => 0x60074
  | .MEM_PAGE_ENTRY_HI => 0x60078
  | .MEM_CH_STATUS c => 0x60100 + 0x20*c
  | .MEM_CH_RETRAINED c => 0x60104 + 0x20*c
  | .MEM_CH_FORCED c => 0x60108 + 0x20*c
  | .MEM_CH_LAST_LO c => 0x6010C + 0x20*c
  | .MEM_CH_LAST_HI c => 0x60110 + 0x20*c
  | .RND_CTX_CFG n => 0x80000 + 0x40*n
  | .RND_CTX_SPILL n => 0x80004 + 0x40*n
  | .RND_CTX_STATUS n => 0x80008 + 0x40*n
  | .RND_CTX_FAILOFS n => 0x8000C + 0x40*n
  | .RND_CTX_SPLIT_TOTAL n => 0x80010 + 0x40*n
  | .SHD_CTX_SAVE n => 0x80020 + 0x40*n
  | .SHD_CTX_SCHED n => 0x80024 + 0x40*n
  | .SHD_CTX_PREEMPT n => 0x80028 + 0x40*n
  | .SHD_CTX_NP_OVERRUN n => 0x8002C + 0x40*n
  | .RND_GROW_TIMEOUT => 0x88000
  | .RND_CLUSTER_RETIRED => 0x88004
  | .SHD_HD_COMP n => 0x89000 + 0x10*n
  | .SHD_HD_EST n => 0x89004 + 0x10*n
  | .SHD_HD_LATE n => 0x89008 + 0x10*n
  | .SHD_HD_MISS n => 0x8900C + 0x10*n
  | .SHD_INGEST_QUEUE => 0x8A000
  | .SHD_CACHE_USED => 0x8A004
  | .SHD_CACHE_EVICT => 0x8A008
  | .LYR_HEAD n => 0xA0000 + 0x80*n
  | .LYR_FCLASS n => 0xA0004 + 0x80*n
  | .LYR_FMT n => 0xA0008 + 0x80*n
  | .LYR_SRC n => 0xA000C + 0x80*n
  | .LYR_PITCH n => 0xA0010 + 0x80*n
  | .LYR_CROP_XY n => 0xA0014 + 0x80*n
  | .LYR_CROP_WH n => 0xA0018 + 0x80*n
  | .LYR_DST_XY n => 0xA001C + 0x80*n
  | .LYR_DST_WH n => 0xA0020 + 0x80*n
  | .LYR_RP n => 0xA0024 + 0x80*n
  | .LYR_STATUS n => 0xA0028 + 0x80*n
  | .LYR_TARGET n => 0xA002C + 0x80*n
  | .LYR_TSRC_LO n => 0xA0030 + 0x80*n
  | .LYR_TSRC_HI n => 0xA0034 + 0x80*n
  | .LYR_COEF_SEL n => 0xA0040 + 0x80*n
  | .LYR_COEF_ADDR n => 0xA0044 + 0x80*n
  | .LYR_COEF_DATA n => 0xA0048 + 0x80*n
  | .LYR_WB_HD n => 0xA4000 + 4*n
  | .LYR_WB_BUSY => 0xA4040
  | .LYR_WB_ABORT => 0xA4044
  | .HD_CTRL n => 0xB0000 + 0x40*n
  | .HD_HTIM n => 0xB0004 + 0x40*n
  | .HD_HSYNC n => 0xB0008 + 0x40*n
  | .HD_VTIM n => 0xB000C + 0x40*n
  | .HD_VSYNC n => 0xB0010 + 0x40*n
  | .HD_BG n => 0xB0014 + 0x40*n
  | .HD_OUT n => 0xB0018 + 0x40*n
  | .HD_LINK n => 0xB001C + 0x40*n
  | .HD_COMMIT n => 0xB0020 + 0x40*n
  | .HD_STATUS n => 0xB0024 + 0x40*n
  | .HD_BW n => 0xB0028 + 0x40*n
  | .HDG_PLL g => 0xB1000 + 0x40*g
  | .HDG_GENLOCK g => 0xB1004 + 0x40*g
  | .HDG_STATUS g => 0xB1008 + 0x40*g
  | .HDG_PHASE_ERR g => 0xB100C + 0x40*g
  | .HDG_FRAME_LO g => 0xB1010 + 0x40*g
  | .HDG_FRAME_HI g => 0xB1014 + 0x40*g
  | .HD_SYNC_IN => 0xB2000
  | .HD_SYNC_OUT => 0xB2004
  | .HD_BW_BUDGET => 0xB2008
  | .HD_BW_USED => 0xB200C
  | .HDCG_CTRL k => 0xB2100 + 0x10*k
  | .HDCG_STATUS k => 0xB2104 + 0x10*k
  | .VAL_GRP_CLASS n => 0xC0000 + 4*n
  | .VAL_FDESC_D k => 0xC1000 + 4*k
  | .VAL_FDESC_CTRL => 0xC1020
  | .VAL_PEEK_SEL => 0xC1030
  | .VAL_PEEK_VAL_LO => 0xC1034
  | .VAL_PEEK_VAL_HI => 0xC1038
  | .VAL_PEEK_MEAS_LO => 0xC103C
  | .VAL_PEEK_MEAS_HI => 0xC1040
  | .VAL_PEEK_STATE => 0xC1044
  | .VAL_FONT_SRC => 0xC1050
  | .VAL_FONT_LOAD => 0xC1054
  | .VAL_FONT_CFG k => 0xC1060 + 4*k
  | .VAL_HD_COUNT n => 0xC1080 + 4*n
  | .VAL_OLD_REJECT => 0xC10B0
  | .AUD_A_CFG n => 0xD0000 + 0x100*n
  | .AUD_A_GAIN n => 0xD0004 + 0x100*n
  | .AUD_A_RCTL n => 0xD0008 + 0x100*n
  | .AUD_A_STATUS n => 0xD000C + 0x100*n
  | .AUD_A_UNDERRUN n => 0xD0010 + 0x100*n
  | .AUD_A_XP n b => 0xD0080 + 0x100*n + 4*b
  | .AUD_B_GAIN b => 0xD4000 + 0x10*b
  | .AUD_B_EQ b => 0xD4004 + 0x10*b
  | .AUD_B_CLIP b => 0xD4008 + 0x10*b
  | .AUD_T_CFG p => 0xD5000 + 0x40*p
  | .AUD_T_WM p => 0xD5004 + 0x40*p
  | .AUD_T_STATUS p => 0xD5008 + 0x40*p
  | .AUD_T_TXMAP p k => 0xD5010 + 0x40*p + 4*k
  | .AUD_T_IDLE p => 0xD5020 + 0x40*p
  | .AUD_T_DROP p => 0xD5024 + 0x40*p
  | .AUD_T_HOLDS p => 0xD5028 + 0x40*p
  | .AUD_T_TIME_LO p => 0xD502C + 0x40*p
  | .AUD_T_TIME_HI p => 0xD5030 + 0x40*p
  | .AUD_HD_CFG n => 0xD5100 + 0x10*n
  | .AUD_HD_MAP n k => 0xD5104 + 0x10*n + 4*k
  | .AUD_CFG => 0xD6000
  | .AUD_EQ_ADDR => 0xD6004
  | .AUD_EQ_DATA => 0xD6008
  | .AUD_BLOCK_TIME_LO => 0xD600C
  | .AUD_BLOCK_TIME_HI => 0xD6010
  | .TCH_CFG => 0xE0000
  | .TCH_P_CFG p => 0xE0100 + 0x10*p
  | .TCH_P_STATUS p => 0xE0104 + 0x10*p
  | .TCH_S_SRC n => 0xE0200 + 0x20*n
  | .TCH_S_MAP0 n => 0xE0204 + 0x20*n
  | .TCH_S_MAP1 n => 0xE0208 + 0x20*n
  | .TCH_S_MAP2 n => 0xE020C + 0x20*n
  | .TCH_S_STATUS n => 0xE0210 + 0x20*n
  | .TCH_R_CFG r => 0xE0400 + 4*r
  | .TCH_UNROUTED => 0xE0800
  | .TCH_REFUSED => 0xE0804
  | .TCH_OVER => 0xE0808
  | .HAP_K_CFG n => 0xE8000 + 0x20*n
  | .HAP_K_COIL n => 0xE8004 + 0x20*n
  | .HAP_K_DET n => 0xE8008 + 0x20*n
  | .HAP_K_STATUS n => 0xE800C + 0x20*n
  | .HAP_K_DROP n => 0xE8010 + 0x20*n
  | .HAP_TRIG m => 0xE8200 + 4*m
  | .HAP_GOV => 0xE8300
  | .HAP_GOV_LIMITED => 0xE8304
  | .page f (.SQ_BASE_LO q) => (f + 1) * 0x100000000 + 0x000 + 0x10*q
  | .page f (.SQ_BASE_HI q) => (f + 1) * 0x100000000 + 0x004 + 0x10*q
  | .page f (.SQ_CFG q) => (f + 1) * 0x100000000 + 0x008 + 0x10*q
  | .page f (.SQ_PTR q) => (f + 1) * 0x100000000 + 0x00C + 0x10*q
  | .page f (.CQ_BASE_LO c) => (f + 1) * 0x100000000 + 0x400 + 0x20*c
  | .page f (.CQ_BASE_HI c) => (f + 1) * 0x100000000 + 0x404 + 0x20*c
  | .page f (.CQ_CFG c) => (f + 1) * 0x100000000 + 0x408 + 0x20*c
  | .page f (.CQ_MOD c) => (f + 1) * 0x100000000 + 0x40C + 0x20*c
  | .page f (.CQ_PTR c) => (f + 1) * 0x100000000 + 0x410 + 0x20*c
  | .page f .EQ_BASE_LO => (f + 1) * 0x100000000 + 0x800
  | .page f .EQ_BASE_HI => (f + 1) * 0x100000000 + 0x804
  | .page f .EQ_CFG => (f + 1) * 0x100000000 + 0x808
  | .page f .EQ_MOD => (f + 1) * 0x100000000 + 0x80C
  | .page f .EQ_PTR => (f + 1) * 0x100000000 + 0x810
  | .page f .EQ_DROP => (f + 1) * 0x100000000 + 0x814
  | .page f .INST_SELF => (f + 1) * 0x100000000 + 0xC00
  | .page f .INST_LEASE_KICK => (f + 1) * 0x100000000 + 0xC04
  | .page f .INST_MB_DOORBELL => (f + 1) * 0x100000000 + 0xC08
  | .page f .INST_LAST_DB_STATUS => (f + 1) * 0x100000000 + 0xC0C
  | .page f .VF_TIME_NOW_LO => (f + 1) * 0x100000000 + 0xD00
  | .page f .VF_TIME_NOW_HI => (f + 1) * 0x100000000 + 0xD04
  | .page f .VF_TIME_STATUS => (f + 1) * 0x100000000 + 0xD08
  | .page f .VF_TIME_TAI_OFFSET_LO => (f + 1) * 0x100000000 + 0xD0C
  | .page f .VF_TIME_TAI_OFFSET_HI => (f + 1) * 0x100000000 + 0xD10

/-- The whole-register reset value (R447, Tables 18.4 to 18.15). -/
def Reg.reset (r : Reg) : Word :=
  match r with
  | .ID_VENDOR => 0x0C121D4A
  | .ID_SUBSYS => 0x00321D4A
  | .ID_VF_DEVICE => 0x00000C13
  | .ID_FAMILY => 0x01032100
  | .ID_SCALE0 => 0xC18C0100
  | .ID_SCALE1 => 0x00201040
  | .UPD_XFER => 0x00010000
  | .UPD_COAP => 0x0000003C
  | .PWR_DOMAIN => 0x0000107F
  | .PWR_CTRL => 0x800003E8
  | .PWR_THROTTLE => 0x00000064
  | .TIME_UNCERT => 0xFFFFFFFF
  | .TIME_EPOCH_ACC => 0xFFFFFFFF
  | .TIME_SYNC_PERIOD => 0x0FE502AB
  | .TIME_CTRL => 0x003C0000
  | .TIME_F_LIMIT _ => 0x001E8480
  | .TIME_F_TREAT _ => 0x00002004
  | .TIME_F_COLOUR _ => 0x3FF003FF
  | .SHL_ALERT_MASK => 0x0000007F
  | .ART_F7_COLOUR => 0x3FF003FF
  | .HOST_LIMIT _ => 0x003F108F
  | .INST_STATE n => if n = 0 then 0x2 else 0
  | .INST_SHARE n => if n = 0 then 0x1010 else 0
  | .INST_JOURNAL_HEAD => 0x00000001
  | .INST_MB_TIMEOUT => 0x00000064
  | .MEM_ECC_EN => 0xFFFFFFFF
  | .MEM_HASH_LO k => if k = 0 then 0x88881100 else if k = 1 then 0x11102200 else if k = 2 then 0x02088000 else if k = 3 then 0x04110000 else if k = 4 then 0x20220000 else if k = 5 then 0x40440000 else 0
  | .MEM_HASH_HI k => if k = 1 then 0x1 else if k = 5 then 0x2 else 0
  | .MEM_RETRAIN => 0x00FA0032
  | .MEM_SR => 0x800000C8
  | .MEM_PATROL => 0x0000000C
  | .MEM_SPARE_FREE => 0x00004000
  | .RND_CTX_CFG _ => 0x00000003
  | .RND_CTX_FAILOFS _ => 0xFFFFFFFF
  | .RND_GROW_TIMEOUT => 0x000003E8
  | .SHD_HD_COMP _ => 0x00800000
  | .SHD_HD_EST _ => 0x03E803E8
  | .LYR_FCLASS _ => 0x00000001
  | .LYR_FMT _ => 0x03FF0103
  | .LYR_SRC _ => 0x00010001
  | .LYR_PITCH _ => 0x00000001
  | .LYR_CROP_WH _ => 0x00010001
  | .LYR_DST_WH _ => 0x00010001
  | .LYR_RP _ => 0x01000000
  | .HD_HTIM _ => 0x11300F00
  | .HD_HSYNC _ => 0x805800B0
  | .HD_VTIM _ => 0x08CA0870
  | .HD_VSYNC _ => 0x800A0008
  | .HD_OUT _ => 0x21800010
  | .HD_LINK _ => 0x00000203
  | .HDG_PLL _ => 0x1EF00000
  | .HD_SYNC_IN => 0x00000006
  | .HD_BW_BUDGET => 0x0001E848
  | .VAL_GRP_CLASS _ => 0x00000001
  | .VAL_FONT_CFG _ => 0x00001008
  | .AUD_A_GAIN _ => 0x000A4000
  | .AUD_A_RCTL _ => 0x0000000A
  | .AUD_B_GAIN _ => 0x000A4000
  | .AUD_T_WM _ => 0x30202010
  | .AUD_EQ_DATA => 0x3F800000
  | .TCH_S_MAP1 _ => 0x00010001
  | .TCH_R_CFG _ => 0x00A00000
  | .HAP_K_CFG _ => 0x0C00003C
  | .HAP_K_COIL _ => 0x01F40050
  | .HAP_K_DET _ => 0x000A0032
  | .HAP_TRIG _ => 0x10FF0000
  | .HAP_GOV => 0x00061A80
  | .page _ (.SQ_CFG _) => 0x00000030
  | .page _ (.CQ_CFG _) => 0x00000030
  | .page _ (.CQ_MOD _) => 0x00000001
  | .page _ .EQ_CFG => 0x00000030
  | .page _ .EQ_MOD => 0x00000001
  | _ => 0

/-- The fields of a register (the tables of the block chapters that Tables 18.4 to 18.15 name). -/
def Reg.fields (r : Reg) : List FieldSpec :=
  match r with
  | .ID_VENDOR => [⟨31, 16, .ro, []⟩, ⟨15, 0, .ro, []⟩]
  | .ID_SUBSYS => [⟨31, 16, .ro, []⟩, ⟨15, 0, .ro, []⟩]
  | .ID_VF_DEVICE => [⟨15, 0, .ro, []⟩]
  | .ID_FAMILY => [⟨31, 24, .ro, []⟩, ⟨23, 16, .ro, []⟩, ⟨15, 8, .ro, []⟩, ⟨3, 0, .ro, []⟩]
  | .ID_SCALE0 => [⟨31, 25, .ro, []⟩, ⟨24, 20, .ro, []⟩, ⟨19, 16, .ro, []⟩, ⟨8, 0, .ro, []⟩]
  | .ID_SCALE1 => [⟨21, 16, .ro, []⟩, ⟨12, 8, .ro, []⟩, ⟨6, 0, .ro, []⟩]
  | .ID_FW => [⟨15, 8, .ro, []⟩, ⟨7, 0, .ro, []⟩]
  | .ID_LOCK => [⟨0, 0, .w1s, []⟩]
  | .ID_SERIAL _ => [⟨31, 0, .ro, []⟩]
  | .ID_STATUS => [⟨1, 1, .ro, []⟩, ⟨0, 0, .ro, []⟩]
  | .ID_NONCE _ => [⟨31, 0, .rw, []⟩]
  | .ID_OUT_ADDR_LO => [⟨31, 0, .rw, []⟩]
  | .ID_OUT_ADDR_HI => [⟨31, 0, .rw, []⟩]
  | .ID_CTRL => [⟨31, 31, .wo, []⟩, ⟨23, 16, .ro, []⟩, ⟨0, 0, .rw, []⟩]
  | .BOOT_STATUS => [⟨31, 28, .ro, []⟩, ⟨27, 27, .ro, []⟩, ⟨26, 26, .ro, []⟩, ⟨25, 25, .ro, []⟩, ⟨21, 20, .ro, []⟩]
  | .BOOT_REASON => [⟨7, 0, .ro, []⟩]
  | .BOOT_CTRL => [⟨31, 31, .wo, []⟩, ⟨30, 30, .wo, []⟩, ⟨15, 0, .wo, []⟩]
  | .UPD_CTRL => [⟨31, 31, .wo, []⟩, ⟨30, 30, .wo, []⟩, ⟨29, 29, .wo, []⟩, ⟨0, 0, .wo, []⟩]
  | .UPD_STATUS => [⟨31, 28, .ro, []⟩, ⟨27, 27, .ro, []⟩, ⟨23, 16, .ro, []⟩, ⟨9, 0, .ro, []⟩]
  | .UPD_PKG_LO => [⟨31, 0, .ro, []⟩]
  | .UPD_PKG_HI => [⟨31, 0, .ro, []⟩]
  | .UPD_XFER_ADDR_LO => [⟨31, 0, .rw, []⟩]
  | .UPD_XFER_ADDR_HI => [⟨31, 0, .rw, []⟩]
  | .UPD_XFER => [⟨31, 31, .wo, []⟩, ⟨26, 17, .rw, [(0, 767)]⟩, ⟨16, 0, .rw, [(1, 65536)]⟩]
  | .UPD_XFER_RESULT => [⟨7, 0, .ro, []⟩]
  | .UPD_COAP => [⟨15, 0, .rw, [(1, 65535)]⟩]
  | .PWR_STATUS => [⟨31, 31, .ro, []⟩, ⟨30, 30, .ro, []⟩, ⟨27, 24, .ro, []⟩, ⟨23, 16, .ro, []⟩, ⟨15, 0, .ro, []⟩]
  | .PWR_IIN => [⟨15, 0, .ro, []⟩]
  | .PWR_DOMAIN => [⟨13, 0, .ro, []⟩]
  | .PWR_CTRL => [⟨31, 31, .lk, []⟩, ⟨15, 0, .lk, [(100, 65535)]⟩]
  | .PWR_RESET => [⟨31, 31, .wo, []⟩, ⟨15, 0, .wo, []⟩]
  | .PWR_BO_COUNT => [⟨31, 0, .rc, []⟩]
  | .PWR_THERM => [⟨15, 8, .ro, []⟩, ⟨7, 0, .ro, []⟩]
  | .PWR_THROTTLE => [⟨31, 28, .ro, []⟩, ⟨7, 0, .lk, [(85, 105)]⟩]
  | .PWR_THROTTLE_MS => [⟨31, 0, .rc, []⟩]
  | .PWR_GPIO => [⟨23, 16, .ro, []⟩, ⟨15, 8, .rw, []⟩, ⟨7, 0, .rw, []⟩]
  | .CLK_STATUS => [⟨4, 4, .ro, []⟩, ⟨3, 1, .ro, []⟩, ⟨0, 0, .ro, []⟩]
  | .TIME_NOW_LO => [⟨31, 0, .ro, []⟩]
  | .TIME_NOW_HI => [⟨31, 0, .ro, []⟩]
  | .TIME_TAI_OFFSET_LO => [⟨31, 0, .rw, []⟩]
  | .TIME_TAI_OFFSET_HI => [⟨31, 0, .rw, []⟩]
  | .TIME_UNCERT => [⟨31, 0, .ro, []⟩]
  | .TIME_EPOCH_ACC => [⟨31, 0, .rw, []⟩]
  | .TIME_STEP_COUNT => [⟨31, 0, .ro, []⟩]
  | .TIME_SYNC_PERIOD => [⟨31, 0, .lk, [(0xF42400, 0xFFFFFFFF)]⟩]
  | .TIME_STATUS => [⟨31, 16, .ro, []⟩, ⟨5, 5, .w1c, []⟩, ⟨4, 4, .ro, []⟩, ⟨3, 2, .ro, []⟩, ⟨1, 0, .ro, []⟩]
  | .TIME_CTRL => [⟨31, 16, .lk, [(1, 3600)]⟩, ⟨10, 4, .lk, []⟩, ⟨2, 2, .lk, []⟩, ⟨1, 0, .lk, []⟩]
  | .TIME_F_LIMIT _ => [⟨23, 0, .lk, [(1, 16777215)]⟩]
  | .TIME_F_TREAT _ => [⟨13, 4, .lk, []⟩, ⟨2, 2, .lk, []⟩, ⟨1, 0, .lk, []⟩]
  | .TIME_F_COLOUR _ => [⟨29, 0, .lk, []⟩]
  | .SHL_STATUS => [⟨31, 31, .ro, []⟩, ⟨30, 30, .ro, []⟩, ⟨29, 27, .ro, []⟩, ⟨15, 8, .ro, []⟩, ⟨0, 0, .ro, []⟩]
  | .SHL_ALERT => [⟨6, 0, .ro, []⟩]
  | .SHL_ALERT_MASK => [⟨6, 0, .ro, []⟩]
  | .SHL_ALERT_LATCH => [⟨6, 0, .w1c, []⟩]
  | .SHL_MGR_WD => [⟨15, 0, .ro, []⟩]
  | .SHL_MGR_KICK => [⟨15, 0, .wo, []⟩]
  | .SHL_RET_HEAD => [⟨11, 0, .ro, []⟩]
  | .SHL_RET_PIPE _ => [⟨31, 0, .ro, []⟩]
  | .SHL_RET_CLUSTER => [⟨23, 0, .ro, []⟩]
  | .SHL_RET_PORTS => [⟨27, 20, .ro, []⟩, ⟨19, 4, .ro, []⟩, ⟨3, 0, .ro, []⟩]
  | .SHL_RET_PAGES => [⟨31, 0, .ro, []⟩]
  | .SHL_UNRETIRE => [⟨31, 31, .wo, []⟩, ⟨23, 16, .ro, []⟩, ⟨15, 12, .rw, []⟩, ⟨6, 0, .rw, []⟩]
  | .SHL_TRANSIENT_TOTAL => [⟨31, 0, .rc, []⟩]
  | .SHL_LOG_HEAD => [⟨31, 0, .ro, []⟩]
  | .SHL_LOG_DROP => [⟨31, 0, .rc, []⟩]
  | .ART_SAFETY => [⟨29, 16, .ro, []⟩, ⟨8, 0, .ro, []⟩]
  | .ART_F7_LIMIT => [⟨23, 0, .ro, []⟩]
  | .ART_F7_COLOUR => [⟨29, 0, .ro, []⟩]
  | .ART_OVERRUN => [⟨31, 0, .ro, []⟩]
  | .ART_HD_CFG _ => [⟨20, 16, .ro, []⟩, ⟨11, 9, .ro, []⟩, ⟨1, 0, .ro, []⟩]
  | .ART_HD_STATUS _ => [⟨31, 28, .ro, []⟩, ⟨27, 24, .ro, []⟩, ⟨23, 16, .ro, []⟩, ⟨15, 0, .ro, []⟩]
  | .ART_HD_STALE _ => [⟨15, 0, .ro, []⟩]
  | .ART_HD_SINK_RG _ => [⟨31, 16, .ro, []⟩, ⟨15, 0, .ro, []⟩]
  | .ART_HD_SINK_B _ => [⟨15, 0, .ro, []⟩]
  | .ART_HD_SIG_MISMATCH _ => [⟨31, 0, .ro, []⟩]
  | .ART_HD_SINK_MISMATCH _ => [⟨31, 0, .ro, []⟩]
  | .ART_R_POS _ _ => [⟨31, 16, .ro, []⟩, ⟨15, 0, .ro, []⟩]
  | .ART_R_SIZE _ _ => [⟨31, 16, .ro, []⟩, ⟨15, 0, .ro, []⟩]
  | .ART_R_SEL _ _ => [⟨7, 4, .ro, []⟩, ⟨3, 0, .ro, []⟩]
  | .ART_R_SIG _ _ => [⟨31, 0, .ro, []⟩]
  | .ART_R_TSRC_LO _ _ => [⟨31, 0, .ro, []⟩]
  | .ART_R_TSRC_HI _ _ => [⟨31, 0, .ro, []⟩]
  | .HOST_LIMIT _ => [⟨21, 16, .rw, []⟩, ⟨12, 8, .rw, [(6, 16)]⟩, ⟨7, 4, .rw, [(0, 8)]⟩, ⟨3, 0, .rw, []⟩]
  | .HOST_PASID _ _ => [⟨19, 0, .rw, []⟩]
  | .INST_STATE _ => [⟨31, 16, .ro, []⟩, ⟨3, 0, .ro, []⟩]
  | .INST_SHARE _ => [⟨15, 8, .ro, []⟩, ⟨7, 0, .ro, []⟩]
  | .INST_SLICE _ => [⟨30, 16, .ro, []⟩, ⟨13, 0, .ro, []⟩]
  | .INST_PASIDS _ => [⟨4, 0, .ro, []⟩]
  | .INST_STATUS _ => [⟨1, 1, .w1c, []⟩, ⟨0, 0, .ro, []⟩]
  | .INST_STALE_WRITE _ => [⟨31, 0, .rc, []⟩]
  | .INST_LATE_DROP _ => [⟨31, 0, .rc, []⟩]
  | .INST_MB_OVERRUN _ => [⟨31, 0, .rc, []⟩]
  | .INST_SRC_CLAMP _ => [⟨31, 0, .rc, []⟩]
  | .INST_JOURNAL_HEAD => [⟨31, 0, .ro, []⟩]
  | .INST_MB_TIMEOUT => [⟨15, 0, .lk, [(1, 10000)]⟩]
  | .INST_JBACK => [⟨29, 16, .lk, []⟩, ⟨13, 0, .lk, []⟩]
  | .INST_MGR_MB_DOORBELL => [⟨15, 0, .wo, []⟩]
  | .MEM_ECC_EN => [⟨31, 31, .ro, []⟩, ⟨30, 0, .lk, []⟩]
  | .MEM_HASH_LO _ => [⟨31, 0, .ro, []⟩]
  | .MEM_HASH_HI _ => [⟨2, 0, .ro, []⟩]
  | .MEM_RETRAIN => [⟨31, 16, .lk, [(50, 10000)]⟩, ⟨9, 0, .lk, [(10, 1000)]⟩]
  | .MEM_SR => [⟨31, 31, .rw, []⟩, ⟨15, 0, .rw, [(10, 65535)]⟩]
  | .MEM_PATROL => [⟨7, 0, .lk, [(1, 168)]⟩]
  | .MEM_ECC_CE => [⟨31, 0, .rc, []⟩]
  | .MEM_ECC_UE => [⟨31, 0, .rc, []⟩]
  | .MEM_ECC_LAST_LO => [⟨31, 0, .ro, []⟩]
  | .MEM_ECC_LAST_HI => [⟨31, 31, .ro, []⟩, ⟨2, 0, .ro, []⟩]
  | .MEM_MMU_FAULT => [⟨31, 0, .rc, []⟩]
  | .MEM_SPARE_FREE => [⟨14, 0, .ro, []⟩]
  | .MEM_DEAD => [⟨31, 0, .ro, []⟩]
  | .MEM_PAGE_SEL => [⟨22, 0, .rw, []⟩]
  | .MEM_PAGE_ENTRY_LO => [⟨31, 0, .ro, []⟩]
  | .MEM_PAGE_ENTRY_HI => [⟨31, 0, .ro, []⟩]
  | .MEM_CH_STATUS _ => [⟨31, 28, .ro, []⟩, ⟨27, 26, .ro, []⟩, ⟨3, 0, .ro, []⟩]
  | .MEM_CH_RETRAINED _ => [⟨31, 0, .rc, []⟩]
  | .MEM_CH_FORCED _ => [⟨31, 0, .rc, []⟩]
  | .MEM_CH_LAST_LO _ => [⟨31, 0, .ro, []⟩]
  | .MEM_CH_LAST_HI _ => [⟨31, 0, .ro, []⟩]
  | .RND_CTX_CFG _ => [⟨1, 0, .rw, []⟩]
  | .RND_CTX_SPILL _ => [⟨30, 16, .rw, []⟩, ⟨13, 0, .rw, []⟩]
  | .RND_CTX_STATUS _ => [⟨31, 24, .ro, []⟩, ⟨23, 16, .ro, []⟩, ⟨15, 9, .ro, []⟩, ⟨2, 0, .ro, []⟩]
  | .RND_CTX_FAILOFS _ => [⟨31, 0, .ro, []⟩]
  | .RND_CTX_SPLIT_TOTAL _ => [⟨31, 0, .rc, []⟩]
  | .SHD_CTX_SAVE _ => [⟨30, 16, .rw, []⟩, ⟨13, 0, .rw, []⟩]
  | .SHD_CTX_SCHED _ => [⟨7, 3, .ro, []⟩, ⟨2, 2, .ro, []⟩, ⟨1, 1, .ro, []⟩, ⟨0, 0, .rw, []⟩]
  | .SHD_CTX_PREEMPT _ => [⟨31, 0, .rc, []⟩]
  | .SHD_CTX_NP_OVERRUN _ => [⟨31, 0, .rc, []⟩]
  | .RND_GROW_TIMEOUT => [⟨16, 0, .lk, [(0, 100000)]⟩]
  | .RND_CLUSTER_RETIRED => [⟨23, 0, .ro, []⟩]
  | .SHD_HD_COMP _ => [⟨31, 31, .rw, []⟩, ⟨24, 20, .rw, [(1, 24)]⟩, ⟨8, 0, .rw, []⟩]
  | .SHD_HD_EST _ => [⟨31, 16, .ro, []⟩, ⟨15, 0, .rw, [(1, 65535)]⟩]
  | .SHD_HD_LATE _ => [⟨31, 0, .rc, []⟩]
  | .SHD_HD_MISS _ => [⟨31, 0, .rc, []⟩]
  | .SHD_INGEST_QUEUE => [⟨8, 0, .ro, []⟩]
  | .SHD_CACHE_USED => [⟨8, 0, .ro, []⟩]
  | .SHD_CACHE_EVICT => [⟨31, 0, .rc, []⟩]
  | .LYR_HEAD _ => [⟨31, 31, .rw, []⟩, ⟨11, 8, .rw, []⟩, ⟨3, 0, .rw, [(0, 11)]⟩]
  | .LYR_FCLASS _ => [⟨2, 0, .lk, [(0, 6)]⟩]
  | .LYR_FMT _ => [⟨25, 16, .rw, []⟩, ⟨15, 15, .rw, []⟩, ⟨14, 14, .rw, []⟩, ⟨13, 12, .rw, [(0, 2)]⟩, ⟨11, 8, .rw, [(0, 5)]⟩, ⟨7, 0, .rw, [(1, 1), (3, 6), (9, 9), (0x20, 0x24)]⟩]
  | .LYR_SRC _ => [⟨31, 16, .rw, [(1, 16384)]⟩, ⟨15, 0, .rw, [(1, 16384)]⟩]
  | .LYR_PITCH _ => [⟨31, 16, .rw, []⟩, ⟨15, 0, .rw, [(1, 65535)]⟩]
  | .LYR_CROP_XY _ => [⟨31, 16, .rw, [(0, 16383)]⟩, ⟨15, 0, .rw, [(0, 16383)]⟩]
  | .LYR_CROP_WH _ => [⟨31, 16, .rw, [(1, 16384)]⟩, ⟨15, 0, .rw, [(1, 16384)]⟩]
  | .LYR_DST_XY _ => [⟨31, 16, .rw, []⟩, ⟨15, 0, .rw, []⟩]
  | .LYR_DST_WH _ => [⟨31, 16, .rw, [(1, 16384)]⟩, ⟨15, 0, .rw, [(1, 16384)]⟩]
  | .LYR_RP _ => [⟨31, 31, .rw, []⟩, ⟨27, 24, .rw, [(1, 15)]⟩, ⟨23, 12, .rw, []⟩, ⟨11, 0, .rw, []⟩]
  | .LYR_STATUS _ => [⟨8, 8, .ro, []⟩, ⟨7, 7, .ro, []⟩, ⟨6, 6, .ro, []⟩, ⟨3, 0, .ro, []⟩]
  | .LYR_TARGET _ => [⟨31, 0, .ro, []⟩]
  | .LYR_TSRC_LO _ => [⟨31, 0, .ro, []⟩]
  | .LYR_TSRC_HI _ => [⟨31, 0, .ro, []⟩]
  | .LYR_COEF_SEL _ => [⟨0, 0, .rw, []⟩]
  | .LYR_COEF_ADDR _ => [⟨10, 10, .rw, []⟩, ⟨9, 0, .rw, [(0, 767)]⟩]
  | .LYR_COEF_DATA _ => [⟨31, 16, .rw, []⟩, ⟨15, 0, .rw, []⟩]
  | .LYR_WB_HD _ => [⟨17, 16, .rw, [(0, 2)]⟩, ⟨8, 0, .rw, [(0, 256)]⟩]
  | .LYR_WB_BUSY => [⟨3, 0, .ro, []⟩]
  | .LYR_WB_ABORT => [⟨31, 0, .rc, []⟩]
  | .HD_CTRL _ => [⟨31, 31, .rw, []⟩, ⟨30, 30, .rw, []⟩, ⟨29, 29, .rw, []⟩, ⟨23, 20, .rw, [(0, 11)]⟩, ⟨19, 18, .rw, []⟩]
  | .HD_HTIM _ => [⟨31, 16, .rw, [(96, 8192)]⟩, ⟨15, 0, .rw, [(64, 4096)]⟩]
  | .HD_HSYNC _ => [⟨31, 31, .rw, []⟩, ⟨27, 16, .rw, [(1, 1023)]⟩, ⟨11, 0, .rw, []⟩]
  | .HD_VTIM _ => [⟨31, 16, .rw, [(72, 8192)]⟩, ⟨15, 0, .rw, [(64, 4096)]⟩]
  | .HD_VSYNC _ => [⟨31, 31, .rw, []⟩, ⟨23, 16, .rw, [(1, 255)]⟩, ⟨11, 0, .rw, []⟩]
  | .HD_BG _ => [⟨29, 0, .rw, []⟩]
  | .HD_OUT _ => [⟨31, 31, .rw, []⟩, ⟨30, 30, .rw, []⟩, ⟨29, 29, .rw, []⟩, ⟨25, 24, .rw, [(0, 2)]⟩, ⟨23, 16, .rw, [(128, 192)]⟩, ⟨11, 0, .rw, [(8, 4095)]⟩]
  | .HD_LINK _ => [⟨9, 8, .rw, [(0, 2)]⟩, ⟨1, 0, .rw, []⟩]
  | .HD_COMMIT _ => [⟨31, 24, .ro, []⟩, ⟨11, 8, .ro, []⟩, ⟨2, 2, .wo, []⟩, ⟨1, 1, .ro, []⟩, ⟨0, 0, .wo, []⟩]
  | .HD_STATUS _ => [⟨31, 28, .ro, []⟩, ⟨27, 24, .ro, []⟩, ⟨19, 18, .ro, []⟩, ⟨17, 16, .ro, []⟩, ⟨15, 15, .ro, []⟩, ⟨14, 14, .ro, []⟩, ⟨7, 0, .ro, []⟩]
  | .HD_BW _ => [⟨15, 0, .ro, []⟩]
  | .HDG_PLL _ => [⟨31, 0, .rw, [(21845334, 524288000)]⟩]
  | .HDG_GENLOCK _ => [⟨31, 31, .rw, []⟩, ⟨25, 24, .rw, []⟩, ⟨23, 0, .rw, []⟩]
  | .HDG_STATUS _ => [⟨31, 16, .ro, []⟩, ⟨1, 0, .ro, []⟩]
  | .HDG_PHASE_ERR _ => [⟨31, 0, .ro, []⟩]
  | .HDG_FRAME_LO _ => [⟨31, 0, .ro, []⟩]
  | .HDG_FRAME_HI _ => [⟨31, 0, .ro, []⟩]
  | .HD_SYNC_IN => [⟨2, 2, .lk, []⟩, ⟨1, 0, .lk, [(0, 2)]⟩]
  | .HD_SYNC_OUT => [⟨31, 31, .lk, []⟩, ⟨1, 0, .lk, []⟩]
  | .HD_BW_BUDGET => [⟨17, 0, .lk, [(1000, 200000)]⟩]
  | .HD_BW_USED => [⟨17, 0, .ro, []⟩]
  | .HDCG_CTRL _ => [⟨31, 31, .wo, []⟩, ⟨30, 30, .wo, []⟩, ⟨11, 0, .rw, []⟩]
  | .HDCG_STATUS _ => [⟨31, 24, .ro, []⟩, ⟨11, 8, .ro, []⟩, ⟨0, 0, .ro, []⟩]
  | .VAL_GRP_CLASS _ => [⟨2, 0, .lk, [(0, 6)]⟩]
  | .VAL_FDESC_D _ => [⟨31, 0, .rw, []⟩]
  | .VAL_FDESC_CTRL => [⟨31, 31, .wo, []⟩, ⟨30, 30, .wo, []⟩, ⟨23, 16, .ro, []⟩, ⟨15, 0, .rw, []⟩]
  | .VAL_PEEK_SEL => [⟨15, 0, .rw, []⟩]
  | .VAL_PEEK_VAL_LO => [⟨31, 0, .ro, []⟩]
  | .VAL_PEEK_VAL_HI => [⟨31, 0, .ro, []⟩]
  | .VAL_PEEK_MEAS_LO => [⟨31, 0, .ro, []⟩]
  | .VAL_PEEK_MEAS_HI => [⟨31, 0, .ro, []⟩]
  | .VAL_PEEK_STATE => [⟨15, 8, .ro, []⟩, ⟨0, 0, .ro, []⟩]
  | .VAL_FONT_SRC => [⟨13, 0, .lk, []⟩]
  | .VAL_FONT_LOAD => [⟨31, 31, .wo, []⟩, ⟨23, 16, .ro, []⟩, ⟨0, 0, .ro, []⟩]
  | .VAL_FONT_CFG _ => [⟨14, 8, .lk, [(8, 64)]⟩, ⟨5, 0, .lk, [(4, 32)]⟩]
  | .VAL_HD_COUNT _ => [⟨29, 16, .ro, []⟩, ⟨8, 0, .ro, []⟩]
  | .VAL_OLD_REJECT => [⟨31, 0, .rc, []⟩]
  | .AUD_A_CFG _ => [⟨11, 8, .rw, []⟩, ⟨7, 6, .rw, []⟩, ⟨2, 2, .rw, []⟩, ⟨1, 0, .rw, [(0, 2)]⟩]
  | .AUD_A_GAIN _ => [⟨24, 16, .rw, [(1, 500)]⟩, ⟨15, 0, .rw, []⟩]
  | .AUD_A_RCTL _ => [⟨31, 31, .wo, []⟩, ⟨30, 30, .ro, []⟩, ⟨29, 29, .ro, []⟩, ⟨8, 0, .rw, [(1, 500)]⟩]
  | .AUD_A_STATUS _ => [⟨7, 6, .ro, []⟩, ⟨4, 0, .ro, []⟩]
  | .AUD_A_UNDERRUN _ => [⟨31, 0, .rc, []⟩]
  | .AUD_A_XP _ _ => [⟨15, 0, .rw, []⟩]
  | .AUD_B_GAIN _ => [⟨24, 16, .rw, [(1, 500)]⟩, ⟨15, 0, .rw, []⟩]
  | .AUD_B_EQ _ => [⟨31, 31, .wo, []⟩, ⟨30, 30, .ro, []⟩, ⟨29, 29, .ro, []⟩, ⟨23, 16, .ro, []⟩]
  | .AUD_B_CLIP _ => [⟨31, 0, .rc, []⟩]
  | .AUD_T_CFG _ => [⟨31, 31, .rw, []⟩, ⟨30, 30, .rw, []⟩, ⟨29, 29, .rw, []⟩, ⟨28, 28, .rw, []⟩]
  | .AUD_T_WM _ => [⟨31, 24, .rw, []⟩, ⟨23, 16, .rw, []⟩, ⟨15, 8, .rw, []⟩, ⟨7, 0, .rw, []⟩]
  | .AUD_T_STATUS _ => [⟨31, 28, .ro, []⟩, ⟨27, 27, .ro, []⟩, ⟨26, 26, .ro, []⟩, ⟨14, 8, .ro, []⟩, ⟨6, 0, .ro, []⟩]
  | .AUD_T_TXMAP _ _ => [⟨31, 31, .rw, []⟩, ⟨28, 24, .rw, []⟩, ⟨23, 23, .rw, []⟩, ⟨20, 16, .rw, []⟩, ⟨15, 15, .rw, []⟩, ⟨12, 8, .rw, []⟩, ⟨7, 7, .rw, []⟩, ⟨4, 0, .rw, []⟩]
  | .AUD_T_IDLE _ => [⟨31, 16, .rc, []⟩, ⟨15, 0, .rc, []⟩]
  | .AUD_T_DROP _ => [⟨31, 16, .rc, []⟩, ⟨15, 0, .rc, []⟩]
  | .AUD_T_HOLDS _ => [⟨31, 0, .rc, []⟩]
  | .AUD_T_TIME_LO _ => [⟨31, 0, .ro, []⟩]
  | .AUD_T_TIME_HI _ => [⟨31, 0, .ro, []⟩]
  | .AUD_HD_CFG _ => [⟨31, 31, .rw, []⟩, ⟨30, 30, .rw, []⟩]
  | .AUD_HD_MAP _ _ => [⟨31, 31, .rw, []⟩, ⟨28, 24, .rw, []⟩, ⟨23, 23, .rw, []⟩, ⟨20, 16, .rw, []⟩, ⟨15, 15, .rw, []⟩, ⟨12, 8, .rw, []⟩, ⟨7, 7, .rw, []⟩, ⟨4, 0, .rw, []⟩]
  | .AUD_CFG => [⟨0, 0, .lk, []⟩]
  | .AUD_EQ_ADDR => [⟨15, 11, .rw, []⟩, ⟨10, 10, .rw, []⟩, ⟨4, 0, .rw, [(0, 29)]⟩]
  | .AUD_EQ_DATA => [⟨31, 0, .rw, []⟩]
  | .AUD_BLOCK_TIME_LO => [⟨31, 0, .ro, []⟩]
  | .AUD_BLOCK_TIME_HI => [⟨31, 0, .ro, []⟩]
  | .TCH_CFG => [⟨0, 0, .lk, []⟩]
  | .TCH_P_CFG _ => [⟨31, 31, .lk, []⟩, ⟨24, 24, .lk, []⟩, ⟨22, 16, .lk, []⟩, ⟨15, 0, .lk, []⟩]
  | .TCH_P_STATUS _ => [⟨31, 28, .ro, []⟩, ⟨2, 0, .ro, []⟩]
  | .TCH_S_SRC _ => [⟨31, 31, .lk, []⟩, ⟨9, 8, .lk, []⟩, ⟨6, 4, .lk, [(0, 4)]⟩, ⟨2, 0, .lk, []⟩]
  | .TCH_S_MAP0 _ => [⟨31, 16, .lk, [(0, 4095)]⟩, ⟨15, 0, .lk, [(0, 8191)]⟩]
  | .TCH_S_MAP1 _ => [⟨31, 16, .lk, [(1, 4096)]⟩, ⟨15, 0, .lk, [(1, 8192)]⟩]
  | .TCH_S_MAP2 _ => [⟨6, 6, .lk, []⟩, ⟨5, 4, .lk, []⟩, ⟨3, 0, .lk, [(0, 11)]⟩]
  | .TCH_S_STATUS _ => [⟨31, 28, .ro, []⟩, ⟨3, 0, .ro, []⟩]
  | .TCH_R_CFG _ => [⟨31, 31, .rw, []⟩, ⟨30, 30, .rw, []⟩, ⟨23, 20, .rw, [(1, 10)]⟩, ⟨6, 0, .rw, []⟩]
  | .TCH_UNROUTED => [⟨31, 0, .rc, []⟩]
  | .TCH_REFUSED => [⟨31, 0, .rc, []⟩]
  | .TCH_OVER => [⟨31, 0, .rc, []⟩]
  | .HAP_K_CFG _ => [⟨31, 31, .lk, []⟩, ⟨27, 26, .rw, []⟩, ⟨25, 16, .lk, [(0, 0), (50, 1000)]⟩, ⟨7, 0, .lk, [(10, 120)]⟩]
  | .HAP_K_COIL _ => [⟨31, 16, .lk, [(10, 10000)]⟩, ⟨7, 0, .lk, [(40, 160)]⟩]
  | .HAP_K_DET _ => [⟨23, 16, .lk, [(1, 255)]⟩, ⟨7, 0, .lk, [(1, 255)]⟩]
  | .HAP_K_STATUS _ => [⟨31, 29, .ro, []⟩, ⟨28, 28, .ro, []⟩, ⟨27, 26, .ro, []⟩, ⟨25, 25, .ro, []⟩, ⟨22, 16, .ro, []⟩]
  | .HAP_K_DROP _ => [⟨31, 0, .rc, []⟩]
  | .HAP_TRIG _ => [⟨31, 31, .lk, []⟩, ⟨30, 29, .lk, [(0, 2)]⟩, ⟨28, 27, .lk, []⟩, ⟨26, 25, .lk, []⟩, ⟨23, 16, .lk, [(1, 255)]⟩, ⟨15, 12, .lk, []⟩, ⟨6, 0, .lk, []⟩]
  | .HAP_GOV => [⟨18, 0, .ro, []⟩]
  | .HAP_GOV_LIMITED => [⟨31, 0, .rc, []⟩]
  | .page _ (.SQ_BASE_LO _) => [⟨31, 12, .rw, []⟩]
  | .page _ (.SQ_BASE_HI _) => [⟨31, 0, .rw, []⟩]
  | .page _ (.SQ_CFG _) => [⟨31, 24, .ro, []⟩, ⟨20, 16, .rw, []⟩, ⟨10, 8, .rw, [(0, 5)]⟩, ⟨7, 3, .rw, [(6, 16)]⟩, ⟨0, 0, .rw, []⟩]
  | .page _ (.SQ_PTR _) => [⟨31, 16, .ro, []⟩, ⟨15, 0, .ro, []⟩]
  | .page _ (.CQ_BASE_LO _) => [⟨31, 12, .rw, []⟩]
  | .page _ (.CQ_BASE_HI _) => [⟨31, 0, .rw, []⟩]
  | .page _ (.CQ_CFG _) => [⟨31, 24, .ro, []⟩, ⟨21, 16, .rw, []⟩, ⟨7, 3, .rw, [(6, 16)]⟩, ⟨0, 0, .rw, []⟩]
  | .page _ (.CQ_MOD _) => [⟨25, 16, .rw, []⟩, ⟨8, 0, .rw, [(1, 256)]⟩]
  | .page _ (.CQ_PTR _) => [⟨31, 16, .ro, []⟩, ⟨15, 0, .ro, []⟩]
  | .page _ .EQ_BASE_LO => [⟨31, 12, .rw, []⟩]
  | .page _ .EQ_BASE_HI => [⟨31, 0, .rw, []⟩]
  | .page _ .EQ_CFG => [⟨31, 24, .ro, []⟩, ⟨21, 16, .rw, []⟩, ⟨7, 3, .rw, [(6, 16)]⟩, ⟨0, 0, .rw, []⟩]
  | .page _ .EQ_MOD => [⟨25, 16, .rw, []⟩, ⟨8, 0, .rw, [(1, 256)]⟩]
  | .page _ .EQ_PTR => [⟨31, 16, .ro, []⟩, ⟨15, 0, .ro, []⟩]
  | .page _ .EQ_DROP => [⟨31, 0, .rc, []⟩]
  | .page _ .INST_SELF => [⟨31, 16, .ro, []⟩, ⟨15, 12, .ro, []⟩, ⟨8, 0, .ro, []⟩]
  | .page _ .INST_LEASE_KICK => [⟨15, 0, .wo, []⟩]
  | .page _ .INST_MB_DOORBELL => [⟨15, 0, .wo, []⟩]
  | .page _ .INST_LAST_DB_STATUS => [⟨7, 0, .ro, []⟩]
  | .page _ .VF_TIME_NOW_LO => [⟨31, 0, .ro, []⟩]
  | .page _ .VF_TIME_NOW_HI => [⟨31, 0, .ro, []⟩]
  | .page _ .VF_TIME_STATUS => [⟨31, 0, .ro, []⟩]
  | .page _ .VF_TIME_TAI_OFFSET_LO => [⟨31, 0, .ro, []⟩]
  | .page _ .VF_TIME_TAI_OFFSET_HI => [⟨31, 0, .ro, []⟩]

def ID_VENDOR.DEVICE_ID : Fld := ⟨.ID_VENDOR, 31, 16⟩
def ID_VENDOR.VENDOR_ID : Fld := ⟨.ID_VENDOR, 15, 0⟩
def ID_SUBSYS.SUBSYS_ID : Fld := ⟨.ID_SUBSYS, 31, 16⟩
def ID_SUBSYS.SUBSYS_VENDOR : Fld := ⟨.ID_SUBSYS, 15, 0⟩
def ID_VF_DEVICE.VF_DEVICE_ID : Fld := ⟨.ID_VF_DEVICE, 15, 0⟩
def ID_FAMILY.ARCH : Fld := ⟨.ID_FAMILY, 31, 24⟩
def ID_FAMILY.MEMBER : Fld := ⟨.ID_FAMILY, 23, 16⟩
def ID_FAMILY.STEPPING : Fld := ⟨.ID_FAMILY, 15, 8⟩
def ID_FAMILY.VARIANT : Fld := ⟨.ID_FAMILY, 3, 0⟩
def ID_SCALE0.PIPES : Fld := ⟨.ID_SCALE0, 31, 25⟩
def ID_SCALE0.CLUSTERS : Fld := ⟨.ID_SCALE0, 24, 20⟩
def ID_SCALE0.HEADS : Fld := ⟨.ID_SCALE0, 19, 16⟩
def ID_SCALE0.INSTANCES : Fld := ⟨.ID_SCALE0, 8, 0⟩
def ID_SCALE1.MEM_GIB : Fld := ⟨.ID_SCALE1, 21, 16⟩
def ID_SCALE1.HAPTIC : Fld := ⟨.ID_SCALE1, 12, 8⟩
def ID_SCALE1.AUDIO : Fld := ⟨.ID_SCALE1, 6, 0⟩
def ID_FW.MAIN_SVN : Fld := ⟨.ID_FW, 15, 8⟩
def ID_FW.BOOT_SVN : Fld := ⟨.ID_FW, 7, 0⟩
def ID_LOCK.SETUP_LOCK : Fld := ⟨.ID_LOCK, 0, 0⟩
def ID_SERIAL.SERIAL (j : Nat) : Fld := ⟨.ID_SERIAL j, 31, 0⟩
def ID_STATUS.CERT : Fld := ⟨.ID_STATUS, 1, 1⟩
def ID_STATUS.KEY : Fld := ⟨.ID_STATUS, 0, 0⟩
def ID_NONCE.NONCE (k : Nat) : Fld := ⟨.ID_NONCE k, 31, 0⟩
def ID_OUT_ADDR_LO.ADDR_LO : Fld := ⟨.ID_OUT_ADDR_LO, 31, 0⟩
def ID_OUT_ADDR_HI.ADDR_HI : Fld := ⟨.ID_OUT_ADDR_HI, 31, 0⟩
def ID_CTRL.GO : Fld := ⟨.ID_CTRL, 31, 31⟩
def ID_CTRL.RESULT : Fld := ⟨.ID_CTRL, 23, 16⟩
def ID_CTRL.OP : Fld := ⟨.ID_CTRL, 0, 0⟩
def BOOT_STATUS.STAGE : Fld := ⟨.BOOT_STATUS, 31, 28⟩
def BOOT_STATUS.SEEDLING : Fld := ⟨.BOOT_STATUS, 27, 27⟩
def BOOT_STATUS.SLOT : Fld := ⟨.BOOT_STATUS, 26, 26⟩
def BOOT_STATUS.TRIAL : Fld := ⟨.BOOT_STATUS, 25, 25⟩
def BOOT_STATUS.ATTEMPTS : Fld := ⟨.BOOT_STATUS, 21, 20⟩
def BOOT_REASON.REASON : Fld := ⟨.BOOT_REASON, 7, 0⟩
def BOOT_CTRL.RETRY : Fld := ⟨.BOOT_CTRL, 31, 31⟩
def BOOT_CTRL.SEEDLING : Fld := ⟨.BOOT_CTRL, 30, 30⟩
def BOOT_CTRL.KEY : Fld := ⟨.BOOT_CTRL, 15, 0⟩
def UPD_CTRL.BEGIN : Fld := ⟨.UPD_CTRL, 31, 31⟩
def UPD_CTRL.CANCEL : Fld := ⟨.UPD_CTRL, 30, 30⟩
def UPD_CTRL.INSTALL : Fld := ⟨.UPD_CTRL, 29, 29⟩
def UPD_CTRL.SRC : Fld := ⟨.UPD_CTRL, 0, 0⟩
def UPD_STATUS.STATE : Fld := ⟨.UPD_STATUS, 31, 28⟩
def UPD_STATUS.SRC : Fld := ⟨.UPD_STATUS, 27, 27⟩
def UPD_STATUS.RESULT : Fld := ⟨.UPD_STATUS, 23, 16⟩
def UPD_STATUS.KEPT : Fld := ⟨.UPD_STATUS, 9, 0⟩
def UPD_PKG_LO.PKG_SEQ : Fld := ⟨.UPD_PKG_LO, 31, 0⟩
def UPD_PKG_HI.PKG_SEQ : Fld := ⟨.UPD_PKG_HI, 31, 0⟩
def UPD_XFER_ADDR_LO.ADDR_LO : Fld := ⟨.UPD_XFER_ADDR_LO, 31, 0⟩
def UPD_XFER_ADDR_HI.ADDR_HI : Fld := ⟨.UPD_XFER_ADDR_HI, 31, 0⟩
def UPD_XFER.GO : Fld := ⟨.UPD_XFER, 31, 31⟩
def UPD_XFER.INDEX : Fld := ⟨.UPD_XFER, 26, 17⟩
def UPD_XFER.LEN : Fld := ⟨.UPD_XFER, 16, 0⟩
def UPD_XFER_RESULT.RESULT : Fld := ⟨.UPD_XFER_RESULT, 7, 0⟩
def UPD_COAP.RETRY_S : Fld := ⟨.UPD_COAP, 15, 0⟩
def PWR_STATUS.BROWNOUT : Fld := ⟨.PWR_STATUS, 31, 31⟩
def PWR_STATUS.OVERVOLT : Fld := ⟨.PWR_STATUS, 30, 30⟩
def PWR_STATUS.RESET_CAUSE : Fld := ⟨.PWR_STATUS, 27, 24⟩
def PWR_STATUS.STORE : Fld := ⟨.PWR_STATUS, 23, 16⟩
def PWR_STATUS.VIN_MV : Fld := ⟨.PWR_STATUS, 15, 0⟩
def PWR_IIN.IIN_MA : Fld := ⟨.PWR_IIN, 15, 0⟩
def PWR_DOMAIN.ON : Fld := ⟨.PWR_DOMAIN, 13, 0⟩
def PWR_CTRL.RENDER_GATE : Fld := ⟨.PWR_CTRL, 31, 31⟩
def PWR_CTRL.GATE_IDLE_US : Fld := ⟨.PWR_CTRL, 15, 0⟩
def PWR_RESET.GO : Fld := ⟨.PWR_RESET, 31, 31⟩
def PWR_RESET.KEY : Fld := ⟨.PWR_RESET, 15, 0⟩
def PWR_BO_COUNT.COUNT : Fld := ⟨.PWR_BO_COUNT, 31, 0⟩
def PWR_THERM.T_MOD : Fld := ⟨.PWR_THERM, 15, 8⟩
def PWR_THERM.T_DIE : Fld := ⟨.PWR_THERM, 7, 0⟩
def PWR_THROTTLE.STEP : Fld := ⟨.PWR_THROTTLE, 31, 28⟩
def PWR_THROTTLE.THROTTLE_C : Fld := ⟨.PWR_THROTTLE, 7, 0⟩
def PWR_THROTTLE_MS.COUNT : Fld := ⟨.PWR_THROTTLE_MS, 31, 0⟩
def PWR_GPIO.IN : Fld := ⟨.PWR_GPIO, 23, 16⟩
def PWR_GPIO.OE : Fld := ⟨.PWR_GPIO, 15, 8⟩
def PWR_GPIO.OUT : Fld := ⟨.PWR_GPIO, 7, 0⟩
def CLK_STATUS.PCIE_REF : Fld := ⟨.CLK_STATUS, 4, 4⟩
def CLK_STATUS.PIX_LOCK : Fld := ⟨.CLK_STATUS, 3, 1⟩
def CLK_STATUS.ROOT_LOCK : Fld := ⟨.CLK_STATUS, 0, 0⟩
def TIME_NOW_LO.NOW_LO : Fld := ⟨.TIME_NOW_LO, 31, 0⟩
def TIME_NOW_HI.NOW_HI : Fld := ⟨.TIME_NOW_HI, 31, 0⟩
def TIME_TAI_OFFSET_LO.OFS_LO : Fld := ⟨.TIME_TAI_OFFSET_LO, 31, 0⟩
def TIME_TAI_OFFSET_HI.OFS_HI : Fld := ⟨.TIME_TAI_OFFSET_HI, 31, 0⟩
def TIME_UNCERT.UNCERT : Fld := ⟨.TIME_UNCERT, 31, 0⟩
def TIME_EPOCH_ACC.ACC : Fld := ⟨.TIME_EPOCH_ACC, 31, 0⟩
def TIME_STEP_COUNT.STEPS : Fld := ⟨.TIME_STEP_COUNT, 31, 0⟩
def TIME_SYNC_PERIOD.PERIOD : Fld := ⟨.TIME_SYNC_PERIOD, 31, 0⟩
def TIME_STATUS.HOLDOVER_S : Fld := ⟨.TIME_STATUS, 31, 16⟩
def TIME_STATUS.OFFSET_STEP : Fld := ⟨.TIME_STATUS, 5, 5⟩
def TIME_STATUS.OFFSET_VALID : Fld := ⟨.TIME_STATUS, 4, 4⟩
def TIME_STATUS.SOURCE_ACTIVE : Fld := ⟨.TIME_STATUS, 3, 2⟩
def TIME_STATUS.STATE : Fld := ⟨.TIME_STATUS, 1, 0⟩
def TIME_CTRL.HOLDOVER_MAX : Fld := ⟨.TIME_CTRL, 31, 16⟩
def TIME_CTRL.PTP_DOMAIN : Fld := ⟨.TIME_CTRL, 10, 4⟩
def TIME_CTRL.PTP_PROFILE : Fld := ⟨.TIME_CTRL, 2, 2⟩
def TIME_CTRL.SRC : Fld := ⟨.TIME_CTRL, 1, 0⟩
def TIME_F_LIMIT.LIMIT_US (n : Nat) : Fld := ⟨.TIME_F_LIMIT n, 23, 0⟩
def TIME_F_TREAT.DIM (n : Nat) : Fld := ⟨.TIME_F_TREAT n, 13, 4⟩
def TIME_F_TREAT.POLICY (n : Nat) : Fld := ⟨.TIME_F_TREAT n, 2, 2⟩
def TIME_F_TREAT.TREAT (n : Nat) : Fld := ⟨.TIME_F_TREAT n, 1, 0⟩
def TIME_F_COLOUR.RGB (n : Nat) : Fld := ⟨.TIME_F_COLOUR n, 29, 0⟩
def SHL_STATUS.SAFE : Fld := ⟨.SHL_STATUS, 31, 31⟩
def SHL_STATUS.HOST_ABSENT : Fld := ⟨.SHL_STATUS, 30, 30⟩
def SHL_STATUS.ABSENT_REASON : Fld := ⟨.SHL_STATUS, 29, 27⟩
def SHL_STATUS.SAFE_CAUSE : Fld := ⟨.SHL_STATUS, 15, 8⟩
def SHL_STATUS.LOADED : Fld := ⟨.SHL_STATUS, 0, 0⟩
def SHL_ALERT.CAUSE : Fld := ⟨.SHL_ALERT, 6, 0⟩
def SHL_ALERT_MASK.MASK : Fld := ⟨.SHL_ALERT_MASK, 6, 0⟩
def SHL_ALERT_LATCH.LATCH : Fld := ⟨.SHL_ALERT_LATCH, 6, 0⟩
def SHL_MGR_WD.PERIOD_MS : Fld := ⟨.SHL_MGR_WD, 15, 0⟩
def SHL_MGR_KICK.GEN : Fld := ⟨.SHL_MGR_KICK, 15, 0⟩
def SHL_RET_HEAD.HEADS : Fld := ⟨.SHL_RET_HEAD, 11, 0⟩
def SHL_RET_PIPE.PIPES (i : Nat) : Fld := ⟨.SHL_RET_PIPE i, 31, 0⟩
def SHL_RET_CLUSTER.CLUSTERS : Fld := ⟨.SHL_RET_CLUSTER, 23, 0⟩
def SHL_RET_PORTS.TOUCH : Fld := ⟨.SHL_RET_PORTS, 27, 20⟩
def SHL_RET_PORTS.HAPTIC : Fld := ⟨.SHL_RET_PORTS, 19, 4⟩
def SHL_RET_PORTS.TDM : Fld := ⟨.SHL_RET_PORTS, 3, 0⟩
def SHL_RET_PAGES.COUNT : Fld := ⟨.SHL_RET_PAGES, 31, 0⟩
def SHL_UNRETIRE.GO : Fld := ⟨.SHL_UNRETIRE, 31, 31⟩
def SHL_UNRETIRE.RESULT : Fld := ⟨.SHL_UNRETIRE, 23, 16⟩
def SHL_UNRETIRE.KIND : Fld := ⟨.SHL_UNRETIRE, 15, 12⟩
def SHL_UNRETIRE.UNIT : Fld := ⟨.SHL_UNRETIRE, 6, 0⟩
def SHL_TRANSIENT_TOTAL.COUNT : Fld := ⟨.SHL_TRANSIENT_TOTAL, 31, 0⟩
def SHL_LOG_HEAD.NEXT : Fld := ⟨.SHL_LOG_HEAD, 31, 0⟩
def SHL_LOG_DROP.COUNT : Fld := ⟨.SHL_LOG_DROP, 31, 0⟩
def ART_SAFETY.PAGE_OFS : Fld := ⟨.ART_SAFETY, 29, 16⟩
def ART_SAFETY.INST : Fld := ⟨.ART_SAFETY, 8, 0⟩
def ART_F7_LIMIT.LIMIT_US : Fld := ⟨.ART_F7_LIMIT, 23, 0⟩
def ART_F7_COLOUR.RGB : Fld := ⟨.ART_F7_COLOUR, 29, 0⟩
def ART_OVERRUN.COUNT : Fld := ⟨.ART_OVERRUN, 31, 0⟩
def ART_HD_CFG.REGIONS (n : Nat) : Fld := ⟨.ART_HD_CFG n, 20, 16⟩
def ART_HD_CFG.PERIOD_M1 (n : Nat) : Fld := ⟨.ART_HD_CFG n, 11, 9⟩
def ART_HD_CFG.SINK_CRC (n : Nat) : Fld := ⟨.ART_HD_CFG n, 1, 0⟩
def ART_HD_STATUS.SINK (n : Nat) : Fld := ⟨.ART_HD_STATUS n, 31, 28⟩
def ART_HD_STATUS.LAST_COUNT (n : Nat) : Fld := ⟨.ART_HD_STATUS n, 27, 24⟩
def ART_HD_STATUS.LAST_FAULT (n : Nat) : Fld := ⟨.ART_HD_STATUS n, 23, 16⟩
def ART_HD_STATUS.GUARD (n : Nat) : Fld := ⟨.ART_HD_STATUS n, 15, 0⟩
def ART_HD_STALE.STALE (n : Nat) : Fld := ⟨.ART_HD_STALE n, 15, 0⟩
def ART_HD_SINK_RG.CRC_G (n : Nat) : Fld := ⟨.ART_HD_SINK_RG n, 31, 16⟩
def ART_HD_SINK_RG.CRC_R (n : Nat) : Fld := ⟨.ART_HD_SINK_RG n, 15, 0⟩
def ART_HD_SINK_B.CRC_B (n : Nat) : Fld := ⟨.ART_HD_SINK_B n, 15, 0⟩
def ART_HD_SIG_MISMATCH.COUNT (n : Nat) : Fld := ⟨.ART_HD_SIG_MISMATCH n, 31, 0⟩
def ART_HD_SINK_MISMATCH.COUNT (n : Nat) : Fld := ⟨.ART_HD_SINK_MISMATCH n, 31, 0⟩
def ART_R_POS.Y (n : Nat) (r : Nat) : Fld := ⟨.ART_R_POS n r, 31, 16⟩
def ART_R_POS.X (n : Nat) (r : Nat) : Fld := ⟨.ART_R_POS n r, 15, 0⟩
def ART_R_SIZE.H (n : Nat) (r : Nat) : Fld := ⟨.ART_R_SIZE n r, 31, 16⟩
def ART_R_SIZE.W (n : Nat) (r : Nat) : Fld := ⟨.ART_R_SIZE n r, 15, 0⟩
def ART_R_SEL.PLATE (n : Nat) (r : Nat) : Fld := ⟨.ART_R_SEL n r, 7, 4⟩
def ART_R_SEL.PLATES_M1 (n : Nat) (r : Nat) : Fld := ⟨.ART_R_SEL n r, 3, 0⟩
def ART_R_SIG.SIG (n : Nat) (r : Nat) : Fld := ⟨.ART_R_SIG n r, 31, 0⟩
def ART_R_TSRC_LO.TSRC_LO (n : Nat) (r : Nat) : Fld := ⟨.ART_R_TSRC_LO n r, 31, 0⟩
def ART_R_TSRC_HI.TSRC_HI (n : Nat) (r : Nat) : Fld := ⟨.ART_R_TSRC_HI n r, 31, 0⟩
def HOST_LIMIT.ENGINES (m : Nat) : Fld := ⟨.HOST_LIMIT m, 21, 16⟩
def HOST_LIMIT.MAX_LOG2 (m : Nat) : Fld := ⟨.HOST_LIMIT m, 12, 8⟩
def HOST_LIMIT.MAX_CQ (m : Nat) : Fld := ⟨.HOST_LIMIT m, 7, 4⟩
def HOST_LIMIT.MAX_SQ_M1 (m : Nat) : Fld := ⟨.HOST_LIMIT m, 3, 0⟩
def HOST_PASID.PASID (m : Nat) (k : Nat) : Fld := ⟨.HOST_PASID m k, 19, 0⟩
def INST_STATE.GEN (n : Nat) : Fld := ⟨.INST_STATE n, 31, 16⟩
def INST_STATE.STATE (n : Nat) : Fld := ⟨.INST_STATE n, 3, 0⟩
def INST_SHARE.SHARE_NEXT (n : Nat) : Fld := ⟨.INST_SHARE n, 15, 8⟩
def INST_SHARE.SHARE (n : Nat) : Fld := ⟨.INST_SHARE n, 7, 0⟩
def INST_SLICE.SIZE (n : Nat) : Fld := ⟨.INST_SLICE n, 30, 16⟩
def INST_SLICE.BASE (n : Nat) : Fld := ⟨.INST_SLICE n, 13, 0⟩
def INST_PASIDS.COUNT (n : Nat) : Fld := ⟨.INST_PASIDS n, 4, 0⟩
def INST_STATUS.DRAIN_TIMEOUT (n : Nat) : Fld := ⟨.INST_STATUS n, 1, 1⟩
def INST_STATUS.SCRUB_PEND (n : Nat) : Fld := ⟨.INST_STATUS n, 0, 0⟩
def INST_STALE_WRITE.COUNT (n : Nat) : Fld := ⟨.INST_STALE_WRITE n, 31, 0⟩
def INST_LATE_DROP.COUNT (n : Nat) : Fld := ⟨.INST_LATE_DROP n, 31, 0⟩
def INST_MB_OVERRUN.COUNT (n : Nat) : Fld := ⟨.INST_MB_OVERRUN n, 31, 0⟩
def INST_SRC_CLAMP.COUNT (n : Nat) : Fld := ⟨.INST_SRC_CLAMP n, 31, 0⟩
def INST_JOURNAL_HEAD.NEXT : Fld := ⟨.INST_JOURNAL_HEAD, 31, 0⟩
def INST_MB_TIMEOUT.TIMEOUT_MS : Fld := ⟨.INST_MB_TIMEOUT, 15, 0⟩
def INST_JBACK.SIZE : Fld := ⟨.INST_JBACK, 29, 16⟩
def INST_JBACK.BASE : Fld := ⟨.INST_JBACK, 13, 0⟩
def INST_MGR_MB_DOORBELL.GEN : Fld := ⟨.INST_MGR_MB_DOORBELL, 15, 0⟩
def MEM_ECC_EN.REGION31 : Fld := ⟨.MEM_ECC_EN, 31, 31⟩
def MEM_ECC_EN.REGIONS : Fld := ⟨.MEM_ECC_EN, 30, 0⟩
def MEM_HASH_LO.MASK_LO (k : Nat) : Fld := ⟨.MEM_HASH_LO k, 31, 0⟩
def MEM_HASH_HI.MASK_HI (k : Nat) : Fld := ⟨.MEM_HASH_HI k, 2, 0⟩
def MEM_RETRAIN.INTERVAL_MS : Fld := ⟨.MEM_RETRAIN, 31, 16⟩
def MEM_RETRAIN.FORCE_MS : Fld := ⟨.MEM_RETRAIN, 9, 0⟩
def MEM_SR.EN : Fld := ⟨.MEM_SR, 31, 31⟩
def MEM_SR.IDLE_US : Fld := ⟨.MEM_SR, 15, 0⟩
def MEM_PATROL.HOURS : Fld := ⟨.MEM_PATROL, 7, 0⟩
def MEM_ECC_CE.COUNT : Fld := ⟨.MEM_ECC_CE, 31, 0⟩
def MEM_ECC_UE.COUNT : Fld := ⟨.MEM_ECC_UE, 31, 0⟩
def MEM_ECC_LAST_LO.ADDR_LO : Fld := ⟨.MEM_ECC_LAST_LO, 31, 0⟩
def MEM_ECC_LAST_HI.UE : Fld := ⟨.MEM_ECC_LAST_HI, 31, 31⟩
def MEM_ECC_LAST_HI.ADDR_HI : Fld := ⟨.MEM_ECC_LAST_HI, 2, 0⟩
def MEM_MMU_FAULT.COUNT : Fld := ⟨.MEM_MMU_FAULT, 31, 0⟩
def MEM_SPARE_FREE.PAGES : Fld := ⟨.MEM_SPARE_FREE, 14, 0⟩
def MEM_DEAD.COUNT : Fld := ⟨.MEM_DEAD, 31, 0⟩
def MEM_PAGE_SEL.PAGE : Fld := ⟨.MEM_PAGE_SEL, 22, 0⟩
def MEM_PAGE_ENTRY_LO.BYTES_0_3 : Fld := ⟨.MEM_PAGE_ENTRY_LO, 31, 0⟩
def MEM_PAGE_ENTRY_HI.BYTES_4_7 : Fld := ⟨.MEM_PAGE_ENTRY_HI, 31, 0⟩
def MEM_CH_STATUS.STATE (c : Nat) : Fld := ⟨.MEM_CH_STATUS c, 31, 28⟩
def MEM_CH_STATUS.RATE (c : Nat) : Fld := ⟨.MEM_CH_STATUS c, 27, 26⟩
def MEM_CH_STATUS.STEPS_DUE (c : Nat) : Fld := ⟨.MEM_CH_STATUS c, 3, 0⟩
def MEM_CH_RETRAINED.COUNT (c : Nat) : Fld := ⟨.MEM_CH_RETRAINED c, 31, 0⟩
def MEM_CH_FORCED.COUNT (c : Nat) : Fld := ⟨.MEM_CH_FORCED c, 31, 0⟩
def MEM_CH_LAST_LO.TIME_LO (c : Nat) : Fld := ⟨.MEM_CH_LAST_LO c, 31, 0⟩
def MEM_CH_LAST_HI.TIME_HI (c : Nat) : Fld := ⟨.MEM_CH_LAST_HI c, 31, 0⟩
def RND_CTX_CFG.PRIO (n : Nat) : Fld := ⟨.RND_CTX_CFG n, 1, 0⟩
def RND_CTX_SPILL.SIZE (n : Nat) : Fld := ⟨.RND_CTX_SPILL n, 30, 16⟩
def RND_CTX_SPILL.BASE (n : Nat) : Fld := ⟨.RND_CTX_SPILL n, 13, 0⟩
def RND_CTX_STATUS.LAST_STATUS (n : Nat) : Fld := ⟨.RND_CTX_STATUS n, 31, 24⟩
def RND_CTX_STATUS.SPLITS (n : Nat) : Fld := ⟨.RND_CTX_STATUS n, 23, 16⟩
def RND_CTX_STATUS.CHUNKS (n : Nat) : Fld := ⟨.RND_CTX_STATUS n, 15, 9⟩
def RND_CTX_STATUS.STATE (n : Nat) : Fld := ⟨.RND_CTX_STATUS n, 2, 0⟩
def RND_CTX_FAILOFS.OFFSET (n : Nat) : Fld := ⟨.RND_CTX_FAILOFS n, 31, 0⟩
def RND_CTX_SPLIT_TOTAL.COUNT (n : Nat) : Fld := ⟨.RND_CTX_SPLIT_TOTAL n, 31, 0⟩
def SHD_CTX_SAVE.SIZE (n : Nat) : Fld := ⟨.SHD_CTX_SAVE n, 30, 16⟩
def SHD_CTX_SAVE.BASE (n : Nat) : Fld := ⟨.SHD_CTX_SAVE n, 13, 0⟩
def SHD_CTX_SCHED.CLUSTERS (n : Nat) : Fld := ⟨.SHD_CTX_SCHED n, 7, 3⟩
def SHD_CTX_SCHED.INGEST (n : Nat) : Fld := ⟨.SHD_CTX_SCHED n, 2, 2⟩
def SHD_CTX_SCHED.DEMOTED (n : Nat) : Fld := ⟨.SHD_CTX_SCHED n, 1, 1⟩
def SHD_CTX_SCHED.NP (n : Nat) : Fld := ⟨.SHD_CTX_SCHED n, 0, 0⟩
def SHD_CTX_PREEMPT.COUNT (n : Nat) : Fld := ⟨.SHD_CTX_PREEMPT n, 31, 0⟩
def SHD_CTX_NP_OVERRUN.COUNT (n : Nat) : Fld := ⟨.SHD_CTX_NP_OVERRUN n, 31, 0⟩
def RND_GROW_TIMEOUT.TIMEOUT_US : Fld := ⟨.RND_GROW_TIMEOUT, 16, 0⟩
def RND_CLUSTER_RETIRED.RETIRED : Fld := ⟨.RND_CLUSTER_RETIRED, 23, 0⟩
def SHD_HD_COMP.ENABLE (n : Nat) : Fld := ⟨.SHD_HD_COMP n, 31, 31⟩
def SHD_HD_COMP.NEED (n : Nat) : Fld := ⟨.SHD_HD_COMP n, 24, 20⟩
def SHD_HD_COMP.CTX (n : Nat) : Fld := ⟨.SHD_HD_COMP n, 8, 0⟩
def SHD_HD_EST.E_US (n : Nat) : Fld := ⟨.SHD_HD_EST n, 31, 16⟩
def SHD_HD_EST.FLOOR_US (n : Nat) : Fld := ⟨.SHD_HD_EST n, 15, 0⟩
def SHD_HD_LATE.COUNT (n : Nat) : Fld := ⟨.SHD_HD_LATE n, 31, 0⟩
def SHD_HD_MISS.COUNT (n : Nat) : Fld := ⟨.SHD_HD_MISS n, 31, 0⟩
def SHD_INGEST_QUEUE.WAITING : Fld := ⟨.SHD_INGEST_QUEUE, 8, 0⟩
def SHD_CACHE_USED.MIB : Fld := ⟨.SHD_CACHE_USED, 8, 0⟩
def SHD_CACHE_EVICT.COUNT : Fld := ⟨.SHD_CACHE_EVICT, 31, 0⟩
def LYR_HEAD.ENABLE (n : Nat) : Fld := ⟨.LYR_HEAD n, 31, 31⟩
def LYR_HEAD.Z (n : Nat) : Fld := ⟨.LYR_HEAD n, 11, 8⟩
def LYR_HEAD.HEAD (n : Nat) : Fld := ⟨.LYR_HEAD n, 3, 0⟩
def LYR_FCLASS.CLASS (n : Nat) : Fld := ⟨.LYR_FCLASS n, 2, 0⟩
def LYR_FMT.PLANE_ALPHA (n : Nat) : Fld := ⟨.LYR_FMT n, 25, 16⟩
def LYR_FMT.SITE_H (n : Nat) : Fld := ⟨.LYR_FMT n, 15, 15⟩
def LYR_FMT.SITE_V (n : Nat) : Fld := ⟨.LYR_FMT n, 14, 14⟩
def LYR_FMT.BLEND (n : Nat) : Fld := ⟨.LYR_FMT n, 13, 12⟩
def LYR_FMT.CSC (n : Nat) : Fld := ⟨.LYR_FMT n, 11, 8⟩
def LYR_FMT.FORMAT (n : Nat) : Fld := ⟨.LYR_FMT n, 7, 0⟩
def LYR_SRC.SRC_H (n : Nat) : Fld := ⟨.LYR_SRC n, 31, 16⟩
def LYR_SRC.SRC_W (n : Nat) : Fld := ⟨.LYR_SRC n, 15, 0⟩
def LYR_PITCH.PITCH1 (n : Nat) : Fld := ⟨.LYR_PITCH n, 31, 16⟩
def LYR_PITCH.PITCH0 (n : Nat) : Fld := ⟨.LYR_PITCH n, 15, 0⟩
def LYR_CROP_XY.CROP_Y (n : Nat) : Fld := ⟨.LYR_CROP_XY n, 31, 16⟩
def LYR_CROP_XY.CROP_X (n : Nat) : Fld := ⟨.LYR_CROP_XY n, 15, 0⟩
def LYR_CROP_WH.CROP_H (n : Nat) : Fld := ⟨.LYR_CROP_WH n, 31, 16⟩
def LYR_CROP_WH.CROP_W (n : Nat) : Fld := ⟨.LYR_CROP_WH n, 15, 0⟩
def LYR_DST_XY.DST_Y (n : Nat) : Fld := ⟨.LYR_DST_XY n, 31, 16⟩
def LYR_DST_XY.DST_X (n : Nat) : Fld := ⟨.LYR_DST_XY n, 15, 0⟩
def LYR_DST_WH.DST_H (n : Nat) : Fld := ⟨.LYR_DST_WH n, 31, 16⟩
def LYR_DST_WH.DST_W (n : Nat) : Fld := ⟨.LYR_DST_WH n, 15, 0⟩
def LYR_RP.ENABLE (n : Nat) : Fld := ⟨.LYR_RP n, 31, 31⟩
def LYR_RP.MAX_FRAMES (n : Nat) : Fld := ⟨.LYR_RP n, 27, 24⟩
def LYR_RP.VY (n : Nat) : Fld := ⟨.LYR_RP n, 23, 12⟩
def LYR_RP.VX (n : Nat) : Fld := ⟨.LYR_RP n, 11, 0⟩
def LYR_STATUS.SHAPE_PEND (n : Nat) : Fld := ⟨.LYR_STATUS n, 8, 8⟩
def LYR_STATUS.FLIP_PEND (n : Nat) : Fld := ⟨.LYR_STATUS n, 7, 7⟩
def LYR_STATUS.RETIRED (n : Nat) : Fld := ⟨.LYR_STATUS n, 6, 6⟩
def LYR_STATUS.RP_K (n : Nat) : Fld := ⟨.LYR_STATUS n, 3, 0⟩
def LYR_TARGET.TARGET (n : Nat) : Fld := ⟨.LYR_TARGET n, 31, 0⟩
def LYR_TSRC_LO.TSRC_LO (n : Nat) : Fld := ⟨.LYR_TSRC_LO n, 31, 0⟩
def LYR_TSRC_HI.TSRC_HI (n : Nat) : Fld := ⟨.LYR_TSRC_HI n, 31, 0⟩
def LYR_COEF_SEL.BANK (n : Nat) : Fld := ⟨.LYR_COEF_SEL n, 0, 0⟩
def LYR_COEF_ADDR.BANK (n : Nat) : Fld := ⟨.LYR_COEF_ADDR n, 10, 10⟩
def LYR_COEF_ADDR.WORD (n : Nat) : Fld := ⟨.LYR_COEF_ADDR n, 9, 0⟩
def LYR_COEF_DATA.ODD (n : Nat) : Fld := ⟨.LYR_COEF_DATA n, 31, 16⟩
def LYR_COEF_DATA.EVEN (n : Nat) : Fld := ⟨.LYR_COEF_DATA n, 15, 0⟩
def LYR_WB_HD.FORMAT (n : Nat) : Fld := ⟨.LYR_WB_HD n, 17, 16⟩
def LYR_WB_HD.OWNER (n : Nat) : Fld := ⟨.LYR_WB_HD n, 8, 0⟩
def LYR_WB_BUSY.UNITS : Fld := ⟨.LYR_WB_BUSY, 3, 0⟩
def LYR_WB_ABORT.COUNT : Fld := ⟨.LYR_WB_ABORT, 31, 0⟩
def HD_CTRL.ENABLE (n : Nat) : Fld := ⟨.HD_CTRL n, 31, 31⟩
def HD_CTRL.PAIR (n : Nat) : Fld := ⟨.HD_CTRL n, 30, 30⟩
def HD_CTRL.CLONE (n : Nat) : Fld := ⟨.HD_CTRL n, 29, 29⟩
def HD_CTRL.CLONE_SRC (n : Nat) : Fld := ⟨.HD_CTRL n, 23, 20⟩
def HD_CTRL.PDIV (n : Nat) : Fld := ⟨.HD_CTRL n, 19, 18⟩
def HD_HTIM.HTOTAL (n : Nat) : Fld := ⟨.HD_HTIM n, 31, 16⟩
def HD_HTIM.HACT (n : Nat) : Fld := ⟨.HD_HTIM n, 15, 0⟩
def HD_HSYNC.HPOL (n : Nat) : Fld := ⟨.HD_HSYNC n, 31, 31⟩
def HD_HSYNC.HSYNC_W (n : Nat) : Fld := ⟨.HD_HSYNC n, 27, 16⟩
def HD_HSYNC.HSYNC_START (n : Nat) : Fld := ⟨.HD_HSYNC n, 11, 0⟩
def HD_VTIM.VTOTAL (n : Nat) : Fld := ⟨.HD_VTIM n, 31, 16⟩
def HD_VTIM.VACT (n : Nat) : Fld := ⟨.HD_VTIM n, 15, 0⟩
def HD_VSYNC.VPOL (n : Nat) : Fld := ⟨.HD_VSYNC n, 31, 31⟩
def HD_VSYNC.VSYNC_W (n : Nat) : Fld := ⟨.HD_VSYNC n, 23, 16⟩
def HD_VSYNC.VSYNC_START (n : Nat) : Fld := ⟨.HD_VSYNC n, 11, 0⟩
def HD_BG.RGB (n : Nat) : Fld := ⟨.HD_BG n, 29, 0⟩
def HD_OUT.DSC_EN (n : Nat) : Fld := ⟨.HD_OUT n, 31, 31⟩
def HD_OUT.RANGE (n : Nat) : Fld := ⟨.HD_OUT n, 30, 30⟩
def HD_OUT.BPC (n : Nat) : Fld := ⟨.HD_OUT n, 29, 29⟩
def HD_OUT.SLICES (n : Nat) : Fld := ⟨.HD_OUT n, 25, 24⟩
def HD_OUT.DSC_BPP16 (n : Nat) : Fld := ⟨.HD_OUT n, 23, 16⟩
def HD_OUT.SLICE_H (n : Nat) : Fld := ⟨.HD_OUT n, 11, 0⟩
def HD_LINK.MAX_LANES (n : Nat) : Fld := ⟨.HD_LINK n, 9, 8⟩
def HD_LINK.MAX_RATE (n : Nat) : Fld := ⟨.HD_LINK n, 1, 0⟩
def HD_COMMIT.RESULT (n : Nat) : Fld := ⟨.HD_COMMIT n, 31, 24⟩
def HD_COMMIT.DEFER_FRAMES (n : Nat) : Fld := ⟨.HD_COMMIT n, 11, 8⟩
def HD_COMMIT.CANCEL (n : Nat) : Fld := ⟨.HD_COMMIT n, 2, 2⟩
def HD_COMMIT.PEND (n : Nat) : Fld := ⟨.HD_COMMIT n, 1, 1⟩
def HD_COMMIT.GO (n : Nat) : Fld := ⟨.HD_COMMIT n, 0, 0⟩
def HD_STATUS.STATE (n : Nat) : Fld := ⟨.HD_STATUS n, 31, 28⟩
def HD_STATUS.TRANS_FRAMES (n : Nat) : Fld := ⟨.HD_STATUS n, 27, 24⟩
def HD_STATUS.LANES (n : Nat) : Fld := ⟨.HD_STATUS n, 19, 18⟩
def HD_STATUS.RATE (n : Nat) : Fld := ⟨.HD_STATUS n, 17, 16⟩
def HD_STATUS.HPD (n : Nat) : Fld := ⟨.HD_STATUS n, 15, 15⟩
def HD_STATUS.DSC_ACTIVE (n : Nat) : Fld := ⟨.HD_STATUS n, 14, 14⟩
def HD_STATUS.FAIL_REASON (n : Nat) : Fld := ⟨.HD_STATUS n, 7, 0⟩
def HD_BW.DEMAND (n : Nat) : Fld := ⟨.HD_BW n, 15, 0⟩
def HDG_PLL.FRAC (g : Nat) : Fld := ⟨.HDG_PLL g, 31, 0⟩
def HDG_GENLOCK.EN (g : Nat) : Fld := ⟨.HDG_GENLOCK g, 31, 31⟩
def HDG_GENLOCK.MULT_M1 (g : Nat) : Fld := ⟨.HDG_GENLOCK g, 25, 24⟩
def HDG_GENLOCK.PHASE (g : Nat) : Fld := ⟨.HDG_GENLOCK g, 23, 0⟩
def HDG_STATUS.HOLDOVER_S (g : Nat) : Fld := ⟨.HDG_STATUS g, 31, 16⟩
def HDG_STATUS.STATE (g : Nat) : Fld := ⟨.HDG_STATUS g, 1, 0⟩
def HDG_PHASE_ERR.ERR_NS (g : Nat) : Fld := ⟨.HDG_PHASE_ERR g, 31, 0⟩
def HDG_FRAME_LO.FRAME_LO (g : Nat) : Fld := ⟨.HDG_FRAME_LO g, 31, 0⟩
def HDG_FRAME_HI.FRAME_HI (g : Nat) : Fld := ⟨.HDG_FRAME_HI g, 31, 0⟩
def HD_SYNC_IN.TERM : Fld := ⟨.HD_SYNC_IN, 2, 2⟩
def HD_SYNC_IN.FORM : Fld := ⟨.HD_SYNC_IN, 1, 0⟩
def HD_SYNC_OUT.EN : Fld := ⟨.HD_SYNC_OUT, 31, 31⟩
def HD_SYNC_OUT.SRC : Fld := ⟨.HD_SYNC_OUT, 1, 0⟩
def HD_BW_BUDGET.MBPS : Fld := ⟨.HD_BW_BUDGET, 17, 0⟩
def HD_BW_USED.MBPS : Fld := ⟨.HD_BW_USED, 17, 0⟩
def HDCG_CTRL.GO (k : Nat) : Fld := ⟨.HDCG_CTRL k, 31, 31⟩
def HDCG_CTRL.CANCEL (k : Nat) : Fld := ⟨.HDCG_CTRL k, 30, 30⟩
def HDCG_CTRL.MASK (k : Nat) : Fld := ⟨.HDCG_CTRL k, 11, 0⟩
def HDCG_STATUS.RESULT (k : Nat) : Fld := ⟨.HDCG_STATUS k, 31, 24⟩
def HDCG_STATUS.DEFER_FRAMES (k : Nat) : Fld := ⟨.HDCG_STATUS k, 11, 8⟩
def HDCG_STATUS.PEND (k : Nat) : Fld := ⟨.HDCG_STATUS k, 0, 0⟩
def VAL_GRP_CLASS.CLASS (n : Nat) : Fld := ⟨.VAL_GRP_CLASS n, 2, 0⟩
def VAL_FDESC_D.WORD (k : Nat) : Fld := ⟨.VAL_FDESC_D k, 31, 0⟩
def VAL_FDESC_CTRL.GO : Fld := ⟨.VAL_FDESC_CTRL, 31, 31⟩
def VAL_FDESC_CTRL.READ : Fld := ⟨.VAL_FDESC_CTRL, 30, 30⟩
def VAL_FDESC_CTRL.RESULT : Fld := ⟨.VAL_FDESC_CTRL, 23, 16⟩
def VAL_FDESC_CTRL.FIELD : Fld := ⟨.VAL_FDESC_CTRL, 15, 0⟩
def VAL_PEEK_SEL.FIELD : Fld := ⟨.VAL_PEEK_SEL, 15, 0⟩
def VAL_PEEK_VAL_LO.VAL_LO : Fld := ⟨.VAL_PEEK_VAL_LO, 31, 0⟩
def VAL_PEEK_VAL_HI.VAL_HI : Fld := ⟨.VAL_PEEK_VAL_HI, 31, 0⟩
def VAL_PEEK_MEAS_LO.MEAS_LO : Fld := ⟨.VAL_PEEK_MEAS_LO, 31, 0⟩
def VAL_PEEK_MEAS_HI.MEAS_HI : Fld := ⟨.VAL_PEEK_MEAS_HI, 31, 0⟩
def VAL_PEEK_STATE.QUALITY : Fld := ⟨.VAL_PEEK_STATE, 15, 8⟩
def VAL_PEEK_STATE.HAS_RECORD : Fld := ⟨.VAL_PEEK_STATE, 0, 0⟩
def VAL_FONT_SRC.BASE : Fld := ⟨.VAL_FONT_SRC, 13, 0⟩
def VAL_FONT_LOAD.GO : Fld := ⟨.VAL_FONT_LOAD, 31, 31⟩
def VAL_FONT_LOAD.RESULT : Fld := ⟨.VAL_FONT_LOAD, 23, 16⟩
def VAL_FONT_LOAD.LOADED : Fld := ⟨.VAL_FONT_LOAD, 0, 0⟩
def VAL_FONT_CFG.CH (k : Nat) : Fld := ⟨.VAL_FONT_CFG k, 14, 8⟩
def VAL_FONT_CFG.CW (k : Nat) : Fld := ⟨.VAL_FONT_CFG k, 5, 0⟩
def VAL_HD_COUNT.FIELDS (n : Nat) : Fld := ⟨.VAL_HD_COUNT n, 29, 16⟩
def VAL_HD_COUNT.MAX_LINE (n : Nat) : Fld := ⟨.VAL_HD_COUNT n, 8, 0⟩
def VAL_OLD_REJECT.COUNT : Fld := ⟨.VAL_OLD_REJECT, 31, 0⟩
def AUD_A_CFG.SLOT (n : Nat) : Fld := ⟨.AUD_A_CFG n, 11, 8⟩
def AUD_A_CFG.PORT (n : Nat) : Fld := ⟨.AUD_A_CFG n, 7, 6⟩
def AUD_A_CFG.SRC (n : Nat) : Fld := ⟨.AUD_A_CFG n, 2, 2⟩
def AUD_A_CFG.FMT (n : Nat) : Fld := ⟨.AUD_A_CFG n, 1, 0⟩
def AUD_A_GAIN.RAMP_MS (n : Nat) : Fld := ⟨.AUD_A_GAIN n, 24, 16⟩
def AUD_A_GAIN.GAIN (n : Nat) : Fld := ⟨.AUD_A_GAIN n, 15, 0⟩
def AUD_A_RCTL.GO (n : Nat) : Fld := ⟨.AUD_A_RCTL n, 31, 31⟩
def AUD_A_RCTL.PEND (n : Nat) : Fld := ⟨.AUD_A_RCTL n, 30, 30⟩
def AUD_A_RCTL.FADING (n : Nat) : Fld := ⟨.AUD_A_RCTL n, 29, 29⟩
def AUD_A_RCTL.RAMP_MS (n : Nat) : Fld := ⟨.AUD_A_RCTL n, 8, 0⟩
def AUD_A_STATUS.STATE (n : Nat) : Fld := ⟨.AUD_A_STATUS n, 7, 6⟩
def AUD_A_STATUS.QUEUED (n : Nat) : Fld := ⟨.AUD_A_STATUS n, 4, 0⟩
def AUD_A_UNDERRUN.COUNT (n : Nat) : Fld := ⟨.AUD_A_UNDERRUN n, 31, 0⟩
def AUD_A_XP.GAIN (n : Nat) (b : Nat) : Fld := ⟨.AUD_A_XP n b, 15, 0⟩
def AUD_B_GAIN.RAMP_MS (b : Nat) : Fld := ⟨.AUD_B_GAIN b, 24, 16⟩
def AUD_B_GAIN.GAIN (b : Nat) : Fld := ⟨.AUD_B_GAIN b, 15, 0⟩
def AUD_B_EQ.SWAP (b : Nat) : Fld := ⟨.AUD_B_EQ b, 31, 31⟩
def AUD_B_EQ.PEND (b : Nat) : Fld := ⟨.AUD_B_EQ b, 30, 30⟩
def AUD_B_EQ.BANK (b : Nat) : Fld := ⟨.AUD_B_EQ b, 29, 29⟩
def AUD_B_EQ.RESULT (b : Nat) : Fld := ⟨.AUD_B_EQ b, 23, 16⟩
def AUD_B_CLIP.COUNT (b : Nat) : Fld := ⟨.AUD_B_CLIP b, 31, 0⟩
def AUD_T_CFG.EN (p : Nat) : Fld := ⟨.AUD_T_CFG p, 31, 31⟩
def AUD_T_CFG.MASTER (p : Nat) : Fld := ⟨.AUD_T_CFG p, 30, 30⟩
def AUD_T_CFG.TX_EN (p : Nat) : Fld := ⟨.AUD_T_CFG p, 29, 29⟩
def AUD_T_CFG.RX_EN (p : Nat) : Fld := ⟨.AUD_T_CFG p, 28, 28⟩
def AUD_T_WM.RX_ASSERT (p : Nat) : Fld := ⟨.AUD_T_WM p, 31, 24⟩
def AUD_T_WM.RX_RELEASE (p : Nat) : Fld := ⟨.AUD_T_WM p, 23, 16⟩
def AUD_T_WM.TX_RELEASE (p : Nat) : Fld := ⟨.AUD_T_WM p, 15, 8⟩
def AUD_T_WM.TX_ASSERT (p : Nat) : Fld := ⟨.AUD_T_WM p, 7, 0⟩
def AUD_T_STATUS.STATE (p : Nat) : Fld := ⟨.AUD_T_STATUS p, 31, 28⟩
def AUD_T_STATUS.FLOW_TX (p : Nat) : Fld := ⟨.AUD_T_STATUS p, 27, 27⟩
def AUD_T_STATUS.FLOW_RX (p : Nat) : Fld := ⟨.AUD_T_STATUS p, 26, 26⟩
def AUD_T_STATUS.TX_LEVEL (p : Nat) : Fld := ⟨.AUD_T_STATUS p, 14, 8⟩
def AUD_T_STATUS.RX_LEVEL (p : Nat) : Fld := ⟨.AUD_T_STATUS p, 6, 0⟩
def AUD_T_TXMAP.EN3 (p : Nat) (k : Nat) : Fld := ⟨.AUD_T_TXMAP p k, 31, 31⟩
def AUD_T_TXMAP.BUS3 (p : Nat) (k : Nat) : Fld := ⟨.AUD_T_TXMAP p k, 28, 24⟩
def AUD_T_TXMAP.EN2 (p : Nat) (k : Nat) : Fld := ⟨.AUD_T_TXMAP p k, 23, 23⟩
def AUD_T_TXMAP.BUS2 (p : Nat) (k : Nat) : Fld := ⟨.AUD_T_TXMAP p k, 20, 16⟩
def AUD_T_TXMAP.EN1 (p : Nat) (k : Nat) : Fld := ⟨.AUD_T_TXMAP p k, 15, 15⟩
def AUD_T_TXMAP.BUS1 (p : Nat) (k : Nat) : Fld := ⟨.AUD_T_TXMAP p k, 12, 8⟩
def AUD_T_TXMAP.EN0 (p : Nat) (k : Nat) : Fld := ⟨.AUD_T_TXMAP p k, 7, 7⟩
def AUD_T_TXMAP.BUS0 (p : Nat) (k : Nat) : Fld := ⟨.AUD_T_TXMAP p k, 4, 0⟩
def AUD_T_IDLE.TX (p : Nat) : Fld := ⟨.AUD_T_IDLE p, 31, 16⟩
def AUD_T_IDLE.RX (p : Nat) : Fld := ⟨.AUD_T_IDLE p, 15, 0⟩
def AUD_T_DROP.TX (p : Nat) : Fld := ⟨.AUD_T_DROP p, 31, 16⟩
def AUD_T_DROP.RX (p : Nat) : Fld := ⟨.AUD_T_DROP p, 15, 0⟩
def AUD_T_HOLDS.COUNT (p : Nat) : Fld := ⟨.AUD_T_HOLDS p, 31, 0⟩
def AUD_T_TIME_LO.TIME_LO (p : Nat) : Fld := ⟨.AUD_T_TIME_LO p, 31, 0⟩
def AUD_T_TIME_HI.TIME_HI (p : Nat) : Fld := ⟨.AUD_T_TIME_HI p, 31, 0⟩
def AUD_HD_CFG.EN (n : Nat) : Fld := ⟨.AUD_HD_CFG n, 31, 31⟩
def AUD_HD_CFG.CH8 (n : Nat) : Fld := ⟨.AUD_HD_CFG n, 30, 30⟩
def AUD_HD_MAP.EN3 (n : Nat) (k : Nat) : Fld := ⟨.AUD_HD_MAP n k, 31, 31⟩
def AUD_HD_MAP.BUS3 (n : Nat) (k : Nat) : Fld := ⟨.AUD_HD_MAP n k, 28, 24⟩
def AUD_HD_MAP.EN2 (n : Nat) (k : Nat) : Fld := ⟨.AUD_HD_MAP n k, 23, 23⟩
def AUD_HD_MAP.BUS2 (n : Nat) (k : Nat) : Fld := ⟨.AUD_HD_MAP n k, 20, 16⟩
def AUD_HD_MAP.EN1 (n : Nat) (k : Nat) : Fld := ⟨.AUD_HD_MAP n k, 15, 15⟩
def AUD_HD_MAP.BUS1 (n : Nat) (k : Nat) : Fld := ⟨.AUD_HD_MAP n k, 12, 8⟩
def AUD_HD_MAP.EN0 (n : Nat) (k : Nat) : Fld := ⟨.AUD_HD_MAP n k, 7, 7⟩
def AUD_HD_MAP.BUS0 (n : Nat) (k : Nat) : Fld := ⟨.AUD_HD_MAP n k, 4, 0⟩
def AUD_CFG.RATE : Fld := ⟨.AUD_CFG, 0, 0⟩
def AUD_EQ_ADDR.BUS : Fld := ⟨.AUD_EQ_ADDR, 15, 11⟩
def AUD_EQ_ADDR.BANK : Fld := ⟨.AUD_EQ_ADDR, 10, 10⟩
def AUD_EQ_ADDR.WORD : Fld := ⟨.AUD_EQ_ADDR, 4, 0⟩
def AUD_EQ_DATA.COEF : Fld := ⟨.AUD_EQ_DATA, 31, 0⟩
def AUD_BLOCK_TIME_LO.TIME_LO : Fld := ⟨.AUD_BLOCK_TIME_LO, 31, 0⟩
def AUD_BLOCK_TIME_HI.TIME_HI : Fld := ⟨.AUD_BLOCK_TIME_HI, 31, 0⟩
def TCH_CFG.UNROUTED : Fld := ⟨.TCH_CFG, 0, 0⟩
def TCH_P_CFG.EN (p : Nat) : Fld := ⟨.TCH_P_CFG p, 31, 31⟩
def TCH_P_CFG.SPEED (p : Nat) : Fld := ⟨.TCH_P_CFG p, 24, 24⟩
def TCH_P_CFG.ADDR (p : Nat) : Fld := ⟨.TCH_P_CFG p, 22, 16⟩
def TCH_P_CFG.DESC_REG (p : Nat) : Fld := ⟨.TCH_P_CFG p, 15, 0⟩
def TCH_P_STATUS.STATE (p : Nat) : Fld := ⟨.TCH_P_STATUS p, 31, 28⟩
def TCH_P_STATUS.DEVICES (p : Nat) : Fld := ⟨.TCH_P_STATUS p, 2, 0⟩
def TCH_S_SRC.EN (n : Nat) : Fld := ⟨.TCH_S_SRC n, 31, 31⟩
def TCH_S_SRC.COLL (n : Nat) : Fld := ⟨.TCH_S_SRC n, 9, 8⟩
def TCH_S_SRC.HUBPORT (n : Nat) : Fld := ⟨.TCH_S_SRC n, 6, 4⟩
def TCH_S_SRC.PORT (n : Nat) : Fld := ⟨.TCH_S_SRC n, 2, 0⟩
def TCH_S_MAP0.DY (n : Nat) : Fld := ⟨.TCH_S_MAP0 n, 31, 16⟩
def TCH_S_MAP0.DX (n : Nat) : Fld := ⟨.TCH_S_MAP0 n, 15, 0⟩
def TCH_S_MAP1.DH (n : Nat) : Fld := ⟨.TCH_S_MAP1 n, 31, 16⟩
def TCH_S_MAP1.DW (n : Nat) : Fld := ⟨.TCH_S_MAP1 n, 15, 0⟩
def TCH_S_MAP2.MIRROR (n : Nat) : Fld := ⟨.TCH_S_MAP2 n, 6, 6⟩
def TCH_S_MAP2.ROT (n : Nat) : Fld := ⟨.TCH_S_MAP2 n, 5, 4⟩
def TCH_S_MAP2.HEAD (n : Nat) : Fld := ⟨.TCH_S_MAP2 n, 3, 0⟩
def TCH_S_STATUS.STATE (n : Nat) : Fld := ⟨.TCH_S_STATUS n, 31, 28⟩
def TCH_S_STATUS.CONTACTS (n : Nat) : Fld := ⟨.TCH_S_STATUS n, 3, 0⟩
def TCH_R_CFG.EN (r : Nat) : Fld := ⟨.TCH_R_CFG r, 31, 31⟩
def TCH_R_CFG.TYPE (r : Nat) : Fld := ⟨.TCH_R_CFG r, 30, 30⟩
def TCH_R_CFG.MAXC (r : Nat) : Fld := ⟨.TCH_R_CFG r, 23, 20⟩
def TCH_R_CFG.TARGET (r : Nat) : Fld := ⟨.TCH_R_CFG r, 6, 0⟩
def TCH_UNROUTED.COUNT : Fld := ⟨.TCH_UNROUTED, 31, 0⟩
def TCH_REFUSED.COUNT : Fld := ⟨.TCH_REFUSED, 31, 0⟩
def TCH_OVER.COUNT : Fld := ⟨.TCH_OVER, 31, 0⟩
def HAP_K_CFG.EN (n : Nat) : Fld := ⟨.HAP_K_CFG n, 31, 31⟩
def HAP_K_CFG.MAXP (n : Nat) : Fld := ⟨.HAP_K_CFG n, 27, 26⟩
def HAP_K_CFG.RES_HZ (n : Nat) : Fld := ⟨.HAP_K_CFG n, 25, 16⟩
def HAP_K_CFG.VMAX (n : Nat) : Fld := ⟨.HAP_K_CFG n, 7, 0⟩
def HAP_K_COIL.L_UH (n : Nat) : Fld := ⟨.HAP_K_COIL n, 31, 16⟩
def HAP_K_COIL.R_NOM (n : Nat) : Fld := ⟨.HAP_K_COIL n, 7, 0⟩
def HAP_K_DET.STALL (n : Nat) : Fld := ⟨.HAP_K_DET n, 23, 16⟩
def HAP_K_DET.STOP_MV (n : Nat) : Fld := ⟨.HAP_K_DET n, 7, 0⟩
def HAP_K_STATUS.STATE (n : Nat) : Fld := ⟨.HAP_K_STATUS n, 31, 29⟩
def HAP_K_STATUS.LATCHED (n : Nat) : Fld := ⟨.HAP_K_STATUS n, 28, 28⟩
def HAP_K_STATUS.PRIO (n : Nat) : Fld := ⟨.HAP_K_STATUS n, 27, 26⟩
def HAP_K_STATUS.SOURCE (n : Nat) : Fld := ⟨.HAP_K_STATUS n, 25, 25⟩
def HAP_K_STATUS.EFFECT (n : Nat) : Fld := ⟨.HAP_K_STATUS n, 22, 16⟩
def HAP_K_DROP.COUNT (n : Nat) : Fld := ⟨.HAP_K_DROP n, 31, 0⟩
def HAP_TRIG.EN (m : Nat) : Fld := ⟨.HAP_TRIG m, 31, 31⟩
def HAP_TRIG.EDGE (m : Nat) : Fld := ⟨.HAP_TRIG m, 30, 29⟩
def HAP_TRIG.DEGL (m : Nat) : Fld := ⟨.HAP_TRIG m, 28, 27⟩
def HAP_TRIG.PRIO (m : Nat) : Fld := ⟨.HAP_TRIG m, 26, 25⟩
def HAP_TRIG.GAIN (m : Nat) : Fld := ⟨.HAP_TRIG m, 23, 16⟩
def HAP_TRIG.CHANNEL (m : Nat) : Fld := ⟨.HAP_TRIG m, 15, 12⟩
def HAP_TRIG.EFFECT (m : Nat) : Fld := ⟨.HAP_TRIG m, 6, 0⟩
def HAP_GOV.BUCKET_UJ : Fld := ⟨.HAP_GOV, 18, 0⟩
def HAP_GOV_LIMITED.COUNT : Fld := ⟨.HAP_GOV_LIMITED, 31, 0⟩
def SQ_BASE_LO.BASE_LO (f : Nat) (q : Nat) : Fld := ⟨.SQ_BASE_LO f q, 31, 12⟩
def SQ_BASE_HI.BASE_HI (f : Nat) (q : Nat) : Fld := ⟨.SQ_BASE_HI f q, 31, 0⟩
def SQ_CFG.ERR (f : Nat) (q : Nat) : Fld := ⟨.SQ_CFG f q, 31, 24⟩
def SQ_CFG.CQ (f : Nat) (q : Nat) : Fld := ⟨.SQ_CFG f q, 20, 16⟩
def SQ_CFG.ENGINE (f : Nat) (q : Nat) : Fld := ⟨.SQ_CFG f q, 10, 8⟩
def SQ_CFG.SIZE_LOG2 (f : Nat) (q : Nat) : Fld := ⟨.SQ_CFG f q, 7, 3⟩
def SQ_CFG.ENABLE (f : Nat) (q : Nat) : Fld := ⟨.SQ_CFG f q, 0, 0⟩
def SQ_PTR.TAIL (f : Nat) (q : Nat) : Fld := ⟨.SQ_PTR f q, 31, 16⟩
def SQ_PTR.HEAD (f : Nat) (q : Nat) : Fld := ⟨.SQ_PTR f q, 15, 0⟩
def CQ_BASE_LO.BASE_LO (f : Nat) (c : Nat) : Fld := ⟨.CQ_BASE_LO f c, 31, 12⟩
def CQ_BASE_HI.BASE_HI (f : Nat) (c : Nat) : Fld := ⟨.CQ_BASE_HI f c, 31, 0⟩
def CQ_CFG.ERR (f : Nat) (c : Nat) : Fld := ⟨.CQ_CFG f c, 31, 24⟩
def CQ_CFG.VECTOR (f : Nat) (c : Nat) : Fld := ⟨.CQ_CFG f c, 21, 16⟩
def CQ_CFG.SIZE_LOG2 (f : Nat) (c : Nat) : Fld := ⟨.CQ_CFG f c, 7, 3⟩
def CQ_CFG.ENABLE (f : Nat) (c : Nat) : Fld := ⟨.CQ_CFG f c, 0, 0⟩
def CQ_MOD.MOD_TIME_US (f : Nat) (c : Nat) : Fld := ⟨.CQ_MOD f c, 25, 16⟩
def CQ_MOD.MOD_COUNT (f : Nat) (c : Nat) : Fld := ⟨.CQ_MOD f c, 8, 0⟩
def CQ_PTR.HEAD (f : Nat) (c : Nat) : Fld := ⟨.CQ_PTR f c, 31, 16⟩
def CQ_PTR.TAIL (f : Nat) (c : Nat) : Fld := ⟨.CQ_PTR f c, 15, 0⟩
def EQ_BASE_LO.BASE_LO (f : Nat) : Fld := ⟨.EQ_BASE_LO f, 31, 12⟩
def EQ_BASE_HI.BASE_HI (f : Nat) : Fld := ⟨.EQ_BASE_HI f, 31, 0⟩
def EQ_CFG.ERR (f : Nat) : Fld := ⟨.EQ_CFG f, 31, 24⟩
def EQ_CFG.VECTOR (f : Nat) : Fld := ⟨.EQ_CFG f, 21, 16⟩
def EQ_CFG.SIZE_LOG2 (f : Nat) : Fld := ⟨.EQ_CFG f, 7, 3⟩
def EQ_CFG.ENABLE (f : Nat) : Fld := ⟨.EQ_CFG f, 0, 0⟩
def EQ_MOD.MOD_TIME_US (f : Nat) : Fld := ⟨.EQ_MOD f, 25, 16⟩
def EQ_MOD.MOD_COUNT (f : Nat) : Fld := ⟨.EQ_MOD f, 8, 0⟩
def EQ_PTR.HEAD (f : Nat) : Fld := ⟨.EQ_PTR f, 31, 16⟩
def EQ_PTR.TAIL (f : Nat) : Fld := ⟨.EQ_PTR f, 15, 0⟩
def EQ_DROP.COUNT (f : Nat) : Fld := ⟨.EQ_DROP f, 31, 0⟩
def INST_SELF.GEN (f : Nat) : Fld := ⟨.INST_SELF f, 31, 16⟩
def INST_SELF.STATE (f : Nat) : Fld := ⟨.INST_SELF f, 15, 12⟩
def INST_SELF.INSTANCE (f : Nat) : Fld := ⟨.INST_SELF f, 8, 0⟩
def INST_LEASE_KICK.GEN (f : Nat) : Fld := ⟨.INST_LEASE_KICK f, 15, 0⟩
def INST_MB_DOORBELL.GEN (f : Nat) : Fld := ⟨.INST_MB_DOORBELL f, 15, 0⟩
def INST_LAST_DB_STATUS.STATUS (f : Nat) : Fld := ⟨.INST_LAST_DB_STATUS f, 7, 0⟩
def VF_TIME_NOW_LO.NOW_LO (f : Nat) : Fld := ⟨.VF_TIME_NOW_LO f, 31, 0⟩
def VF_TIME_NOW_HI.NOW_HI (f : Nat) : Fld := ⟨.VF_TIME_NOW_HI f, 31, 0⟩
def VF_TIME_STATUS.BITS (f : Nat) : Fld := ⟨.VF_TIME_STATUS f, 31, 0⟩
def VF_TIME_TAI_OFFSET_LO.OFS_LO (f : Nat) : Fld := ⟨.VF_TIME_TAI_OFFSET_LO f, 31, 0⟩
def VF_TIME_TAI_OFFSET_HI.OFS_HI (f : Nat) : Fld := ⟨.VF_TIME_TAI_OFFSET_HI f, 31, 0⟩

/-- The register at `off` when `base` is the only place it lies. -/
def regAt0 (off base : Nat) (r : Reg) : Option Reg := if off = base then some r else none

/-- The register of unit `n` of an array of `cnt` registers, `stride` apart, from `base`. -/
def regAt1 (off base stride cnt : Nat) (mk : Nat → Reg) : Option Reg :=
  if off < base ∨ (off - base) % stride ≠ 0 ∨ cnt ≤ (off - base) / stride then none
  else some (mk ((off - base) / stride))

/-- The register of unit `(n, m)` of an array of arrays. -/
def regAt2 (off base s1 c1 s2 c2 : Nat) (mk : Nat → Nat → Reg) : Option Reg :=
  if off < base ∨ c1 ≤ (off - base) / s1 then none
  else regAt1 ((off - base) % s1) 0 s2 c2 (mk ((off - base) / s1))

/-- The Platform block of the BAR0 setup space (Table 18.1). -/
def regOfPlatform (off : Nat) : Option Reg :=
  regAt0 off 0x0 .ID_VENDOR <|>
  regAt0 off 0x4 .ID_SUBSYS <|>
  regAt0 off 0x8 .ID_VF_DEVICE <|>
  regAt0 off 0xC .ID_FAMILY <|>
  regAt0 off 0x10 .ID_SCALE0 <|>
  regAt0 off 0x14 .ID_SCALE1 <|>
  regAt0 off 0x18 .ID_FW <|>
  regAt0 off 0x1C .ID_LOCK <|>
  regAt1 off 0x20 4 4 .ID_SERIAL <|>
  regAt0 off 0x30 .ID_STATUS <|>
  regAt1 off 0x40 4 8 .ID_NONCE <|>
  regAt0 off 0x60 .ID_OUT_ADDR_LO <|>
  regAt0 off 0x64 .ID_OUT_ADDR_HI <|>
  regAt0 off 0x68 .ID_CTRL <|>
  regAt0 off 0x100 .BOOT_STATUS <|>
  regAt0 off 0x104 .BOOT_REASON <|>
  regAt0 off 0x108 .BOOT_CTRL <|>
  regAt0 off 0x200 .UPD_CTRL <|>
  regAt0 off 0x204 .UPD_STATUS <|>
  regAt0 off 0x208 .UPD_PKG_LO <|>
  regAt0 off 0x20C .UPD_PKG_HI <|>
  regAt0 off 0x210 .UPD_XFER_ADDR_LO <|>
  regAt0 off 0x214 .UPD_XFER_ADDR_HI <|>
  regAt0 off 0x218 .UPD_XFER <|>
  regAt0 off 0x21C .UPD_XFER_RESULT <|>
  regAt0 off 0x220 .UPD_COAP <|>
  regAt0 off 0x300 .PWR_STATUS <|>
  regAt0 off 0x304 .PWR_IIN <|>
  regAt0 off 0x308 .PWR_DOMAIN <|>
  regAt0 off 0x30C .PWR_CTRL <|>
  regAt0 off 0x310 .PWR_RESET <|>
  regAt0 off 0x314 .PWR_BO_COUNT <|>
  regAt0 off 0x318 .PWR_THERM <|>
  regAt0 off 0x31C .PWR_THROTTLE <|>
  regAt0 off 0x320 .PWR_THROTTLE_MS <|>
  regAt0 off 0x324 .PWR_GPIO <|>
  regAt0 off 0x400 .CLK_STATUS

/-- The Time block of the BAR0 setup space (Table 18.1). -/
def regOfTime (off : Nat) : Option Reg :=
  regAt0 off 0x10000 .TIME_NOW_LO <|>
  regAt0 off 0x10004 .TIME_NOW_HI <|>
  regAt0 off 0x10008 .TIME_TAI_OFFSET_LO <|>
  regAt0 off 0x1000C .TIME_TAI_OFFSET_HI <|>
  regAt0 off 0x10010 .TIME_UNCERT <|>
  regAt0 off 0x10014 .TIME_EPOCH_ACC <|>
  regAt0 off 0x10018 .TIME_STEP_COUNT <|>
  regAt0 off 0x1001C .TIME_SYNC_PERIOD <|>
  regAt0 off 0x10020 .TIME_STATUS <|>
  regAt0 off 0x10024 .TIME_CTRL <|>
  regAt1 off 0x10100 0x10 6 .TIME_F_LIMIT <|>
  regAt1 off 0x10104 0x10 6 .TIME_F_TREAT <|>
  regAt1 off 0x10108 0x10 6 .TIME_F_COLOUR

/-- The Shallot block of the BAR0 setup space (Table 18.1). -/
def regOfShallot (off : Nat) : Option Reg :=
  regAt0 off 0x20000 .SHL_STATUS <|>
  regAt0 off 0x20004 .SHL_ALERT <|>
  regAt0 off 0x20008 .SHL_ALERT_MASK <|>
  regAt0 off 0x2000C .SHL_ALERT_LATCH <|>
  regAt0 off 0x20010 .SHL_MGR_WD <|>
  regAt0 off 0x20014 .SHL_MGR_KICK <|>
  regAt0 off 0x20020 .SHL_RET_HEAD <|>
  regAt1 off 0x20024 4 3 .SHL_RET_PIPE <|>
  regAt0 off 0x20030 .SHL_RET_CLUSTER <|>
  regAt0 off 0x20034 .SHL_RET_PORTS <|>
  regAt0 off 0x20038 .SHL_RET_PAGES <|>
  regAt0 off 0x20040 .SHL_UNRETIRE <|>
  regAt0 off 0x20044 .SHL_TRANSIENT_TOTAL <|>
  regAt0 off 0x20048 .SHL_LOG_HEAD <|>
  regAt0 off 0x2004C .SHL_LOG_DROP

/-- The Artichoke block of the BAR0 setup space (Table 18.1). -/
def regOfArtichoke (off : Nat) : Option Reg :=
  regAt0 off 0x30000 .ART_SAFETY <|>
  regAt0 off 0x30004 .ART_F7_LIMIT <|>
  regAt0 off 0x30008 .ART_F7_COLOUR <|>
  regAt0 off 0x3000C .ART_OVERRUN <|>
  regAt1 off 0x30100 0x20 12 .ART_HD_CFG <|>
  regAt1 off 0x30104 0x20 12 .ART_HD_STATUS <|>
  regAt1 off 0x30108 0x20 12 .ART_HD_STALE <|>
  regAt1 off 0x3010C 0x20 12 .ART_HD_SINK_RG <|>
  regAt1 off 0x30110 0x20 12 .ART_HD_SINK_B <|>
  regAt1 off 0x30114 0x20 12 .ART_HD_SIG_MISMATCH <|>
  regAt1 off 0x30118 0x20 12 .ART_HD_SINK_MISMATCH <|>
  regAt2 off 0x31000 0x200 12 0x20 16 .ART_R_POS <|>
  regAt2 off 0x31004 0x200 12 0x20 16 .ART_R_SIZE <|>
  regAt2 off 0x31008 0x200 12 0x20 16 .ART_R_SEL <|>
  regAt2 off 0x3100C 0x200 12 0x20 16 .ART_R_SIG <|>
  regAt2 off 0x31010 0x200 12 0x20 16 .ART_R_TSRC_LO <|>
  regAt2 off 0x31014 0x200 12 0x20 16 .ART_R_TSRC_HI

/-- The Host block of the BAR0 setup space (Table 18.1). -/
def regOfHost (off : Nat) : Option Reg :=
  regAt1 off 0x40000 0x80 256 .HOST_LIMIT <|>
  regAt2 off 0x40040 0x80 256 4 16 .HOST_PASID

/-- The Instance block of the BAR0 setup space (Table 18.1). -/
def regOfInstance (off : Nat) : Option Reg :=
  regAt1 off 0x50000 0x40 257 .INST_STATE <|>
  regAt1 off 0x50004 0x40 257 .INST_SHARE <|>
  regAt1 off 0x50008 0x40 257 .INST_SLICE <|>
  regAt1 off 0x5000C 0x40 257 .INST_PASIDS <|>
  regAt1 off 0x50010 0x40 257 .INST_STATUS <|>
  regAt1 off 0x50014 0x40 257 .INST_STALE_WRITE <|>
  regAt1 off 0x50018 0x40 257 .INST_LATE_DROP <|>
  regAt1 off 0x5001C 0x40 257 .INST_MB_OVERRUN <|>
  regAt1 off 0x50020 0x40 257 .INST_SRC_CLAMP <|>
  regAt0 off 0x58000 .INST_JOURNAL_HEAD <|>
  regAt0 off 0x58004 .INST_MB_TIMEOUT <|>
  regAt0 off 0x58008 .INST_JBACK <|>
  regAt0 off 0x5800C .INST_MGR_MB_DOORBELL

/-- The Memory block of the BAR0 setup space (Table 18.1). -/
def regOfMemory (off : Nat) : Option Reg :=
  regAt0 off 0x60000 .MEM_ECC_EN <|>
  regAt1 off 0x60010 8 6 .MEM_HASH_LO <|>
  regAt1 off 0x60014 8 6 .MEM_HASH_HI <|>
  regAt0 off 0x60040 .MEM_RETRAIN <|>
  regAt0 off 0x60044 .MEM_SR <|>
  regAt0 off 0x60048 .MEM_PATROL <|>
  regAt0 off 0x60050 .MEM_ECC_CE <|>
  regAt0 off 0x60054 .MEM_ECC_UE <|>
  regAt0 off 0x60058 .MEM_ECC_LAST_LO <|>
  regAt0 off 0x6005C .MEM_ECC_LAST_HI <|>
  regAt0 off 0x60060 .MEM_MMU_FAULT <|>
  regAt0 off 0x60064 .MEM_SPARE_FREE <|>
  regAt0 off 0x60068 .MEM_DEAD <|>
  regAt0 off 0x60070 .MEM_PAGE_SEL <|>
  regAt0 off 0x60074 .MEM_PAGE_ENTRY_LO <|>
  regAt0 off 0x60078 .MEM_PAGE_ENTRY_HI <|>
  regAt1 off 0x60100 0x20 4 .MEM_CH_STATUS <|>
  regAt1 off 0x60104 0x20 4 .MEM_CH_RETRAINED <|>
  regAt1 off 0x60108 0x20 4 .MEM_CH_FORCED <|>
  regAt1 off 0x6010C 0x20 4 .MEM_CH_LAST_LO <|>
  regAt1 off 0x60110 0x20 4 .MEM_CH_LAST_HI

/-- The Render block of the BAR0 setup space (Table 18.1). -/
def regOfRender (off : Nat) : Option Reg :=
  regAt1 off 0x80000 0x40 512 .RND_CTX_CFG <|>
  regAt1 off 0x80004 0x40 512 .RND_CTX_SPILL <|>
  regAt1 off 0x80008 0x40 512 .RND_CTX_STATUS <|>
  regAt1 off 0x8000C 0x40 512 .RND_CTX_FAILOFS <|>
  regAt1 off 0x80010 0x40 512 .RND_CTX_SPLIT_TOTAL <|>
  regAt1 off 0x80020 0x40 512 .SHD_CTX_SAVE <|>
  regAt1 off 0x80024 0x40 512 .SHD_CTX_SCHED <|>
  regAt1 off 0x80028 0x40 512 .SHD_CTX_PREEMPT <|>
  regAt1 off 0x8002C 0x40 512 .SHD_CTX_NP_OVERRUN <|>
  regAt0 off 0x88000 .RND_GROW_TIMEOUT <|>
  regAt0 off 0x88004 .RND_CLUSTER_RETIRED <|>
  regAt1 off 0x89000 0x10 12 .SHD_HD_COMP <|>
  regAt1 off 0x89004 0x10 12 .SHD_HD_EST <|>
  regAt1 off 0x89008 0x10 12 .SHD_HD_LATE <|>
  regAt1 off 0x8900C 0x10 12 .SHD_HD_MISS <|>
  regAt0 off 0x8A000 .SHD_INGEST_QUEUE <|>
  regAt0 off 0x8A004 .SHD_CACHE_USED <|>
  regAt0 off 0x8A008 .SHD_CACHE_EVICT

/-- The Layer block of the BAR0 setup space (Table 18.1). -/
def regOfLayer (off : Nat) : Option Reg :=
  regAt1 off 0xA0000 0x80 96 .LYR_HEAD <|>
  regAt1 off 0xA0004 0x80 96 .LYR_FCLASS <|>
  regAt1 off 0xA0008 0x80 96 .LYR_FMT <|>
  regAt1 off 0xA000C 0x80 96 .LYR_SRC <|>
  regAt1 off 0xA0010 0x80 96 .LYR_PITCH <|>
  regAt1 off 0xA0014 0x80 96 .LYR_CROP_XY <|>
  regAt1 off 0xA0018 0x80 96 .LYR_CROP_WH <|>
  regAt1 off 0xA001C 0x80 96 .LYR_DST_XY <|>
  regAt1 off 0xA0020 0x80 96 .LYR_DST_WH <|>
  regAt1 off 0xA0024 0x80 96 .LYR_RP <|>
  regAt1 off 0xA0028 0x80 96 .LYR_STATUS <|>
  regAt1 off 0xA002C 0x80 96 .LYR_TARGET <|>
  regAt1 off 0xA0030 0x80 96 .LYR_TSRC_LO <|>
  regAt1 off 0xA0034 0x80 96 .LYR_TSRC_HI <|>
  regAt1 off 0xA0040 0x80 48 .LYR_COEF_SEL <|>
  regAt1 off 0xA0044 0x80 48 .LYR_COEF_ADDR <|>
  regAt1 off 0xA0048 0x80 48 .LYR_COEF_DATA <|>
  regAt1 off 0xA4000 4 12 .LYR_WB_HD <|>
  regAt0 off 0xA4040 .LYR_WB_BUSY <|>
  regAt0 off 0xA4044 .LYR_WB_ABORT

/-- The Head block of the BAR0 setup space (Table 18.1). -/
def regOfHead (off : Nat) : Option Reg :=
  regAt1 off 0xB0000 0x40 12 .HD_CTRL <|>
  regAt1 off 0xB0004 0x40 12 .HD_HTIM <|>
  regAt1 off 0xB0008 0x40 12 .HD_HSYNC <|>
  regAt1 off 0xB000C 0x40 12 .HD_VTIM <|>
  regAt1 off 0xB0010 0x40 12 .HD_VSYNC <|>
  regAt1 off 0xB0014 0x40 12 .HD_BG <|>
  regAt1 off 0xB0018 0x40 12 .HD_OUT <|>
  regAt1 off 0xB001C 0x40 12 .HD_LINK <|>
  regAt1 off 0xB0020 0x40 12 .HD_COMMIT <|>
  regAt1 off 0xB0024 0x40 12 .HD_STATUS <|>
  regAt1 off 0xB0028 0x40 12 .HD_BW <|>
  regAt1 off 0xB1000 0x40 3 .HDG_PLL <|>
  regAt1 off 0xB1004 0x40 3 .HDG_GENLOCK <|>
  regAt1 off 0xB1008 0x40 3 .HDG_STATUS <|>
  regAt1 off 0xB100C 0x40 3 .HDG_PHASE_ERR <|>
  regAt1 off 0xB1010 0x40 3 .HDG_FRAME_LO <|>
  regAt1 off 0xB1014 0x40 3 .HDG_FRAME_HI <|>
  regAt0 off 0xB2000 .HD_SYNC_IN <|>
  regAt0 off 0xB2004 .HD_SYNC_OUT <|>
  regAt0 off 0xB2008 .HD_BW_BUDGET <|>
  regAt0 off 0xB200C .HD_BW_USED <|>
  regAt1 off 0xB2100 0x10 4 .HDCG_CTRL <|>
  regAt1 off 0xB2104 0x10 4 .HDCG_STATUS

/-- The Value block of the BAR0 setup space (Table 18.1). -/
def regOfValue (off : Nat) : Option Reg :=
  regAt1 off 0xC0000 4 1024 .VAL_GRP_CLASS <|>
  regAt1 off 0xC1000 4 8 .VAL_FDESC_D <|>
  regAt0 off 0xC1020 .VAL_FDESC_CTRL <|>
  regAt0 off 0xC1030 .VAL_PEEK_SEL <|>
  regAt0 off 0xC1034 .VAL_PEEK_VAL_LO <|>
  regAt0 off 0xC1038 .VAL_PEEK_VAL_HI <|>
  regAt0 off 0xC103C .VAL_PEEK_MEAS_LO <|>
  regAt0 off 0xC1040 .VAL_PEEK_MEAS_HI <|>
  regAt0 off 0xC1044 .VAL_PEEK_STATE <|>
  regAt0 off 0xC1050 .VAL_FONT_SRC <|>
  regAt0 off 0xC1054 .VAL_FONT_LOAD <|>
  regAt1 off 0xC1060 4 8 .VAL_FONT_CFG <|>
  regAt1 off 0xC1080 4 12 .VAL_HD_COUNT <|>
  regAt0 off 0xC10B0 .VAL_OLD_REJECT

/-- The Fennel block of the BAR0 setup space (Table 18.1). -/
def regOfFennel (off : Nat) : Option Reg :=
  regAt1 off 0xD0000 0x100 64 .AUD_A_CFG <|>
  regAt1 off 0xD0004 0x100 64 .AUD_A_GAIN <|>
  regAt1 off 0xD0008 0x100 64 .AUD_A_RCTL <|>
  regAt1 off 0xD000C 0x100 64 .AUD_A_STATUS <|>
  regAt1 off 0xD0010 0x100 64 .AUD_A_UNDERRUN <|>
  regAt2 off 0xD0080 0x100 64 4 32 .AUD_A_XP <|>
  regAt1 off 0xD4000 0x10 32 .AUD_B_GAIN <|>
  regAt1 off 0xD4004 0x10 32 .AUD_B_EQ <|>
  regAt1 off 0xD4008 0x10 32 .AUD_B_CLIP <|>
  regAt1 off 0xD5000 0x40 4 .AUD_T_CFG <|>
  regAt1 off 0xD5004 0x40 4 .AUD_T_WM <|>
  regAt1 off 0xD5008 0x40 4 .AUD_T_STATUS <|>
  regAt2 off 0xD5010 0x40 4 4 4 .AUD_T_TXMAP <|>
  regAt1 off 0xD5020 0x40 4 .AUD_T_IDLE <|>
  regAt1 off 0xD5024 0x40 4 .AUD_T_DROP <|>
  regAt1 off 0xD5028 0x40 4 .AUD_T_HOLDS <|>
  regAt1 off 0xD502C 0x40 4 .AUD_T_TIME_LO <|>
  regAt1 off 0xD5030 0x40 4 .AUD_T_TIME_HI <|>
  regAt1 off 0xD5100 0x10 12 .AUD_HD_CFG <|>
  regAt2 off 0xD5104 0x10 12 4 2 .AUD_HD_MAP <|>
  regAt0 off 0xD6000 .AUD_CFG <|>
  regAt0 off 0xD6004 .AUD_EQ_ADDR <|>
  regAt0 off 0xD6008 .AUD_EQ_DATA <|>
  regAt0 off 0xD600C .AUD_BLOCK_TIME_LO <|>
  regAt0 off 0xD6010 .AUD_BLOCK_TIME_HI

/-- The Touch block of the BAR0 setup space (Table 18.1). -/
def regOfTouch (off : Nat) : Option Reg :=
  regAt0 off 0xE0000 .TCH_CFG <|>
  regAt1 off 0xE0100 0x10 8 .TCH_P_CFG <|>
  regAt1 off 0xE0104 0x10 8 .TCH_P_STATUS <|>
  regAt1 off 0xE0200 0x20 16 .TCH_S_SRC <|>
  regAt1 off 0xE0204 0x20 16 .TCH_S_MAP0 <|>
  regAt1 off 0xE0208 0x20 16 .TCH_S_MAP1 <|>
  regAt1 off 0xE020C 0x20 16 .TCH_S_MAP2 <|>
  regAt1 off 0xE0210 0x20 16 .TCH_S_STATUS <|>
  regAt1 off 0xE0400 4 256 .TCH_R_CFG <|>
  regAt0 off 0xE0800 .TCH_UNROUTED <|>
  regAt0 off 0xE0804 .TCH_REFUSED <|>
  regAt0 off 0xE0808 .TCH_OVER

/-- The Haptic block of the BAR0 setup space (Table 18.1). -/
def regOfHaptic (off : Nat) : Option Reg :=
  regAt1 off 0xE8000 0x20 16 .HAP_K_CFG <|>
  regAt1 off 0xE8004 0x20 16 .HAP_K_COIL <|>
  regAt1 off 0xE8008 0x20 16 .HAP_K_DET <|>
  regAt1 off 0xE800C 0x20 16 .HAP_K_STATUS <|>
  regAt1 off 0xE8010 0x20 16 .HAP_K_DROP <|>
  regAt1 off 0xE8200 4 16 .HAP_TRIG <|>
  regAt0 off 0xE8300 .HAP_GOV <|>
  regAt0 off 0xE8304 .HAP_GOV_LIMITED

/-- The register at a BAR0 offset below 16 MiB (R444). -/
def regOfSetup (off : Nat) : Option Reg :=
  match off / 0x10000 with
  | 0x0 => regOfPlatform off
  | 0x1 => regOfTime off
  | 0x2 => regOfShallot off
  | 0x3 => regOfArtichoke off
  | 0x4 => regOfHost off
  | 0x5 => regOfInstance off
  | 0x6 => regOfMemory off
  | 0x8 => regOfRender off
  | 0xA => regOfLayer off
  | 0xB => regOfHead off
  | 0xC => regOfValue off
  | 0xD => regOfFennel off
  | 0xE => if off < 0xE8000 then regOfTouch off else regOfHaptic off
  | _ => none

/-- The register at an offset of the ring setup page of function `f` (R452).  Offsets from 0xC00 up exist on a VF
page only. -/
def regOfPage (f off : Nat) : Option Reg :=
  if f = 0 ∧ 0xC00 ≤ off then none else
  regAt1 off 0x000 0x10 (if f = 0 then 64 else 16) (fun i => .SQ_BASE_LO f i) <|>
  regAt1 off 0x004 0x10 (if f = 0 then 64 else 16) (fun i => .SQ_BASE_HI f i) <|>
  regAt1 off 0x008 0x10 (if f = 0 then 64 else 16) (fun i => .SQ_CFG f i) <|>
  regAt1 off 0x00C 0x10 (if f = 0 then 64 else 16) (fun i => .SQ_PTR f i) <|>
  regAt1 off 0x400 0x20 (if f = 0 then 32 else 8) (fun i => .CQ_BASE_LO f i) <|>
  regAt1 off 0x404 0x20 (if f = 0 then 32 else 8) (fun i => .CQ_BASE_HI f i) <|>
  regAt1 off 0x408 0x20 (if f = 0 then 32 else 8) (fun i => .CQ_CFG f i) <|>
  regAt1 off 0x40C 0x20 (if f = 0 then 32 else 8) (fun i => .CQ_MOD f i) <|>
  regAt1 off 0x410 0x20 (if f = 0 then 32 else 8) (fun i => .CQ_PTR f i) <|>
  regAt0 off 0x800 (.EQ_BASE_LO f) <|>
  regAt0 off 0x804 (.EQ_BASE_HI f) <|>
  regAt0 off 0x808 (.EQ_CFG f) <|>
  regAt0 off 0x80C (.EQ_MOD f) <|>
  regAt0 off 0x810 (.EQ_PTR f) <|>
  regAt0 off 0x814 (.EQ_DROP f) <|>
  regAt0 off 0xC00 (.INST_SELF f) <|>
  regAt0 off 0xC04 (.INST_LEASE_KICK f) <|>
  regAt0 off 0xC08 (.INST_MB_DOORBELL f) <|>
  regAt0 off 0xC0C (.INST_LAST_DB_STATUS f) <|>
  regAt0 off 0xD00 (.VF_TIME_NOW_LO f) <|>
  regAt0 off 0xD04 (.VF_TIME_NOW_HI f) <|>
  regAt0 off 0xD08 (.VF_TIME_STATUS f) <|>
  regAt0 off 0xD0C (.VF_TIME_TAI_OFFSET_LO f) <|>
  regAt0 off 0xD10 (.VF_TIME_TAI_OFFSET_HI f)

end Sys2Proof.Machine
end

