-- ==== Sys2Proof/Machine/Sparse.lean ====
section
/-! DEFINITION. Sparse data by key: a list of (key, value) pairs in one canonical form, keys strictly rising and no
entry equal to what an unlisted key reads as. -/

namespace Sys2Proof.Machine

/-- Sparse data: the listed keys and their values. -/
abbrev Sparse (α : Type) := List (Nat × α)

/-- The value at key `k`; `d` is what an unlisted key reads as. -/
def Sparse.get {α : Type} (d : α) (m : Sparse α) (k : Nat) : α :=
  match m with
  | [] => d
  | (j, v) :: rest => if j = k then v else Sparse.get d rest k

/-- `m` without key `k`. -/
def Sparse.erase {α : Type} (m : Sparse α) (k : Nat) : Sparse α := m.filter (fun p => p.1 ≠ k)

/-- `m` with an entry placed before the first larger key. -/
def Sparse.place {α : Type} (m : Sparse α) (k : Nat) (v : α) : Sparse α :=
  match m with
  | [] => [(k, v)]
  | (j, w) :: rest => if k < j then (k, v) :: (j, w) :: rest else (j, w) :: Sparse.place rest k v

/-- `m` with key `k` reading as `v`; writing what an unlisted key reads as removes the entry. -/
def Sparse.set {α : Type} [DecidableEq α] (d : α) (m : Sparse α) (k : Nat) (v : α) : Sparse α :=
  if v = d then Sparse.erase m k else Sparse.place (Sparse.erase m k) k v

/-- `m` with every key from `lo` up to and not `hi` reading as an unlisted key reads. -/
def Sparse.clear {α : Type} (m : Sparse α) (lo hi : Nat) : Sparse α :=
  m.filter (fun p => ¬ (lo ≤ p.1 ∧ p.1 < hi))

/-- Keys strictly rising. -/
def Sparse.rising {α : Type} (m : Sparse α) : Bool :=
  match m with
  | (j, _) :: (k, v) :: rest => decide (j < k) && Sparse.rising ((k, v) :: rest)
  | _ => true

/-- The canonical form: keys strictly rising, no entry equal to the value of an unlisted key. -/
def Sparse.wf {α : Type} [DecidableEq α] (d : α) (m : Sparse α) : Bool :=
  Sparse.rising m && m.all (fun p => decide (p.2 ≠ d))

end Sys2Proof.Machine
end

