-- ==== Sys2Proof/Machine/State.lean ====
section
/-! DEFINITION. The state of the block: every register, buffer, queue, counter, mode and pin the spec gives the device
(R1), the hidden state its rules speak of, and the queue of the commands that wait.  All of it is plain data.  The
registers of the setup map live in `regs`, at the key of `Reg.key`, unlisted where they hold their reset value; every
other block has a structure of its own.  `State.reset` is the machine at the device epoch (R23): module reset just
released, the start in its ROM step. -/

namespace Sys2Proof.Machine

open Sys2Proof (Instr Word Byte Desc Page Rec32 Rec16)

/-! ### Why a command can stop -/

/-- Faults of a step.  No command of this block stops with a fault: what the manual calls a fault is a reaction of the
device and a next state.  The one constructor names an access that the machine has no address for; no meaning raises
it (safe). -/
inductive Fault where
  | noSuchAddress
deriving DecidableEq, Repr

/-- Refusals of a step: `notModelled m` is answered by the dispatch arm of a command that has no meaning yet (safe:
nothing can be proved of it). -/
inductive Refusal where
  | notModelled (mnemonic : String)
deriving DecidableEq, Repr

/-! ### What leaves the device -/

/-- What the device sends to its surroundings while it acts on one command. -/
inductive HostMsg where
  /-- A completion written to slot `idx` of completion ring `cq` of function `fn` (R99). -/
  | completion (fn cq idx : Nat) (entry : Rec16)
  /-- An event written to slot `idx` of the event ring of function `fn` (R102). -/
  | event (fn idx : Nat) (entry : Rec32)
  /-- An MSI-X message (R106, R107). -/
  | msix (fn vector : Nat)
  /-- A DMA write of function `fn`, with its PASID where it has one (R91, R108). -/
  | dma (fn : Nat) (pasid : Option Nat) (addr : Nat) (bytes : List Byte)
  /-- Data of a COPY written to host memory, which alone may carry Relaxed Ordering (R98). -/
  | copyData (fn : Nat) (pasid : Option Nat) (addr : Nat) (bytes : List Byte)
  /-- A read of host memory that the device starts, with its PASID where it has one (R91, R108). -/
  | hostRead (fn : Nat) (pasid : Option Nat) (addr len : Nat)
  /-- A CoAP request or response of the management port (R417). -/
  | coap (peer : Option (Nat × Nat)) (code : Nat) (arg : Nat) (payload : List Nat)
  /-- The preemption request that the scheduler sends to a cluster (R162). -/
  | preempt (cluster : Nat)
  /-- The voltage of a haptic bridge, in mV (R340, R344). -/
  | bridge (channel : Nat) (mv : Int)
  /-- An AUX read that a head starts (R274, R276), and an AUX write (R274). -/
  | aux (head addr len : Nat)
  | auxWrite (head addr : Nat) (bytes : List Nat)
  /-- A head tries to train a link configuration, with the channel equalisation pattern TPS2, TPS3 or TPS4 after TPS1 (R216, R220). -/
  | train (head rate lanes pattern : Nat)
  /-- The swing and the pre-emphasis that a head drives for a try of link training (Table 8.5). -/
  | levels (head swing pre : Nat)
  /-- A sample period of a head's DisplayPort audio, with its channel allocation, channel by channel (R327). -/
  | dpAudio (head alloc : Nat) (samples : List Nat)
  /-- The 512 bit clocks of a TDM frame, frame sync and SDOUT at each (R319). -/
  | tdm (port : Nat) (wave : List (Bool × Bool))
  /-- Completion of a function-level reset for the function's configuration space (R56, R460). -/
  | flrDone (fn : Nat)
  /-- An ATS invalidation completed (R110). -/
  | atsDone (tag : Nat)
  /-- A configuration request answered with Configuration Request Retry Status (R394, R404). -/
  | configRetry
  /-- A domain that the sequencer switches off in an orderly power-down (Table 15.5). -/
  | domainOff (domain : Nat)
  /-- A failed host read reported through AER of the function (R109). -/
  | aer (fn : Nat)
  /-- A delay request of the default profile, or a peer-delay request of the power utility profile, in a PTP domain (R26,
  Table 2.1). -/
  | ptpDelay (peer : Bool) (domain : Nat)
  /-- Input Mode of a digitiser is set (R331). -/
  | inputMode (port hub mode : Nat)
  /-- A pulse of SYNC_OUT (R213). -/
  | syncOut
deriving DecidableEq, Repr

/-! ### Device time (chapter 2) -/

/-- A PTP master heard through its Announce messages (R26, Table 2.1). -/
structure PtpMaster where
  /-- Clock identity and port, as one number. -/
  ident : Nat
  /-- The data set of the default best master clock algorithm in comparison order, lower is better. -/
  rank : List Nat
  logSync : Int
  logAnnounce : Int
  lastAnnounce : Nat
  qualified : Bool
deriving DecidableEq, Repr

/-- The time unit (R22 to R31). -/
structure TimeUnit where
  /-- The 96-bit accumulator: DTIME is its integer part, `acc / 2^32` (R22). -/
  acc : Nat := 0
  /-- The stamp of the event at hand, taken at its pin or port (R33, Table 2.3). -/
  stamp : Nat := 0
  /-- TIME_INC, in 2^-32 ns per FCLK cycle (R22). -/
  inc : Nat := 0x138800000
  /-- Whether module reset has released the counter (R23). -/
  run : Bool := true
  /-- The frequency estimate without the phase term (R27, R31). -/
  freq : Nat := 0x138800000
  /-- The low word of TIME_TAI_OFFSET held until the high word is written (Table 2.7). -/
  heldLo : Option Word := none
  /-- Masters heard (R26). -/
  masters : List PtpMaster := []
  /-- The selected master's identity. -/
  master : Option Nat := none
  /-- t_last of R458: the stamp of the last Sync of the selected master; after a change of master, of the one selected before,
  until the new one sends its first. -/
  lastSync : Option Nat := none
  /-- A Sync of the selected master has opened the count of intervals (R458). -/
  syncOpen : Bool := false
  /-- The Sync interval announced by the selected master, ns. -/
  syncInterval : Nat := 1000000000
  /-- Consecutive good Sync intervals (Table 2.2, R458). -/
  syncGood : Nat := 0
  /-- Whether PTP has set the offset since module reset or the last change of source (R25). -/
  offsetSet : Bool := false
  /-- The absolute offsets of the last 16 Sync intervals, newest first (R31). -/
  offsets : List Nat := []
  /-- Mean path delay to the master, ns (PTP_DELAY_RESPONSE). -/
  pathDelay : Int := 0
  /-- The last Sync's receive stamp and origin time, for the delay measurement. -/
  lastOrigin : Int := 0
  /-- Whether PTP meets its lock condition. -/
  ptpLocked : Bool := false
  /-- Stamp of the last SYNC_IN reference point (R458). -/
  lastRef : Option Nat := none
  /-- Consecutive reference points with a period in range. -/
  refGood : Nat := 0
  /-- Expected reference points missing in a row. -/
  refMissing : Nat := 0
  /-- Whether house sync meets its lock condition. -/
  houseLocked : Bool := false
  /-- DTIME of entry into HOLDOVER (HOLDOVER_S of Table 2.8). -/
  holdEntry : Nat := 0
  /-- DTIME at which the holdover timer of R30 started, while it runs. -/
  holdTimer : Option Nat := none
  /-- TIME_UNCERT at `uncSince` (R31). -/
  uncBase : Nat := 0xFFFFFFFF
  uncSince : Nat := 0
  /-- Whether TIME_UNCERT grows by 1 ns per 10 ms instead of 2 ns per ms (R30). -/
  uncSlow : Bool := false
deriving DecidableEq, Repr

/-! ### Instances, leases, mailboxes and the journal (chapter 3) -/

/-- An outstanding tenant mailbox request (R72). -/
structure MbReq where
  seq : Nat
  takenAt : Nat
  /-- A restart of the control cores has lost it: it times out (R288). -/
  lost : Bool := false
deriving DecidableEq, Repr

/-- What the fabric keeps of an instance beside its registers. -/
structure Inst where
  /-- State before the running reset (Table 3.3). -/
  before : Nat := 0
  /-- Arrival of the last reset taken, from which the drain bound runs (R56, R57). -/
  resetAt : Nat := 0
  /-- A VF function-level reset waits for the drain (R56, R460). -/
  flr : Bool := false
  /-- Credits of the share scheduler (R62). -/
  deficit : Int := 0
  /-- Acceptance of the last SHARE_SET, and SHARE_NEXT before that DTIME, which an epoch boundary at it copies (R61, R76). -/
  shareAt : Option Nat := none
  shareWas : Nat := 0
  /-- The fetch arbiter's rotating pointer over the instance's submission rings (R62, R76). -/
  ringRr : Nat := 0
  /-- The outstanding mailbox request (R72). -/
  mbReq : Option MbReq := none
  /-- SEQs of requests the device answered with ST_TIMEOUT, for a late TENANT_REPLY (R72 step 6). -/
  mbTimedOut : List Nat := []
  /-- Outbound page, inbound page, BAR0 request mirror and BAR0 reply window (R71, R72, Table 4.2). -/
  outPage : Page := 0
  inPage : Page := 0
  mirror : Page := 0
  window : Page := 0
deriving DecidableEq, Repr

/-- STATE of a lease record (Table 3.6). -/
inductive LeaseState where
  | free | held | revoking | retired
deriving DecidableEq, Repr

/-- A lease record (R66, Table 3.6); KIND and UNIT are its place. -/
structure Lease where
  state : LeaseState := .free
  holder : Nat := 0
  gen : Nat := 0
  termMs : Nat := 0
  endReason : Nat := 0
  lastHolder : Nat := 0
  expiry : Nat := 0
  granted : Nat := 0
  /-- END_REASON that the running revocation will write (R68, R70). -/
  ending : Nat := 0
  /-- t_r of the running revocation (Table 3.7). -/
  endAt : Nat := 0
  /-- Whether the unit was retired while REVOKING by another end (R70: no second LEASE_END event). -/
  retireNow : Bool := false
deriving DecidableEq, Repr

/-- What the batch's current command waits for (the result points of Table 3.13). -/
inductive BatchWait where
  | none
  | reset (inst : Nat)
  | destroy (inst : Nat)
  | revoke (kind unit inst : Nat)
deriving DecidableEq, Repr

/-- The batch being applied (R73, R74). -/
structure Batch where
  seq : Nat
  count : Nat
  /-- Commands not yet taken, in mailbox order. -/
  todo : List Rec32
  /-- Results so far, in order. -/
  results : List Rec32
  /-- The command being applied, its journal number and acceptance, while it waits for its result point. -/
  current : Option (Rec32 × Nat × Nat)
  wait : BatchWait
  /-- Discarded by a PF function-level reset: no BATCH_REPLY (R80). -/
  dropped : Bool
deriving DecidableEq, Repr

/-- The instance fabric. -/
structure Fabric where
  insts : Sparse Inst := []
  /-- Lease records at `kind * 65536 + unit` (R66). -/
  leases : Sparse Lease := []
  /-- Journal entries at JSEQ mod 8192 (R77). -/
  journal : Sparse Rec32 := []
  batch : Option Batch := none
  /-- Rotating pointer of the share scheduler (R62). -/
  rr : Nat := 0
  /-- The instance being visited by the scheduler (its quantum is already added). -/
  visiting : Option Nat := none
  /-- Mailbox doorbells of this DTIME tick, latched as (instance, generation, page) until the last of them has arrived, and the rotating
  pointer of mailbox service (R76). -/
  mbLatch : List (Nat × Nat × Page) := []
  mbRr : Nat := 0
deriving DecidableEq, Repr

/-! ### Rings (chapter 4) -/

/-- A descriptor fetched and not yet dispatched. -/
structure Fetched where
  desc : Desc
  /-- DTIME of acceptance: the last byte of the fetch received (Table 2.3). -/
  stamp : Nat
  /-- The generation of the ring's instance at acceptance (R54). -/
  gen : Nat
deriving DecidableEq, Repr

/-- A dispatched descriptor, in ring order, until its completion is written (R97). -/
structure Flight where
  id : Nat
  desc : Desc
  stamp : Nat
  gen : Nat
  /-- The completion ring its slot is reserved in (R101). -/
  cq : Nat
  /-- Status and DTIME of its completion point, once reached. -/
  done : Option (Nat × Nat) := none
deriving DecidableEq, Repr

/-- A WAIT_VALUE that holds its ring (R95). -/
structure WaitV where
  id : Nat
  addr : Nat
  value : Nat
  since : Nat
  timeoutUs : Nat
deriving DecidableEq, Repr

/-- What the device keeps of a submission ring beside its registers. -/
structure SqState where
  fetched : List Fetched := []
  flights : List Flight := []
  wait : Option WaitV := none
deriving DecidableEq, Repr

/-- Moderation window of a ring (R107): when it opened and how many entries wait. -/
structure Window where
  openAt : Nat := 0
  waiting : Nat := 0
  /-- MOD_TIME_US in force for the open window (Table 4.13). -/
  timeUs : Nat := 0
deriving DecidableEq, Repr

/-- What the device keeps of a completion or event ring beside its registers. -/
structure CqState where
  /-- PHASE that the next entry carries (R100). -/
  phase : Bool := true
  /-- Slots reserved for dispatched descriptors (R101). -/
  reserved : Nat := 0
  window : Window := {}
  /-- Events dropped since the last ENABLE (R103). -/
  dropped : Nat := 0
  /-- OVERFLOW has been written and no slot beyond the reserve freed since (R103). -/
  overflowed : Bool := false
deriving DecidableEq, Repr

/-- A COPY being carried out (R96). -/
structure CopyOp where
  fn : Nat
  q : Nat
  id : Nat
  gen : Nat
  src : Nat
  dst : Nat
  len : Nat
deriving DecidableEq, Repr

/-- What the configuration space of a function holds (Table 4.1): Device Control, Device Control 2 with the Completion Timeout Value in bits
3:0 and its Disable in bit 4, ATS Enable and PASID Enable as the host has set them, and the Uncorrectable Error Status of AER. -/
structure FnCfg where
  devCtl : BitVec 16 := 0x2810
  devCtl2 : BitVec 16 := 0
  ats : Bool := false
  pasid : Bool := false
  aer : BitVec 32 := 0
deriving DecidableEq, Repr

/-- The host interface. -/
structure HostIf where
  /-- Submission rings at `fn * 64 + q`. -/
  sq : Sparse SqState := []
  /-- Completion rings at `fn * 32 + c`. -/
  cq : Sparse CqState := []
  /-- Event rings at `fn`. -/
  eq : Sparse CqState := []
  /-- COPY descriptors in flight. -/
  copies : List CopyOp := []
  /-- Failed host reads being retried, as (fn, q, flight, offset), flight 0 for a descriptor fetch (R109). -/
  retries : List (Nat × Nat × Nat × Nat) := []
  /-- Configuration space by function (Table 4.1). -/
  fnCfg : Sparse FnCfg := []
  /-- ATS invalidations received, which later translations are newer than, and those that wait, as (tag, outstanding reads
  as (fn, ring, flight)) (R110). -/
  atsEpoch : Nat := 0
  atsWait : List (Nat × List (Nat × Nat × Nat)) := []
  /-- The next flight number. -/
  nextId : Nat := 1
  /-- MSI-X table words at `fn * 256 + 4 * vector + word` (Table 4.2, Table 4.3). -/
  msix : Sparse Word := []
  /-- MSI-X pending bits at `fn * 64 + vector` (R107). -/
  msixPend : List Nat := []
  /-- SR-IOV NumVFs and VF Enable (R83). -/
  numVFs : Nat := 0
  vfEnable : Bool := false
  /-- High-word latches at (function, key of the low register) (R9, R449). -/
  latch : List (Nat × Nat × Word) := []
  /-- What the last read returned. -/
  lastRead : Word := 0
  linkUp : Bool := false
  /-- PERST_N is held low (R394). -/
  perst : Bool := false
  /-- DTIME from which the PF answers configuration requests: 200 ms after PWR_EN rose, 20 ms after PERST_N rose (R404). -/
  cfgFrom : Nat := 197000000
  /-- Stamp of the last conventional reset (Table 15.9). -/
  convAt : Option Nat := none
  /-- The stamp of the last PF function-level reset (Table 15.9). -/
  flrAt : Option Nat := none
deriving DecidableEq, Repr

/-! ### Shallot (chapter 11) -/

/-- A retirement that a fault's reaction will end with (R289). -/
structure RetireDue where
  kind : Nat
  unit : Nat
  faultId : Nat
  detail : Nat
  /-- Stamp of the fault that retires the unit. -/
  stamp : Nat
  /-- The instance concerned, the UNIT the header carries where it is not the unit, and COUNT, for the event (Table 11.6). -/
  inst : Nat := 0
  sub : Option Nat := none
  count : Nat := 0
deriving DecidableEq, Repr

/-- The safety island. -/
structure Shallot where
  /-- Event log entries at sequence number mod 4096 (R297). -/
  log : Sparse Rec16 := []
  /-- The window k of DTIME seconds in which information entries are counted, and their count (R297). -/
  infoWindow : Nat := 0
  infoCount : Nat := 0
  /-- Stamps of the transient faults of a unit, newest first, at `kind * 2^24 + unit` (R287).  Kinds 0x10 and 0x11 stand
  for the control cores and the memory channels, which are counted in the same way. -/
  faults : Sparse (List Nat) := []
  /-- Units out of service: (KIND, unit) of Table 11.5; kept until PD0 loses power (R289). -/
  retired : List (Nat × Nat) := []
  /-- Those retired at the last stamp at which one was, as (KIND, unit, stamp): what meets a retirement (R76, R289, Table 17.13). -/
  retiredAt : List (Nat × Nat × Nat) := []
  /-- The firmware Shallot runs: the bytes copied into its SRAM at the LOADER step (R403). -/
  firmware : List Byte := []
  /-- Reactions under way that end in a retirement (R289). -/
  due : List RetireDue := []
  /-- The unretirement self-test that runs (R291). -/
  selfTest : Option (Nat × Nat) := none
  /-- The unit has faulted during it. -/
  testFailed : Bool := false
  /-- Retired DRAM pages and their spares (R365). -/
  pages : List (Nat × Nat) := []
  /-- The manager watchdog: DTIME of the last accepted kick, once armed, and whether it has expired (R284). -/
  mgrKick : Option Nat := none
  mgrExpired : Bool := false
  /-- The PCIe link has been out of L0 for 10 ms (R296). -/
  linkDown : Bool := false
  /-- PERST_N is low (R296). -/
  perstLow : Bool := false
  /-- Shallot's start-up self-test has passed since the last module reset or PD0 power-up (R293). -/
  selfTestOk : Bool := false
  /-- Module resets since PD0 power-up (Table 11.8). -/
  moduleResets : Nat := 0
deriving DecidableEq, Repr

/-! ### Memory subsystem (chapter 14) -/

/-- STATE of a page map entry (Table 14.6). -/
inductive PageState where
  | normal | copying | remapped | dead
deriving DecidableEq, Repr

/-- What the page map holds of a page beside its owner (Table 14.6). -/
structure PageEntry where
  /-- The page accessed, when not the page itself. -/
  target : Option Nat := none
  state : PageState := .normal
deriving DecidableEq, Repr

/-- A request waiting at a memory channel (R355 to R357). -/
structure MemReq where
  /-- Arrival number, for age order. -/
  seq : Nat
  arrive : Nat
  /-- Class of Table 14.4 in force (raised by age or by a request behind it). -/
  cls : Nat
  /-- Instance for which the access is made; 0x1FF for the device's own. -/
  inst : Nat
  /-- The 64-byte block as it is stored, after the page map (R366). -/
  block : Nat
  /-- Bytes to write from an offset in the block, or none for a read. -/
  write : Option (Nat × List Byte)
  /-- A younger request has written the whole block: this one still meets the error that the block then held, 0 none, 1
  correctable, 2 uncorrectable (R357, R360). -/
  rewritten : Bool := false
  err : Nat := 0
  /-- A read of patrol scrub, which reports to no reader (R362). -/
  patrol : Bool := false
  /-- What a read delivers: requests to one block act in arrival order (R357). -/
  data : List Byte := []
  poisoned : Bool := false
  /-- Classes risen by age (R356). -/
  rises : Nat := 0
  /-- A zero-fill, which is served ahead of classes 2 to 5 (R369). -/
  fill : Bool := false
deriving DecidableEq, Repr

/-- One memory channel. -/
structure MemChannel where
  queue : List MemReq := []
  /-- Open row of each bank plus one (0: none), and hits served from it ahead of older requests in a row (R356). -/
  openRows : Sparse (Nat × Nat) := []
  /-- Rotating pointer between banks of equal class (R356). -/
  rr : Nat := 0
  /-- DTIME of the last request, for self-refresh on idle (R374). -/
  lastReq : Nat := 0
  /-- DTIME at which the start's training ended (R370). -/
  trainedAt : Nat := 0
  /-- The last pause: its start, and its end (R372). -/
  pauseFrom : Nat := 0
  pauseTo : Nat := 0
  /-- It was a pause of a forced retraining (R373). -/
  pauseForced : Bool := false
  /-- DTIME at which the retraining fell due, while one is due (R372, R373). -/
  dueAt : Option Nat := none
  /-- The retraining has been forced (R373). -/
  forced : Bool := false
  /-- Refreshes made of each bank since the start, and those held back (R371, R375). -/
  refreshed : Nat := 0
  heldBack : Sparse Nat := []
  /-- The refresh rate last reported, in force from the next refresh (R371). -/
  rateRead : Nat := 0
deriving DecidableEq, Repr

/-- The memory subsystem. -/
structure Memory where
  /-- Device memory by physical address; an unlisted byte reads 0 (R370). -/
  bytes : Sparse Byte := []
  /-- 64-byte blocks, as they are stored, that read as uncorrectable: their check word holds the poison marker (R360). -/
  poison : List Nat := []
  /-- Blocks whose codeword holds an error that no request has met yet: 1 correctable, 2 uncorrectable (R360, R361). -/
  flaws : Sparse Nat := []
  /-- Page map entries that differ from the page itself in state NORMAL (R367). -/
  pages : Sparse PageEntry := []
  /-- Zero-fills under way: first and one past the last chunk, and the instance whose slice it was (0: a region) (R369). -/
  fills : List (Nat × Nat × Nat) := []
  /-- Blocks that a fill has written so far, at its first chunk (R369). -/
  filled : Sparse Nat := []
  /-- Spare pages taken from the pool (R363). -/
  sparesUsed : List Nat := []
  channels : Sparse MemChannel := []
  nextSeq : Nat := 0
  /-- Data and poison mark that the last served read delivered. -/
  lastData : List Byte := []
  lastPoison : Bool := false
  /-- The plate store: base and size, once the Shallot section has placed it (R359). -/
  plateStore : Option (Nat × Nat) := none
  /-- The font region's base in 2 MiB units, once a load has placed it (R359). -/
  fontRegion : Option Nat := none
  /-- Next block of the patrol scrub (R362). -/
  patrol : Nat := 0
deriving DecidableEq, Repr

/-! ### Render engine (chapter 5) -/

/-- A command stream being executed or waiting (R115, R117). -/
structure Stream where
  fn : Nat
  q : Nat
  id : Nat
  gen : Nat
  seq : Nat
  addr : Nat
  len : Nat
  /-- The stream's words when it lies in host memory, read after dispatch (R142). -/
  words : List Word
  /-- Byte offset of the next command. -/
  ofs : Nat := 0
  /-- Byte offset of the command executed last. -/
  last : Nat := 0
  /-- Waits for the ingest of the pipeline it binds (R152). -/
  ingest : Bool := false
  /-- The status a stopped stream ends with once earlier work is done (R118). -/
  fail : Option Nat := none
  /-- What RND_CTXn_FAILOFS shows once a stopped stream has ended (R118). -/
  failOfs : Nat := 0
deriving DecidableEq, Repr

/-- A colour attachment of the open pass (Table 5.6). -/
structure Attach where
  format : Nat
  load : Nat
  store : Nat
  pitch : Nat
  base : Nat
  rbase : Nat
  rpitch : Nat
  clear : Nat
deriving DecidableEq, Repr

/-- The bin of a tile: entries, the address and fill of its last block, and its spill slot (Table 5.10). -/
structure TileBin where
  first : Nat := 0
  last : Nat := 0
  lastCount : Nat := 0
  entries : Nat := 0
  spill : Option Nat := none
  stored : Bool := false
deriving DecidableEq, Repr

/-- Phase of a pass (R129, R133, R136). -/
inductive PassPhase where
  | binning | stalled | splitting | tile
deriving DecidableEq, Repr

/-- What a draw or dispatch works with: the code of its pipeline, the context state words, the attributes of its record in use, and the
resource table entries it uses, by binding, and the size of its primitive records (R120, R131, R151, R157). -/
structure DrawState where
  code : List Nat := []
  size : Nat := 64
  words : Sparse Word := []
  attrs : List Nat := []
  entries : List (Nat × Rec32) := []
deriving DecidableEq, Repr

/-- A dispatch with workgroups still to complete: its size, and which workgroups have completed. -/
structure DispatchRun where
  draw : DrawState
  x : Nat
  y : Nat
  z : Nat
  finished : Sparse Bool := []
deriving DecidableEq, Repr

/-- A pass from BEGIN_PASS to the store of its last tile (R129). -/
structure Pass where
  areaX : Nat
  areaY : Nat
  areaW : Nat
  areaH : Nat
  samples : Nat
  colours : List Attach
  dsFormat : Nat
  /-- DS_LOAD, CLEAR_DEPTH and CLEAR_STENCIL (Table 5.5). -/
  dsLoad : Nat := 1
  clearDepth : Nat := 0
  clearStencil : Nat := 0
  phase : PassPhase := .binning
  /-- Pods in use: tile table, list, vertex (R130). -/
  tablePods : List Nat := []
  listPods : List Nat := []
  vertexPods : List Nat := []
  /-- Bin blocks used of the newest list pod, primitive records used of the newest vertex pod. -/
  blocksUsed : Nat := 255
  recordsUsed : Nat := 0
  /-- The size of the records in the newest vertex pod (R130, R131). -/
  recordSize : Nat := 0
  /-- The draws of the pass, and which of them each record in the pods belongs to, at `pod * 2048 + record`. -/
  draws : List DrawState := []
  recDraw : Sparse Nat := []
  bins : Sparse TileBin := []
  /-- Spill area in force, read at BEGIN_PASS (R145): base address and number of slots. -/
  spillBase : Nat := 0
  slots : Nat := 0
  slotsUsed : Nat := 0
  splits : Nat := 0
  /-- Primitives of the stalled draw from the one that did not fit. -/
  waiting : List Prim := []
  splitAt : Nat := 0
  tilesLeft : Nat := 0
deriving DecidableEq, Repr

/-- A render context (R114). -/
structure Ctx where
  /-- Context state words that differ from their reset values (Table 5.4). -/
  words : Sparse Word := []
  pipeline : Option Nat := none
  compute : Bool := false
  table : Option Nat := none
  /-- Bin heap chunks in attach order (R130). -/
  chunks : List Nat := []
  /-- Pass ordinal since the slot was last granted (Table 5.10). -/
  passOrd : Nat := 0
  stream : Option Stream := none
  queue : List Stream := []
  pass : Option Pass := none
  /-- Workgroups of dispatches still to complete, and those dispatches, oldest first. -/
  groups : Nat := 0
  runs : List DispatchRun := []
  /-- The translation of the bound pipeline, and the attributes of its record in use (R150, R151). -/
  tr : Translation := default
  attrs : List Nat := []
  /-- The save records of the context that hold work stopped mid-wave, by their place in its save area, oldest first (R162, R163). -/
  saves : List Nat := []
deriving DecidableEq, Repr

/-- A render cluster. -/
structure Cluster where
  /-- The context that runs on it, and whether as fill work (R161). -/
  ctx : Option Nat := none
  fill : Bool := false
  /-- The context it is granted to (R160). -/
  grant : Option Nat := none
  /-- The context it is reserved for (R168). -/
  resv : Option Nat := none
  /-- DTIME of the preemption request under way, and the context that gets it next (R162). -/
  preempt : Option Nat := none
  next : Option Nat := none
  /-- The request is held for an NP job (R164); the cluster has stopped mid-wave and writes its save (R162). -/
  npHold : Bool := false
  midwave : Bool := false
  /-- When the job on it started (R164). -/
  jobAt : Nat := 0
  /-- DTIME of the cluster reset under way, and the context and the stream that it took the cluster from (R143). -/
  resetAt : Option Nat := none
  resetFor : Option (Nat × Nat) := none
deriving DecidableEq, Repr

/-! ### Shader ingest and the scheduler (chapter 6) -/

/-- A registered pipeline handle (R152). -/
structure Registration where
  inst : Nat
  addr : Nat
  buildSeq : Nat
  /-- Graphics or compute, the translation, and the attributes of the record in use. -/
  compute : Bool
  tr : Translation
  attrs : List Nat
  /-- Key of its translation in the cache (R155). -/
  key : Nat
  /-- When it was last bound, in binds. -/
  lastUse : Nat
deriving DecidableEq, Repr

/-- A translation in the cache (R155). -/
structure CacheEntry where
  inst : Nat
  key : Nat
  sizeMiB : Nat
  pinned : Bool
  lastUse : Nat
  compute : Bool
  tr : Translation
deriving DecidableEq, Repr

/-- An ingest waiting or running (R154). -/
structure Ingest where
  inst : Nat
  ctx : Nat
  addr : Nat
  buildSeq : Nat
  startedAt : Option Nat
deriving DecidableEq, Repr

/-- The plan of the deadline scheduler for a head (R165, R166): the compositions being measured stand with their context and start. -/
structure HeadPlan where
  /-- The window is open, and its S. -/
  open_ : Bool := false
  s : Nat := 0
  started : List (Nat × Nat) := []
  late : Bool := false
  /-- The frame of the head's last window, counted from 1, and whether compositor work has started in that window (R167). -/
  frame : Nat := 0
  begun : Bool := false
  /-- COMP and EST in force for the window: enable, context, need, floor (R171). -/
  enable : Bool := false
  ctx : Nat := 0
  need : Nat := 8
  floorUs : Nat := 1000
  /-- The last 8 measured compositions, ns, newest first. -/
  measured : List Nat := []
deriving DecidableEq, Repr

/-- The render engine, shader ingest and the scheduler. -/
structure RenderEngine where
  ctxs : Sparse Ctx := []
  clusters : Sparse Cluster := []
  regs : List Registration := []
  cache : List CacheEntry := []
  ingests : List Ingest := []
  ingestRr : Nat := 0
  binds : Nat := 0
  plans : Sparse HeadPlan := []
  /-- Rotating pointers of the cluster grants and of fill work (R160, R161). -/
  grantRr : Nat := 0
  fillRr : Nat := 0
  /-- Since when a render domain has been idle, for gating (R385). -/
  idleSince : Sparse Nat := []
deriving DecidableEq, Repr
/-! ### Layer pipes, heads and writeback (chapters 7 and 8) -/

/-- A flip in a pipe's pending slot (R177). -/
structure Flip where
  fn : Nat
  q : Nat
  id : Nat
  surf0 : Nat
  surf1 : Nat
  tsrc : Nat
  target : Nat
  /-- DTIME of dispatch, for R32 at a commit point. -/
  stamp : Nat
deriving DecidableEq, Repr

/-- Surface-shape fields of a pipe: FORMAT with SITE_H and SITE_V, SRC and PITCH (R174). -/
structure Shape where
  fmt : Nat
  src : Word
  pitch : Word
deriving DecidableEq, Repr

/-- Fault pixels of a pipe in the frame being scanned: on the lines from the first to the last, from a column on (R203, Table 7.6). -/
structure FaultPixels where
  line : Nat
  col : Nat
  last : Nat
deriving DecidableEq, Repr

/-- A bank of coefficient memory marked bad, and which of its 768 words have been written since (R188, Table 7.6). -/
structure BadBank where
  bad : Bool := false
  written : Nat := 0
deriving DecidableEq, Repr

/-- What the display engine keeps of a pipe beside its registers. -/
structure Pipe where
  pend : Option Flip := none
  /-- The waiting shape (R174). -/
  waiting : Option Shape := none
  /-- Surfaces in force: those of the last committed flip. -/
  surf0 : Nat := 0
  surf1 : Nat := 0
  /-- The instance for which the surfaces are read: the sender of that flip (R366). -/
  owner : Nat := 0
  faults : List FaultPixels := []
  bank0 : BadBank := {}
  bank1 : BadBank := {}
  /-- The frame being scanned began with the bank in use marked bad (Table 7.6). -/
  badFrame : Bool := false
deriving DecidableEq, Repr

/-- A capture that is armed or runs (R200, R201). -/
structure Capture where
  fn : Nat
  q : Nat
  id : Nat
  gen : Nat
  head : Nat
  dest : Nat
  pitch : Nat
  target : Nat
  stamp : Nat
  /-- Writeback unit once started, with the format, frame index, width and height of its start. -/
  unit : Option Nat := none
  fmt : Nat := 0
  frame : Nat := 0
  width : Nat := 0
  height : Nat := 0
  /-- Smallest source time so far, and the stamp of the first active line (Table 7.5). -/
  tsrc : Option Nat := none
  tfirst : Nat := 0
deriving DecidableEq, Repr

/-- A pending commit: one head, or the members of a commit group (R224, R229). -/
structure Commit where
  heads : List Nat
  cgroup : Option Nat
  stamp : Nat
  defers : Nat := 0
deriving DecidableEq, Repr

/-- What a head keeps beside its registers. -/
structure Head where
  /-- Training has succeeded and video starts at the next commit point (Table 8.5 step 5). -/
  trained : Bool := false
  /-- A run of the training policy is under way; the configuration that trained last; and whether the run tries it first (R221). -/
  training : Bool := false
  lastCfg : Option (Nat × Nat) := none
  lastFirst : Bool := false
  /-- The stream of the head's port, which for a pair is that of both heads: the tile row scanned and not yet sent, the encoder's state
  for each slice (R218), the CRC so far of each component in this frame, and the CRCs of the last four frames sent (R275). -/
  unsent : Option Nat := none
  coders : List Nat := []
  crcs : List (BitVec 16) := []
  predictions : List (Nat × List (BitVec 16)) := []
  /-- Frame index N at which the transition started (R231). -/
  transAt : Option Nat := none
  /-- DTIME at which the last run of the policy failed (Table 8.5 step 6). -/
  failAt : Nat := 0
  /-- Row being scanned and the class chosen for each of its tiles, 0 for none (R44). -/
  row : Nat := 0
  chosen : List Nat := []
  /-- What that choice rests on: the row's stamp, TIME_UNCERT at it, and class and source time of each tile's contributors (R43, R44). -/
  rowAt : Nat := 0
  rowUncert : Nat := 0
  rowSrcs : List (List (Nat × Nat)) := []
  /-- The head is retired and has passed a commit point since (R290). -/
  retiredLive : Bool := false
  /-- Fault 0x0D: the frame after the next commit point sends the transition pattern; it does so now; fault 0x0E: from which
  active line of this frame on (Table 11.3). -/
  patternNext : Bool := false
  patternNow : Bool := false
  patternFrom : Option Nat := none
  /-- The frame being scanned shows the safe-state pattern (R292). -/
  safePattern : Bool := false
  /-- Which copy of the fonts the head draws with (R254). -/
  font : Nat := 0
deriving DecidableEq, Repr

/-- What a genlock group keeps beside its registers. -/
structure Group where
  /-- DTIME of the last commit point, and of the start of its line 0, which a retuning PLL holds back (R231). -/
  commitAt : Nat := 0
  lineZero : Nat := 0
  /-- DTIME at which the PLL began to retune. -/
  retune : Option Nat := none
  /-- Stamp of the last valid reference, or of the one that opened the count, and of the last reference point of any kind; consecutive
  valid references, references missing or invalid in a row, and those missing since (R211, R458). -/
  lastRef : Option Nat := none
  lastPoint : Nat := 0
  refGood : Nat := 0
  refBad : Nat := 0
  refMissing : Nat := 0
  /-- F_g's distance from the frequency that FRAC sets, in steps of FRAC: frequency estimate and phase term (R211). -/
  freqOff : Int := 0
  phaseOff : Int := 0
  /-- DTIME of entry into HOLDOVER. -/
  holdEntry : Nat := 0
  /-- The commit point after which the frame watchdog expired (R283). -/
  wdFor : Option Nat := none
deriving DecidableEq, Repr

/-- The display engine. -/
structure Display where
  /-- Active values of the shadowed registers, where they differ from their reset values (R222). -/
  active : Sparse Word := []
  pipes : Sparse Pipe := []
  /-- Coefficient words that differ from R189, at `pipe * 2048 + bank * 1024 + word` (R188). -/
  coef : Sparse Word := []
  /-- Captures in dispatch order. -/
  captures : List Capture := []
  heads : Sparse Head := []
  groups : Sparse Group := []
  commits : List Commit := []
  /-- DTIME at which the last pulse of SYNC_OUT started (R213). -/
  syncOutAt : Option Nat := none
deriving DecidableEq, Repr

/-! ### The value plane (chapter 9) -/

/-- A value record (R237). -/
structure VRecord where
  value : Nat
  meas : Nat
  quality : Nat
  stamp : Nat
deriving DecidableEq, Repr

/-- What the value plane draws of a field in the frame being scanned (R246, R248). -/
inductive Latched where
  /-- The latch point has not been reached. -/
  | no
  /-- The latched record; none for EMPTY. -/
  | held (r : Option VRecord)
  /-- The read met an uncorrectable error: drawn as INVALID, source time 0. -/
  | bad
deriving DecidableEq, Repr

/-- A value field. -/
structure Field where
  shadow : Rec32 := 0
  active : Rec32 := 0
  record : Option VRecord := none
  /-- The record held before the acceptance stamp of the present one, for R32 at a latch point. -/
  prev : Option VRecord := none
  /-- The stored record was lost to fault 0x12: drawn as INVALID until the next accepted record (Table 11.4). -/
  lost : Bool := false
  latched : Latched := .no
deriving DecidableEq, Repr

/-- One on-chip copy of the fonts and state tables: the bytes of the font region and (CW, CH) of each font (R253). -/
structure FontCopy where
  bytes : Sparse Byte := []
  sizes : List (Nat × Nat) := []
deriving DecidableEq, Repr

/-- A font load (R254): which groups have passed a commit point since the copy completed, once it has. -/
structure FontLoad where
  sizes : List (Nat × Nat)
  copied : Option Nat
  passed : List Nat
deriving DecidableEq, Repr

/-- The value plane. -/
structure ValuePlane where
  fields : Sparse Field := []
  copyA : FontCopy := {}
  copyB : FontCopy := {}
  /-- The copy in use: 0 for A, 1 for B. -/
  inUse : Nat := 0
  load : Option FontLoad := none
  /-- The font region is being rewritten from flash after fault 0x12 (Table 11.4). -/
  rewriting : Bool := false
deriving DecidableEq, Repr

/-! ### Artichoke (chapter 10) -/

/-- A plate of the store (R262). -/
structure Plate where
  addr : Nat
  w : Nat
  h : Nat
  crc : Nat
  /-- The plate is being rewritten from flash (Table 10.5). -/
  bad : Bool := false
deriving DecidableEq, Repr

/-- What a region shows in a frame (R270). -/
inductive Content where
  | plate | hatched | guard
deriving DecidableEq, Repr

/-- A protected region: its position, size, plate index and T_src are registers (Table 10.8). -/
structure Region where
  /-- Plates of the region in plate-index order, as places in the store's list. -/
  plates : List Nat := []
  content : Content := .guard
  stale : Bool := true
  /-- Guarded after a signature mismatch, and consecutive frames in which the guard matched (Table 10.5 row 0x01). -/
  sigGuard : Bool := false
  matched : Nat := 0
  /-- A mismatch detected at this DTIME waits for the commit point at which the guard begins. -/
  sigDue : Option Nat := none
  /-- Guarded for a plate of the store, the plate for which the guard is due, and whether the rewrite has been verified
  (rows 0x02 and 0x03). -/
  plateGuard : Option Nat := none
  plateDue : Option Nat := none
  plateOk : Bool := false
  /-- The flash read of a rewrite for it has failed twice: the guard stays until module reset (Table 11.4). -/
  plateLost : Bool := false
  /-- The active line from which the guard pattern shows in this frame, after an error of a plate read at scan (row 0x02). -/
  guardFrom : Option Nat := none
  /-- Guarded because the sink lacks CRC (row 0x07). -/
  sinkGuard : Bool := false
  /-- Reference signatures of the load: guard pattern, and hatched plate for each plate index (R272). -/
  guardRef : Nat := 0
  hatchedRefs : List Nat := []
  /-- The safety tenant has selected or refreshed it since the load (R263). -/
  chosen : Bool := false
  /-- The frame whose signature is still to be compared, with the signature that R272 expects of it; and the signature itself, once the
  frame has ended (R273). -/
  due : Option (Nat × Nat) := none
  ended : Option Nat := none
deriving DecidableEq, Repr

/-- A command accepted at a poll point that waits for its head's commit point (R268). -/
structure ArtCmd where
  k : Nat
  poll : Nat
  head : Nat
  region : Nat
  /-- SELECT's plate, none for REFRESH. -/
  plate : Option Nat
  tsrc : Nat
deriving DecidableEq, Repr

/-- What Shallot keeps of a head's sink CRC readback (R276). -/
structure Sink where
  /-- The streak under way: 1 frozen, 2 mismatch, 3 no response, and its length. -/
  streak : Nat × Nat := (0, 0)
  /-- A previous TEST_CRC_COUNT is held. -/
  hasPrev : Bool := false
  /-- A read is under way. -/
  reading : Bool := false
  /-- RUN frames so far (R276). -/
  runFrames : Nat := 0
  /-- The frame that began with the read under way (R276). -/
  readFrame : Nat := 0
  /-- Frame of the last signature mismatch counted, and the frame whose checks are reported (Table 10.4). -/
  mismatchFrame : Option Nat := none
  checked : Nat := 0
deriving DecidableEq, Repr

/-- The Artichoke layers. -/
structure Artichoke where
  plates : List Plate := []
  /-- Regions at `head * 16 + region`. -/
  regions : Sparse Region := []
  cmds : List ArtCmd := []
  sinks : Sparse Sink := []
  /-- Commands published and not yet consumed at the poll point under way (R265): numbers A + 1 to P. -/
  todo : List Nat := []
  pollAt : Nat := 0
deriving DecidableEq, Repr

/-! ### Flash (chapter 16) -/

/-- An area of flash A (0) or B (1), or of copy 0 (2) or 1 (3) of the persistent store, that is erased and then programmed: where it
lies, how long it is, how many bytes are programmed, and when that began. -/
structure FlashOp where
  dev : Nat
  base : Nat
  size : Nat
  len : Nat
  began : Nat
deriving DecidableEq, Repr

/-- The two flash devices by offset; an unlisted byte is erased, 0xFF (R399). -/
structure Flash where
  a : Sparse Byte := []
  b : Sparse Byte := []
  /-- The erase and programming begun last, which may still be under way (R382). -/
  last : Option FlashOp := none
deriving DecidableEq, Repr

/-! ### Power and resets (chapter 15) -/

/-- How far a module reset has got (R393): none under way, every block outside PD0 held, or the blocks of PD1 released. -/
inductive ResetPhase where
  | run | held | first
deriving DecidableEq, Repr

/-- The power sequencer and the monitors of PD0. -/
structure Power where
  /-- Domains switched on whose rails are not yet good, with the DTIME of switching on (R384, R385). -/
  rising : List (Nat × Nat) := []
  /-- The render domain that was switched off last for its idle time, and when (R385, Table 15.9). -/
  gated : Option (Nat × Nat) := none
  phase : ResetPhase := .run
  /-- The domains stay powered through the module reset under way (R393). -/
  kept : Bool := true
  /-- Domains of the power-up order that have still to come good; the first is switched on (Table 15.4). -/
  seq : List Nat := []
  /-- PD0 is powered (R377). -/
  pd0 : Bool := true
  /-- PWR_EN. -/
  pwrEn : Bool := true
  /-- The input switch is open after an over-voltage (R378). -/
  openSwitch : Bool := false
  /-- A brown-out is within its ride-through: its detection stamp, none where DTIME has begun anew since or does not run (R381). -/
  rideAt : Option (Option Nat) := none
  /-- A thermal trip has not recovered (R391). -/
  hot : Bool := false
  /-- Fault 0x07 has been reported for the present time at 115 °C or above (R391). -/
  hotFault : Bool := false
  /-- The last sample of the GPIO pins: the µs at which it was taken, and the levels (R436). -/
  gpio : Nat × Nat := (0, 0)
  /-- DTIME of the last throttle step, and since when T_DIE has been low enough for a step down (R390). -/
  stepAt : Option Nat := none
  coolSince : Option Nat := none
deriving DecidableEq, Repr

/-! ### Boot, update and identity (chapter 16) -/

/-- An integrator key slot in OTP (R401). -/
inductive KeySlot where
  | empty
  | enrolled (hash : Nat)
  | revoked
deriving DecidableEq, Repr

/-- OTP (R401, R402, R422). -/
structure Otp where
  slots : List KeySlot := [.empty, .empty, .empty, .empty]
  minBoot : Nat := 0
  minMain : Nat := 0
  /-- The device key is present, and its public key (R422). -/
  key : Bool := true
  devKey : Nat := 0
  /-- The ordering variant: an LMO-W12-32I, else an LMO-W12-32C (R5, Table 18.3; log entry 193). -/
  variantI : Bool := false
deriving DecidableEq, Repr

/-- The start (R403 to R413, R423). -/
structure Boot where
  /-- The ROM step has run in this start. -/
  begun : Bool := false
  /-- The SETUP step has completed, and RUN is being prepared. -/
  setupDone : Bool := false
  /-- SHA-384 of the setup blob at the MEMORY step; none where it was absent or invalid. -/
  blobDigest : Option Nat := none
  /-- PCR0 to PCR3. -/
  pcrs : List Nat := [0, 0, 0, 0]
  /-- SVN of the boot image and of the main firmware of this start. -/
  svnBoot : Nat := 0
  svnMain : Nat := 0
  /-- Time taken by staging copies, not counted by the deadline of R407. -/
  copyNs : Nat := 0
  /-- Copies 0 and 1 of the persistent store, as bytes from the start of the area; empty as erased (R412). -/
  store0 : List Byte := []
  store1 : List Byte := []
deriving DecidableEq, Repr

/-- A CoAP exchange of an update (R417): index and block asked for, bytes of the index so far, and since when a failed exchange
waits for its retry. -/
structure Exchange where
  index : Nat
  block : Nat
  got : List Byte
  failedAt : Option Nat := none
deriving DecidableEq, Repr

/-- The field update (R414 to R421). -/
structure Update where
  /-- The accepted manifest. -/
  manifest : Option (List Byte) := none
  /-- Chunk indices kept. -/
  kept : List Nat := []
  /-- Hash failures of an index (R417). -/
  fails : Sparse Nat := []
  /-- A PF transfer under way: index, length and host address (R416). -/
  xfer : Option (Nat × Nat × Nat) := none
  coap : Option Exchange := none
  /-- A SEEDLING request waits for the install to complete (Table 16.9). -/
  seedling : Bool := false
deriving DecidableEq, Repr

/-! ### Fennel (chapter 12) -/

/-- A linear ramp between two binary32 values: its value at sample `n` of `len` (R311). -/
structure Ramp where
  g0 : Nat := 0x3F800000
  g1 : Nat := 0x3F800000
  n : Nat := 0
  len : Nat := 0
deriving DecidableEq, Repr

/-- A tenant buffer in a channel's queue (R304 to R307). -/
structure AudioBuf where
  fn : Nat
  q : Nat
  id : Nat
  addr : Nat
  len : Nat
  /-- The host bytes of a buffer in host space. -/
  data : List Byte
  /-- DTIME of dispatch, and NOT_BEFORE where it is later than that (R306). -/
  stamp : Nat
  after : Option Nat
  /-- It may start in the sample period after the buffer before it. -/
  ripe : Bool
  started : Bool := false
  fmt : Nat := 0
  /-- The next sample. -/
  pos : Nat := 0
  /-- The next sample has not arrived (R307); the rest is played as 0 after a read failure. -/
  late : Bool := false
  dead : Bool := false
  /-- A read of the bytes after `data` has failed for good, with the status of Table 4.12 (R109). -/
  cut : Option Nat := none
  status : Nat := 0
  /-- A lease end found it playing: where the ramp cuts it off, it still completes (R313). -/
  revoked : Bool := false
  /-- DTIME of its last sample once that has been played. -/
  lastAt : Option Nat := none
deriving DecidableEq, Repr

/-- What Fennel keeps of a channel beside its registers. -/
structure Channel where
  bufs : List AudioBuf := []
  gain : Ramp := {}
  /-- The stamp of a gain write that waits for its block boundary (R301, R311). -/
  gainAt : Option Nat := none
  /-- The silence multiplier K, and the stamp of the reset or lease end whose ramp waits for its block boundary (R313). -/
  k : Ramp := {}
  silAt : Option Nat := none
  /-- The stamps of the first and of the last route GO that wait for a block boundary (R301, R309). -/
  goAt : Nat := 0
  goLast : Nat := 0
  /-- Start and target gains of the route, and the fade from one to the other: sample `fadeN` of `fadeLen` (R310). -/
  xp0 : List Nat := []
  xp1 : List Nat := []
  fadeN : Nat := 0
  fadeLen : Nat := 0
deriving DecidableEq, Repr

/-- What Fennel keeps of a bus: its gain, and (x1, x2, y1, y2) of its six sections (R311, R314). -/
structure Bus where
  gain : Ramp := {}
  /-- The stamps of a gain write and of a SWAP that wait for their block boundary (R301, R311, R316). -/
  gainAt : Option Nat := none
  swapAt : Nat := 0
  hist : List (Nat × Nat × Nat × Nat) := List.replicate 6 (0, 0, 0, 0)
deriving DecidableEq, Repr

/-- What Fennel keeps of a TDM port beside its registers (R320 to R325). -/
structure TdmPort where
  /-- The FIFOs, oldest frame first; a frame is its 16 slots. -/
  tx : List (List Nat) := []
  rx : List (List Nat) := []
  /-- The engine has begun to take from the RX FIFO. -/
  rxGo : Bool := false
  /-- A master's frame 0 has begun; the stamp of the write that set EN (R320). -/
  begun : Bool := false
  enAt : Nat := 0
  /-- EN was cleared: the port stops at the next frame boundary. -/
  stopping : Bool := false
  /-- A frame sync has been seen in SYNCING or RESYNC. -/
  seen : Bool := false
  /-- Frame positions since RUN. -/
  frames : Nat := 0
  /-- Frame positions for which both FLOW pins have been low, and consecutive positions without a frame sync that fell 4 or more
  positions after they went low. -/
  lowFor : Nat := 0
  missing : Nat := 0
deriving DecidableEq, Repr

/-- Fennel. -/
structure Fennel where
  chans : Sparse Channel := []
  buses : Sparse Bus := []
  ports : Sparse TdmPort := []
  /-- Equaliser coefficients that differ from R315, at `bus * 64 + bank * 32 + word`. -/
  coef : Sparse Nat := []
  /-- Map registers in effect, where they differ from their reset values, at their register's key (R318). -/
  maps : Sparse Word := []
  /-- Registers that a block boundary takes and that have been written, by key: the stamp of the last write, and the value before that
  stamp, which a boundary at the same stamp takes (R32, R301). -/
  before : Sparse (Nat × Word) := []
  /-- The sample of the engine block that the next sample period computes. -/
  sample : Nat := 0
  /-- Frames of the four ports on their way to the TX FIFOs, with the DTIME of their samples, oldest first (R326). -/
  late : List (Nat × List (List Nat)) := []
deriving DecidableEq, Repr

/-! ### Touch routing and Kohlrabi (chapter 13) -/

/-- A contact of a surface (R332, R335). -/
structure Contact where
  /-- The digitiser's identifier, and the device's number; a swallowed contact has none. -/
  id : Nat
  num : Option Nat
  /-- The route that captured it; 0xFFFF for an unrouted contact given to I0. -/
  route : Nat := 0xFFFF
  holder : Nat := 0
  /-- TYPE and TARGET of the route at its DOWN (R335). -/
  target : Nat × Nat := (0, 0)
  /-- Last position, offset and pressure delivered. -/
  head : Nat := 0
  x : Nat := 0
  y : Nat := 0
  lx : Nat := 0
  ly : Nat := 0
  pressure : Nat := 0
  /-- Consecutive reports without it. -/
  absent : Nat := 0
deriving DecidableEq, Repr

/-- What touch ingest keeps of a surface. -/
structure Surface where
  contacts : List Contact := []
  lastReport : Nat := 0
deriving DecidableEq, Repr

/-- An enumerated digitiser: its port, its hub port (0 direct), its Contact Count Maximum capped at 10 (R331), and the usages of each
of its Touch Screen collections as page × 65536 + code (Table 13.1). -/
structure Digitiser where
  port : Nat
  hub : Nat
  contactMax : Nat := 10
  colls : List (List (Nat × Bool))
deriving DecidableEq, Repr

/-- Touch ingest. -/
structure Touch where
  surfaces : Sparse Surface := []
  devices : List Digitiser := []
  /-- Stamp of the last interrupt of each I²C-HID port (Table 2.3). -/
  intAt : Sparse Nat := []
  /-- The active state of the heads at that stamp, which R334 and R335 route and measure by. -/
  intView : Sparse (Sparse Word) := []
deriving DecidableEq, Repr

/-- A haptic request (R342): from a pin, or from a descriptor. -/
structure HapReq where
  pin : Option Nat
  fn : Nat
  q : Nat
  id : Nat
  effect : Nat
  gain : Nat
  prio : Nat
  stamp : Nat
deriving DecidableEq, Repr

/-- What Kohlrabi keeps of a channel. -/
structure HapChan where
  /-- The driving effect and the DTIME at which DRIVE began. -/
  drive : Option (HapReq × Nat) := none
  /-- Its descriptor has completed, or is to complete no more. -/
  told : Bool := false
  /-- Ticks of DRIVE so far in which |v| was 0.5 V or more, up to the 20 that the check of the coil takes (R347). -/
  pushed : Nat := 0
  /-- DRIVE is to end at the next tick (R348). -/
  ending : Bool := false
  /-- Since when the peak back-EMF has been low (R347). -/
  lowSince : Option Nat := none
  /-- DTIME at which BRAKE began, and the time for which it had run when DTIME began anew (R344). -/
  brake : Option Nat := none
  brakeAgo : Nat := 0
  /-- The bridge's voltage since the tick before, in mV, and the coil's current at that tick, in mA (R347). -/
  mv : Int := 0
  amp : Int := 0
  latch : Option HapReq := none
  /-- Requests not yet acted on. -/
  waiting : List HapReq := []
deriving DecidableEq, Repr

/-- Kohlrabi. -/
structure Kohlrabi where
  chans : Sparse HapChan := []
  /-- Stamp of the last recognised edge of each HTRIG pin. -/
  edgeAt : Sparse (Option Nat) := []
deriving DecidableEq, Repr


/-! ### Memory traffic of a command -/

/-- A range of device memory that an engine has accessed while it acted on a command: the errors its codewords held, by block, and
whether a read of it delivered poisoned data (R355, R361). -/
structure Access where
  addr : Nat
  len : Nat
  found : List (Nat × Nat) := []
  bad : Bool := false
deriving DecidableEq, Repr

/-! ### Meetings at a register -/

/-- What the device has done in one cycle to the bits and counters that a host access of that cycle meets (Table 18.2). -/
structure Meet where
  /-- The cycle: its stamp. -/
  stamp : Nat := 0
  /-- The W1C bits that it set, at `Reg.key`. -/
  raised : Sparse Nat := []
  /-- The counters that it advanced, at `32 * Reg.key + lowest bit`: what each held before, and the events counted since. -/
  counted : Sparse (Nat × Nat) := []
deriving DecidableEq, Repr

/-! ### The whole block -/

/-- The state of the block: the commands that wait, the registers, and a structure for each block of the device. -/
structure State where
  /-- The commands that wait, first in, first out. -/
  pending : List Instr := []
  /-- The model's own field: how many open values have been drawn (Config.freeNat). -/
  free : Nat := 0
  /-- What the device sent while it acted on the last command. -/
  out : List HostMsg := []
  /-- The memory that engines accessed while they acted on the last command, last first. -/
  touched : List Access := []
  /-- What an access of this cycle to a W1C bit or an RC counter meets (R449). -/
  meet : Meet := {}
  /-- The setup registers that differ from their reset values, at `Reg.key`. -/
  regs : Sparse Word := []
  time : TimeUnit := {}
  fab : Fabric := {}
  host : HostIf := {}
  shl : Shallot := {}
  mem : Memory := {}
  rnd : RenderEngine := {}
  dsp : Display := {}
  val : ValuePlane := {}
  art : Artichoke := {}
  flash : Flash := {}
  pwr : Power := {}
  otp : Otp := {}
  boot : Boot := {}
  upd : Update := {}
  aud : Fennel := {}
  tch : Touch := {}
  hap : Kohlrabi := {}
deriving DecidableEq, Repr

/-- The block right after module reset (R23, R447): every register at its reset value, the counter running from 0. -/
def State.reset : State := {}

end Sys2Proof.Machine
end

