-- ==== Sys2Proof/Machine/Flags.lean ====
section
/-! DEFINITION. Status codes (Table 0.6) and the choice among several that apply (R14); the cause bits of SHL_ALERT
(R295). -/

namespace Sys2Proof.Machine

def ST_OK : Nat := 0x00
def ST_STALE_GEN : Nat := 0x01
def ST_NOT_OWNER : Nat := 0x02
def ST_BAD_DESC : Nat := 0x03
def ST_PARKED : Nat := 0x04
def ST_DEFERRED : Nat := 0x05
def ST_REFUSED_BW : Nat := 0x06
def ST_REVOKED : Nat := 0x07
def ST_TIMEOUT : Nat := 0x08
def ST_BIN_EXHAUSTED : Nat := 0x09
def ST_FAULT_TRANSIENT : Nat := 0x0A
def ST_FAULT_PERMANENT : Nat := 0x0B
def ST_RETIRED : Nat := 0x0C
def ST_SAFE_STATE : Nat := 0x0D
def ST_UNSUPPORTED : Nat := 0x0E
def ST_NO_SPACE : Nat := 0x0F

/-- The lowest-numbered applicable code other than ST_OK; ST_OK when none applies (R14). -/
def pickStatus : List (Bool × Nat) → Nat
  | [] => ST_OK
  | (c, st) :: rest =>
    let r := pickStatus rest
    if c = true ∧ st ≠ ST_OK ∧ (r = ST_OK ∨ st < r) then st else r

end Sys2Proof.Machine
end

