-- ==== Sys2Proof/Machine/Ops.lean ====
section
/-! DEFINITION. The named operations that the meanings share: device time, registers and their fields, what leaves the
device, the event log, the journal, device memory and its map, MSI-X, events and completions. -/

namespace Sys2Proof.Machine

/-- `f` applied for each element of a list, from the first. -/
def forEach {α : Type} (l : List α) (f : α → State → State) (s : State) : State :=
  match l with
  | [] => s
  | a :: as => forEach as f (f a s)

/-! ### Device time (R22 to R24, R33) -/

/-- DTIME: the integer part of the accumulator (R22). -/
def dtime (s : State) : Nat := s.time.acc / 2 ^ 32

/-- The stamp of the event at hand: what the device compares with boundaries and writes into entries (R33, Table 2.3). -/
def now (s : State) : Nat := s.time.stamp

/-- The accumulator after the FCLK cycles, each adding `inc`, that take its integer part to `t` or past it (R22). -/
def ticksTo (t acc inc : Nat) : Nat := acc + (t * 2 ^ 32 - acc + inc - 1) / inc * inc

/-- An event is stamped `t`: it is judged by its stamp whatever DTIME has been reached (R33), and DTIME reaches it by whole FCLK
cycles; it never decreases (R24), and module reset holds it at 0 (R23). -/
def advance (t : Nat) (s : State) : State :=
  if s.time.run then { s with time := { s.time with stamp := t, acc := ticksTo t s.time.acc s.time.inc } } else s

/-- The device turns to an event stamped `t`: what it sends from here on is this event's. -/
def begin (t : Nat) (s : State) : State := advance t { s with out := [], touched := [] }

/-! ### Registers (R9, R11) -/

/-- A register's value. -/
def rd (s : State) (r : Reg) : Word := Sparse.get r.reset s.regs r.key

/-- `r` holding `v`. -/
def wr (s : State) (r : Reg) (v : Word) : State := { s with regs := Sparse.set r.reset s.regs r.key v }

/-- A field's value. -/
def rdF (s : State) (f : Fld) : Nat := bitsOf (rd s f.reg).toNat f.hi f.lo

/-- A field holding `v`, cut to its width. -/
def wrF (s : State) (f : Fld) (v : Nat) : State :=
  wr s f.reg (BitVec.ofNat 32 (setBits (rd s f.reg).toNat f.hi f.lo v))

/-- A one-bit field. -/
def flag (s : State) (f : Fld) : Bool := decide (rdF s f = 1)

/-- A one-bit field set or cleared. -/
def wrB (s : State) (f : Fld) (b : Bool) : State := wrF s f (if b then 1 else 0)

/-- The record of this cycle (Table 18.2). -/
def meetNow (s : State) : Meet := if s.meet.stamp = now s then s.meet else { stamp := now s }

/-- The key of a counter in the record. -/
def meetKey (f : Fld) : Nat := 32 * f.reg.key + f.lo

/-- The device sets the W1C bit `f`: a write of this very cycle does not clear it (R449). -/
def raiseF (s : State) (f : Fld) (v : Nat := 1) : State :=
  let m := meetNow s
  wrF { s with meet := { m with raised := Sparse.set 0 m.raised f.reg.key (Sparse.get 0 m.raised f.reg.key ||| (v * 2 ^ f.lo)) } } f (rdF s f ||| v)

/-- A counter field advanced by `n`, saturating at its width; the events are counted for a read of this very cycle (R449). -/
def incF (s : State) (f : Fld) (n : Nat := 1) : State :=
  let m := meetNow s
  let b := Sparse.get (0, 0) m.counted (meetKey f)
  wrF { s with meet := { m with counted := Sparse.set (0, 0) m.counted (meetKey f) (if b.2 = 0 then (rdF s f, n) else (b.1, b.2 + n)) } }
    f (min (rdF s f + n) (2 ^ (f.hi + 1 - f.lo) - 1))

/-- Bit `i` of a bitmap register. -/
def rdBit (s : State) (r : Reg) (i : Nat) : Bool := bit (rd s r).toNat i

/-- Bit `i` of a bitmap register set or cleared. -/
def wrBit (s : State) (r : Reg) (i : Nat) (b : Bool) : State :=
  wr s r (BitVec.ofNat 32 (if b then setBit (rd s r).toNat i else clearBit (rd s r).toNat i))

/-- A 64-bit value in two registers (R9). -/
def rd64 (s : State) (lo hi : Reg) : Nat := (rd s lo).toNat + 2 ^ 32 * (rd s hi).toNat

def wr64 (s : State) (lo hi : Reg) (v : Nat) : State :=
  wr (wr s lo (BitVec.ofNat 32 v)) hi (BitVec.ofNat 32 (v / 2 ^ 32))

/-- A fresh open value (Config.freeNat at the next number). -/
def fresh (s : State) : Nat := Config.freeNat s.free
def spend (s : State) : State := { s with free := s.free + 1 }

/-- A message leaves the device. -/
def send (s : State) (m : HostMsg) : State := { s with out := s.out ++ [m] }

/-! ### Power domains (R384, R385) -/

/-- A domain is on and its rails good. -/
def domainGood (s : State) (d : Nat) : Bool := rdBit s .PWR_DOMAIN d

/-- A domain is switched on: good when it says so.  One that its idle time has switched off in this very cycle stays on (Table 15.9). -/
def switchOn (d : Nat) (s : State) : State :=
  if domainGood s d = true ∨ s.pwr.rising.any (fun x => decide (x.1 = d)) = true then s
  else if s.pwr.gated = some (d, now s) then wrBit { s with pwr := { s.pwr with gated := none } } .PWR_DOMAIN d true
  else { s with pwr := { s.pwr with rising := (d, now s) :: s.pwr.rising } }

/-- A domain is switched off. -/
def switchOff (d : Nat) (s : State) : State :=
  let s := { s with pwr := { s.pwr with rising := s.pwr.rising.filter (fun x => decide (x.1 ≠ d)) } }
  if domainGood s d then wrBit s .PWR_DOMAIN d false else s

/-! ### The event log (R297, R298) -/

/-- BLOCK codes of Table 11.7. -/
inductive Blk where
  | shl | art | time | host | inst | mem | rnd | shd | lyr | hd | val | aud | tch | hap | pwr | clk | boot | upd | ident
deriving DecidableEq, Repr

def Blk.code : Blk → Nat
  | .shl => 1 | .art => 2 | .time => 3 | .host => 4 | .inst => 5 | .mem => 6 | .rnd => 7 | .shd => 8 | .lyr => 9
  | .hd => 0xA | .val => 0xB | .aud => 0xC | .tch => 0xD | .hap => 0xE | .pwr => 0xF | .clk => 0x10 | .boot => 0x11
  | .upd => 0x12 | .ident => 0x13

/-- The block whose registers lie at a BAR0 setup offset (Table 18.1). -/
def blkOfOffset (off : Nat) : Blk :=
  match off / 0x10000 with
  | 0 => if off < 0x100 then .ident else if off < 0x200 then .boot else if off < 0x300 then .upd
         else if off < 0x400 then .pwr else .clk
  | 1 => .time | 2 => .shl | 3 => .art | 4 => .host | 5 => .inst | 6 => .mem
  | 8 => if off < 0x89000 ∧ off % 0x40 < 0x20 ∨ (0x88000 ≤ off ∧ off < 0x89000) then .rnd else .shd
  | 0xA => .lyr | 0xB => .hd | 0xC => .val | 0xD => .aud
  | 0xE => if off < 0xE8000 then .tch else .hap
  | _ => .host

/-- A log entry (Table 11.7). -/
def logEntry (dtime cls blk code unit arg : Nat) : Rec16 :=
  BitVec.ofNat 128 (at64 0 dtime + at8 8 (cls * 64 + blk) + at8 9 code + at16 10 unit + at32 12 arg)

/-- An entry takes the next sequence number (R297). -/
def putLog (s : State) (e : Rec16) : State :=
  let n := (rd s .SHL_LOG_HEAD).toNat
  wr { s with shl := { s.shl with log := Sparse.set 0 s.shl.log (n % 4096) e } } .SHL_LOG_HEAD (BitVec.ofNat 32 (n + 1))

/-- The stamp of log entries: 0 while module reset holds DTIME (Table 11.7). -/
def logTime (s : State) : Nat := if s.time.run then now s else 0

/-- Entries of class information are limited to 1,000 in each second of DTIME; `n` more of them are due (R297). -/
def infoFits (s : State) (n : Nat) : Bool :=
  decide ((if s.shl.infoWindow = now s / 10 ^ 9 then s.shl.infoCount else 0) + n ≤ 1000)

def countInfo (s : State) (n : Nat) : State :=
  let k := now s / 10 ^ 9
  let c := if s.shl.infoWindow = k then s.shl.infoCount else 0
  { s with shl := { s.shl with infoWindow := k, infoCount := c + n } }

/-- A log entry with its CONTINUATION, if it has one: written or dropped whole (R297, R298). -/
def writeLog (s : State) (cls : Nat) (blk : Blk) (code unit arg : Nat) (cont : Option Nat := none) : State :=
  let n := if cont.isSome then 2 else 1
  if cls = 0 ∧ infoFits s n = false then incF s SHL_LOG_DROP.COUNT n
  else
    let s := if cls = 0 then countInfo s n else s
    let s := putLog s (logEntry (logTime s) cls blk.code code unit arg)
    match cont with
    | none => s
    | some c => putLog s (logEntry (logTime s) cls blk.code 0xFF unit c)

/-- WRITE_DISCARDED for a BAR0 offset (Table 11.8). -/
def logDiscard (s : State) (off : Nat) : State := writeLog s 0 (blkOfOffset off) 0x01 0 off

/-- WRITE_DISCARDED for an offset in the BAR2 of VF `n`. -/
def logDiscardVF (s : State) (n off : Nat) : State := writeLog s 0 .host 0x01 n off

/-- A STATE entry: the machine, its old and its new state (Table 11.8). -/
def logState (s : State) (blk : Blk) (machine unit old new : Nat) : State :=
  writeLog s 0 blk 0x06 unit (new % 256 + (old % 256) * 256 + machine * 65536)

/-! ### Instances (R51, R53) -/

def instState (s : State) (n : Nat) : Nat := rdF s (INST_STATE.STATE n)
def instGen (s : State) (n : Nat) : Nat := rdF s (INST_STATE.GEN n)

def ABSENT : Nat := 0
def CREATED : Nat := 1
def ENABLED : Nat := 2
def PARKED : Nat := 3
def RESETTING : Nat := 4
def DESTROYING : Nat := 5

def getInst (s : State) (n : Nat) : Inst := Sparse.get {} s.fab.insts n
def setInst (s : State) (n : Nat) (i : Inst) : State := { s with fab := { s.fab with insts := Sparse.set {} s.fab.insts n i } }

/-- The lease record of a unit (R66). -/
def leaseKey (kind unit : Nat) : Nat := kind * 65536 + unit
def getLease (s : State) (kind unit : Nat) : Lease := Sparse.get {} s.fab.leases (leaseKey kind unit)
def setLease (s : State) (kind unit : Nat) (l : Lease) : State :=
  { s with fab := { s.fab with leases := Sparse.set {} s.fab.leases (leaseKey kind unit) l } }

def K_PIPE : Nat := 1
def K_CTX : Nat := 2
def K_CHUNK : Nat := 3
def K_FIELDS : Nat := 4
def K_AUDIO : Nat := 5
def K_HAPTIC : Nat := 6
def K_TOUCH : Nat := 7

/-- How many units a lease kind has (Table 3.5). -/
def unitsOf (kind : Nat) : Nat :=
  if kind = 1 then 96 else if kind = 2 then 512 else if kind = 3 then 16384 else if kind = 4 then 1024
  else if kind = 5 then 64 else if kind = 6 then 16 else if kind = 7 then 256 else 0

/-- The unit is held by instance `n` under its current generation (R65, R58). -/
def holds (s : State) (n kind unit : Nat) : Bool :=
  let l := getLease s kind unit
  decide (l.state = .held ∧ l.holder = n ∧ l.gen = instGen s n)

/-! Meetings in one DTIME tick (R76): the commands that wait behind the one at hand, with its stamp. -/

/-- The PF answers configuration requests (R404). -/
def configReady (s : State) : Bool := decide (s.host.cfgFrom ≤ now s) && !s.host.perst

/-- The commands of a batch page, from offset 32. -/
def pageCommands (p : Page) (count : Nat) : List Rec32 :=
  (List.range count).map (fun i => BitVec.ofNat 256 (bytesAt p (32 + 32 * i) 32))

/-- A batch header is good: TYPE BATCH, COUNT 1–7 and reserved bytes 0 (R73, R13). -/
def headerGood (p : Page) : Bool :=
  decide (u16 p 0 = 1 ∧ 1 ≤ u8 p 2 ∧ u8 p 2 ≤ 7 ∧ u8 p 3 = 0 ∧ bytesAt p 8 24 = 0)

/-- The commands of a BATCH that waits behind the event at hand and that the device will take. -/
def waitingBatch (s : State) : List Rec32 :=
  match s.pending.findSome? (fun c => match c with
    | .batch t gen page => if t = now s ∧ gen = instGen s 0 ∧ headerGood page = true then some page else none
    | _ => none) with
  | some page => pageCommands page (u8 page 2)
  | none => []

/-- The first command of the batch with opcode `op`, while none is being applied. -/
def batchCommand (s : State) (op : Nat) : Option Rec32 :=
  match s.fab.batch with
  | none => none
  | some b => if b.current.isSome then none else b.todo.find? (fun c => decide (u8 c 0 = op))

/-- The first command with opcode `op` of the batch, or of the one that meets the event at hand. -/
def firstCommand (s : State) (op : Nat) : Option Rec32 :=
  if s.fab.batch.isNone then (waitingBatch s).find? (fun c => decide (u8 c 0 = op)) else batchCommand s op

/-- A command of the batch names instance `n` under its current generation. -/
def commandNames (s : State) (c : Rec32) (n : Nat) : Bool := decide (u16 c 2 = n ∧ u16 c 4 = instGen s n)

/-- A function-level reset of instance `n` meets the event at hand. -/
def flrMeets (s : State) (n : Nat) : Bool := configReady s && s.pending.contains (if n = 0 then .pfFlr (now s) else .vfFlr (now s) n)

/-- A reset of instance `n` meets the event at hand. -/
def resetMeets (s : State) (n : Nat) : Bool :=
  flrMeets s n || (s.pending.contains (.instReset (now s)) && (firstCommand s 3).any (fun c => commandNames s c n))

/-- A reset of instance `n` has been taken in this cycle. -/
def justReset (s : State) (n : Nat) : Bool :=
  if n = 0 then decide (s.host.flrAt = some (now s) ∨ s.host.convAt = some (now s))
  else decide (instState s n = RESETTING ∧ (getInst s n).resetAt = now s)

/-- The lease that instance `n` holds of a unit has expired, or LEASE_REVOKE of it meets the event at hand. -/
def endMeets (s : State) (n kind unit : Nat) : Bool :=
  let l := getLease s kind unit
  decide (0 < l.termMs ∧ l.expiry ≤ now s)
  || (s.pending.contains (.leaseRevoke (now s))
      && (firstCommand s 7).any (fun c => commandNames s c n && decide (u8 c 6 = kind ∧ u16 c 8 = unit)))

/-- What an operation of instance `n` on a unit answers: ST_OK for its holder, ST_REVOKED while it is ended or after it
was revoked or expired, ST_RETIRED after retirement, ST_NOT_OWNER for anyone else (Table 3.7, R58, R69, R70); where the end of
the lease and the operation meet, the end comes first (R76). -/
def unitStatus (s : State) (n kind unit : Nat) : Nat :=
  let l := getLease s kind unit
  match l.state with
  | .held => if l.holder = n ∧ l.gen = instGen s n then (if endMeets s n kind unit then ST_REVOKED else ST_OK) else ST_NOT_OWNER
  | .revoking => if l.holder = n then (if l.ending = 3 then ST_RETIRED else ST_REVOKED) else ST_NOT_OWNER
  | .free | .retired =>
    if l.lastHolder = n ∧ n ≠ 0 ∧ l.endReason ≠ 0 then (if l.endReason = 3 then ST_RETIRED else ST_REVOKED)
    else ST_NOT_OWNER

/-! ### Device memory and its map (R351, R352, R360, R363 to R368) -/

def CHUNK : Nat := 0x200000

/-- ECC is on in a region (R359). -/
def eccOn (s : State) (region : Nat) : Bool := rdBit s .MEM_ECC_EN region

/-- A chunk that can hold a slice or a placed range: not in region 31, a check area or an unused tail (R352). -/
def chunkData (s : State) (k : Nat) : Bool :=
  decide (k < 15872) && (!(eccOn s (k / 512)) || decide (k % 512 < 480))

/-- Ranges of chunks that overlap. -/
def overlap (a n b m : Nat) : Bool := decide (0 < n ∧ 0 < m ∧ a < b + m ∧ b < a + n)

/-- The chunks a byte range touches. -/
def chunksOf (addr len : Nat) : List Nat :=
  if len = 0 then [] else (List.range ((addr + len - 1) / CHUNK + 1 - addr / CHUNK)).map (· + addr / CHUNK)

/-- A device virtual range lies inside the slice of instance `n` (R366). -/
def inSlice (s : State) (n addr len : Nat) : Bool :=
  let base := rdF s (INST_SLICE.BASE n)
  let size := rdF s (INST_SLICE.SIZE n)
  decide (base * CHUNK ≤ addr ∧ addr + len ≤ (base + size) * CHUNK)

/-- A range of chunks, if there is one, holds chunk `k`. -/
def rangeHas (r : Option (Nat × Nat)) (k : Nat) : Bool :=
  match r with
  | none => false
  | some (b, z) => decide (b ≤ k ∧ k < b + z)

/-- Whether the address reach of instance `n` covers a device range: its slice, or, for I0, every page but the plate
store, region 31, check areas and unused tails (R91, R366). -/
def reaches (s : State) (n addr len : Nat) : Bool :=
  if n = 0 then
    (chunksOf addr len).all (fun k => chunkData s k && !(rangeHas s.mem.plateStore k))
  else inSlice s n addr len

/-- The font region's chunk: one 2 MiB unit (R253). -/
def fontRange (s : State) : Option (Nat × Nat) := s.mem.fontRegion.map (fun b => (b, 1))

/-- The journal backing region, placed while its SIZE is above 0 (R79, R359). -/
def journalRange (s : State) : Option (Nat × Nat) := some (rdF s INST_JBACK.BASE, rdF s INST_JBACK.SIZE)

/-- Chunk `k` lies in a placed range: font region, plate store or journal backing (R359). -/
def placed (s : State) (k : Nat) : Bool :=
  rangeHas (fontRange s) k || rangeHas s.mem.plateStore k || rangeHas (journalRange s) k

/-- The OWNER field of a page's map entry (Table 14.6). -/
def pageOwner (s : State) (p : Nat) : Nat :=
  let k := p / 512
  if !(chunkData s k) then 0x1FF
  else if placed s k then 0x1FE
  else ((List.range 257).find? (fun n => decide (rdF s (INST_SLICE.BASE n) ≤ k
          ∧ k < rdF s (INST_SLICE.BASE n) + rdF s (INST_SLICE.SIZE n)))).getD 0

/-- A page's map entry. -/
def pageEntry (s : State) (p : Nat) : PageEntry := Sparse.get {} s.mem.pages p

/-- Where a physical address is read from after the page map (R366). -/
def mapped (m : Memory) (a : Nat) : Nat :=
  let e := Sparse.get {} m.pages (a / 4096)
  match e.state with
  | .remapped => (e.target.getD (a / 4096)) * 4096 + a % 4096
  | _ => a

/-- The page that holds what physical address `a` names is DEAD (R364). -/
def storedDead (m : Memory) (a : Nat) : Bool := decide ((Sparse.get {} m.pages (mapped m a / 4096)).state = .dead)

/-- One byte of memory as a read of physical address `a` delivers it; what a DEAD page delivers is open (R364). -/
def Memory.byte (m : Memory) (a : Nat) : Byte := if storedDead m a then Config.deadByte a else Sparse.get 0 m.bytes (mapped m a)

/-- One byte written at physical address `a`: to the page the map names, to its spare too while it is copied (R363), nowhere
on a DEAD page (R364). -/
def Memory.putByte (m : Memory) (a : Nat) (b : Byte) : Memory :=
  let q := mapped m a
  let e := Sparse.get {} m.pages (q / 4096)
  match e.state with
  | .dead => m
  | .copying => { m with bytes := Sparse.set 0 (Sparse.set 0 m.bytes q b) ((e.target.getD (q / 4096)) * 4096 + q % 4096) b }
  | _ => { m with bytes := Sparse.set 0 m.bytes q b }

/-- Bytes written from physical address `a` on. -/
def Memory.put (m : Memory) (a : Nat) (bs : List Byte) : Memory :=
  match bs with
  | [] => m
  | b :: rest => (m.putByte a b).put (a + 1) rest

/-- The pages whose accesses go to page `q` (R366). -/
def namesOf (m : Memory) (q : Nat) : List Nat :=
  (if (Sparse.get {} m.pages q).state = .remapped then [] else [q])
  ++ m.pages.filterMap (fun p => if p.2.state = .remapped ∧ p.2.target = some q then some p.1 else none)

/-- The blocks whose accesses go to the stored block `k`. -/
def nameBlocks (m : Memory) (k : Nat) : List Nat := (namesOf m (k / 64)).map (fun p => p * 64 + k % 64)

/-- The stored block that block `b` names. -/
def storedBlock (m : Memory) (b : Nat) : Nat := mapped m (b * 64) / 64

/-- The range of `n` bytes from `a` covers block `b`, and meets it. -/
def coversBlock (a n b : Nat) : Bool := decide (a ≤ b * 64 ∧ b * 64 + 64 ≤ a + n)
def meetsBlock (a n b : Nat) : Bool := decide (a < b * 64 + 64 ∧ b * 64 < a + n)

/-- A write of `n` bytes at `a` computes fresh check words for the blocks it covers: what they held is gone (R360). -/
def freshWords (m : Memory) (a n : Nat) : Memory :=
  { m with
    poison := m.poison.filter (fun k => !((nameBlocks m k).any (coversBlock a n)))
    flaws := m.flaws.filter (fun k => !((nameBlocks m k.1).any (coversBlock a n))) }

/-- `n` bytes from physical address `a`. -/
def readMem (s : State) (a n : Nat) : List Byte := (List.range n).map (fun i => s.mem.byte (a + i))

/-- A little-endian number of `n` bytes at physical address `a` (R8). -/
def readNum (s : State) (a n : Nat) : Nat := ofBytes (readMem s a n)

/-- The errors that the stored blocks of a range hold: 1 correctable, 2 uncorrectable or the poison marker (R360). -/
def errorsIn (m : Memory) (a n : Nat) : List (Nat × Nat) :=
  (m.poison.map (fun k => (k, 2)) ++ m.flaws).filter (fun e => (nameBlocks m e.1).any (meetsBlock a n))

/-- A read of the range meets poisoned data: an uncorrectable block, or a DEAD page (R360, R364). -/
def poisonedRange (s : State) (a n : Nat) : Bool :=
  (errorsIn s.mem a n).any (fun e => decide (2 ≤ e.2)) ||
  s.mem.pages.any (fun p => decide (p.2.state = .dead) && (namesOf s.mem p.1).any (fun q => decide (a < q * 4096 + 4096 ∧ q * 4096 < a + n)))

/-- Bytes written to device memory (R357, R360). -/
def putMem (s : State) (a : Nat) (bs : List Byte) : State := { s with mem := freshWords (s.mem.put a bs) a bs.length }

/-- An engine reads `n` bytes at `a`: what its request meets is settled when the command has acted (R355, R361). -/
def touch (s : State) (a n : Nat) : State :=
  { s with touched := { addr := a, len := n, found := errorsIn s.mem a n, bad := poisonedRange s a n } :: s.touched }

/-- Bytes written to device memory by an engine: of a block it covers in part, the write is a read and a merge (R360). -/
def writeMem (s : State) (a : Nat) (bs : List Byte) : State :=
  let s := putMem s a bs
  { s with touched := { addr := a, len := bs.length, found := errorsIn s.mem a bs.length } :: s.touched }

/-- Memory from `a` up to and not `b` zero-filled, with the spare pages its retired pages point to and its check words
(R369). -/
def zeroMem (s : State) (a b : Nat) : State :=
  let spares := s.mem.pages.filterMap (fun p => if a ≤ p.1 * 4096 ∧ p.1 * 4096 < b then p.2.target else none)
  let bytes := spares.foldl (fun m q => Sparse.clear m (q * 4096) (q * 4096 + 4096)) (Sparse.clear s.mem.bytes a b)
  { s with mem := freshWords { s.mem with bytes := bytes } a (b - a) }

/-! ### Layout of region 31 (Table 14.2) -/

def REGION31 : Nat := 31 * 2 ^ 30
def VALUE_STORE : Nat := REGION31 + 0x4000000
def SHADER_CACHE : Nat := REGION31 + 0x4200000
/-! ### The journal (R77 to R79) -/

/-- A journal entry (Table 3.15). -/
def journalEntry (dtime jseq bseq newGen opcode origin inst status slot args : Nat) : Rec32 :=
  BitVec.ofNat 256 (at64 0 dtime + at32 8 jseq + at16 12 bseq + at16 14 newGen + at8 16 opcode + at8 17 origin
    + at16 18 inst + at8 20 status + at8 21 slot + (args % 2 ^ 80) <<< (8 * 22))

/-- The next JSEQ. -/
def nextJseq (s : State) : Nat := (rd s .INST_JOURNAL_HEAD).toNat

/-- Where an entry lies in the backing region (R79). -/
def backingAddr (s : State) (jseq : Nat) : Nat :=
  rdF s INST_JBACK.BASE * CHUNK + (jseq % (rdF s INST_JBACK.SIZE * 65536)) * 32

/-- An entry is written: on chip at JSEQ mod 8192, and to the backing region where there is one (R77, R79). -/
def journal (s : State) (origin opcode inst status slot args bseq dtime : Nat) : State :=
  let j := nextJseq s
  let e := journalEntry dtime j bseq (if inst ≤ 256 then instGen s inst else 0) opcode origin inst status slot args
  let s := { s with fab := { s.fab with journal := Sparse.set 0 s.fab.journal (j % 8192) e } }
  let s := if 0 < rdF s INST_JBACK.SIZE then writeMem s (backingAddr s j) (toBytes 32 e.toNat) else s
  wr s .INST_JOURNAL_HEAD (BitVec.ofNat 32 (if j + 1 = 2 ^ 32 then 1 else j + 1))

/-- The STATUS byte of the entry JSEQ becomes that of the command's result (Table 3.15). -/
def rejournal (s : State) (jseq status newGen : Nat) : State :=
  let e := (Sparse.get 0 s.fab.journal (jseq % 8192)).toNat
  let e' : Rec32 := BitVec.ofNat 256 (setBits (setBits e 167 160 status) 127 112 newGen)
  let s := { s with fab := { s.fab with journal := Sparse.set 0 s.fab.journal (jseq % 8192) e' } }
  if 0 < rdF s INST_JBACK.SIZE then writeMem s (backingAddr s jseq) (toBytes 32 e'.toNat) else s

/-- A device-origin entry for a lease end, retirement or unretirement: kind, unit (Table 3.15, Table 3.16). -/
def journalUnit (s : State) (origin opcode inst kind unit : Nat) : State :=
  journal s origin opcode inst ST_OK 0xFF (kind + unit * 65536) 0 (now s)

/-! ### MSI-X (R106, R107, R461) -/

/-- Word `w` of a vector's table entry; the vector control word is masked at reset. -/
def msixReset (w : Nat) : Word := if w = 3 then 1 else 0
def msixKey (fn v w : Nat) : Nat := fn * 256 + 4 * v + w
def msixWord (s : State) (fn v w : Nat) : Word := Sparse.get (msixReset w) s.host.msix (msixKey fn v w)

/-- A vector is signalled: sent, or its pending bit set while it is masked (R107). -/
def signal (s : State) (fn v : Nat) : State :=
  if bit (msixWord s fn v 3).toNat 0 then
    (if s.host.msixPend.contains (fn * 64 + v) then s
     else { s with host := { s.host with msixPend := (fn * 64 + v) :: s.host.msixPend } })
  else send s (.msix fn v)

/-! ### Completion and event rings (R99 to R103, R107) -/

def getSq (s : State) (fn q : Nat) : SqState := Sparse.get {} s.host.sq (fn * 64 + q)
def setSq (s : State) (fn q : Nat) (x : SqState) : State :=
  { s with host := { s.host with sq := Sparse.set {} s.host.sq (fn * 64 + q) x } }
def getCq (s : State) (fn c : Nat) : CqState := Sparse.get {} s.host.cq (fn * 32 + c)
def setCq (s : State) (fn c : Nat) (x : CqState) : State :=
  { s with host := { s.host with cq := Sparse.set {} s.host.cq (fn * 32 + c) x } }
def getEq (s : State) (fn : Nat) : CqState := Sparse.get {} s.host.eq fn
def setEq (s : State) (fn : Nat) (x : CqState) : State :=
  { s with host := { s.host with eq := Sparse.set {} s.host.eq fn x } }

/-- Entries between a head and a tail of a ring of `2^k` slots. -/
def ringUsed (k head tail : Nat) : Nat := (tail + 2 ^ k - head) % 2 ^ k

/-- The moderation rule (R107): the window after an entry of DTIME `e` written at `t`, and whether it signals now. -/
def moderate (w : Window) (e t timeUs count : Nat) (urgent : Bool) : Window × Bool :=
  let w := if w.waiting = 0 then { openAt := e, waiting := 1, timeUs := timeUs } else { w with waiting := w.waiting + 1 }
  if urgent = true ∨ count ≤ w.waiting ∨ w.timeUs = 0 ∨ w.openAt + w.timeUs * 1000 ≤ t
  then ({ w with waiting := 0 }, true) else (w, false)

/-- A completion (Table 4.8). -/
def completionEntry (d : Desc) (fn q gen status dtime : Nat) (phase : Bool) : Rec16 :=
  BitVec.ofNat 128 (at32 0 (u32 d 8) + at16 4 (fn + q * 512 + if phase then 32768 else 0) + at16 6 gen
    + at8 8 status + at8 9 (u8 d 0) + at48 10 dtime)

/-- A completion is written to the completion ring of submission ring `q`, or dropped where that ring is not enabled
(R99 to R101). -/
def writeCompletion (s : State) (fn q : Nat) (f : Flight) (status dtime : Nat) : State :=
  let c := f.cq
  let x := getCq s fn c
  if flag s (CQ_CFG.ENABLE fn c) then
    let tail := rdF s (CQ_PTR.TAIL fn c)
    let e := completionEntry f.desc fn q f.gen status dtime x.phase
    let tail' := (tail + 1) % 2 ^ rdF s (CQ_CFG.SIZE_LOG2 fn c)
    let (w, sig) := moderate x.window dtime (now s) (rdF s (CQ_MOD.MOD_TIME_US fn c)) (rdF s (CQ_MOD.MOD_COUNT fn c))
      (decide (status ≠ ST_OK))
    let s := send s (.completion fn c tail e)
    let s := wrF s (CQ_PTR.TAIL fn c) tail'
    let s := setCq s fn c { x with phase := if tail' = 0 then !x.phase else x.phase, reserved := x.reserved - 1, window := w }
    if sig then signal s fn (rdF s (CQ_CFG.VECTOR fn c)) else s
  else setCq (incF s (INST_LATE_DROP.COUNT fn)) fn c { x with reserved := x.reserved - 1 }

/-- A descriptor that completes QUIET with ST_OK frees its slot and writes nothing (R101, Table 4.5). -/
def quietOk (f : Flight) (status : Nat) : Bool := bit (u8 f.desc 1) 1 && decide (status = ST_OK)

def freeSlot (s : State) (fn c : Nat) : State :=
  let x := getCq s fn c
  setCq s fn c { x with reserved := x.reserved - 1 }

/-- A completion ring has a free slot, or is not enabled and takes no entry: it never overflows (R101). -/
def cqRoom (s : State) (fn c : Nat) : Bool :=
  let k := rdF s (CQ_CFG.SIZE_LOG2 fn c)
  !(flag s (CQ_CFG.ENABLE fn c)) || decide (ringUsed k (rdF s (CQ_PTR.HEAD fn c)) (rdF s (CQ_PTR.TAIL fn c)) < 2 ^ k - 1)

/-- The completions at the front of a ring's flights are written, in ring order (R97), as long as the completion ring has a slot:
one that was enabled anew with fewer entries than were reserved before may have none (R101). -/
def flushFlights (s : State) (fn q : Nat) (fs : List Flight) : State × List Flight :=
  match fs with
  | [] => (s, [])
  | f :: rest =>
    match f.done with
    | none => (s, f :: rest)
    | some (st, t) =>
      if quietOk f st then flushFlights (freeSlot s fn f.cq) fn q rest
      else if cqRoom s fn f.cq then flushFlights (writeCompletion s fn q f st t) fn q rest
      else (s, f :: rest)

def flushSq (s : State) (fn q : Nat) : State :=
  let (s', fs) := flushFlights s fn q (getSq s fn q).flights
  setSq s' fn q { getSq s' fn q with flights := fs }

/-- Host reads that `ended` names, as (fn, ring, flight), are outstanding no more; an ATS invalidation that waited for nothing else
completes (R110). -/
def readsOver (ended : Nat × Nat × Nat → Bool) (s : State) : State :=
  if s.host.atsWait.isEmpty then s
  else
    let ws := s.host.atsWait.map (fun w => (w.1, w.2.filter (fun k => !(ended k))))
    (ws.filter (fun w => w.2.isEmpty)).foldl (fun s w => send s (.atsDone w.1))
      { s with host := { s.host with atsWait := ws.filter (fun w => !w.2.isEmpty) } }

def readOver (fn q id : Nat) (s : State) : State := readsOver (fun k => decide (k = (fn, q, id))) s

/-- The descriptor `id` of ring `q` reaches its completion point with a status, at DTIME `t`.  Work of an older generation,
whose ring was emptied by the reset, is a late item: discarded and counted (R55). -/
def completeAt (s : State) (fn q id status t : Nat) : State :=
  let s := readOver fn q id s
  let x := getSq s fn q
  if x.flights.any (fun f => decide (f.id = id)) then
    flushSq (setSq s fn q { x with flights := x.flights.map (fun f => if f.id = id then { f with done := some (status, t) } else f) }) fn q
  else incF s (INST_LATE_DROP.COUNT fn)

def complete (s : State) (fn q id status : Nat) : State := completeAt s fn q id status (now s)

/-- An event (Table 4.10): header and 16-byte payload. -/
def eventEntry (type inst gen unit dtime payload : Nat) (phase : Bool) : Rec32 :=
  BitVec.ofNat 256 (at8 0 type + at8 1 (if phase then 128 else 0) + at16 2 inst + at16 4 gen + at16 6 unit
    + at64 8 dtime + (payload % 2 ^ 128) <<< 128)

def EV_OVERFLOW : Nat := 1
def EV_LEASE_END : Nat := 2
def EV_BIN_GROW : Nat := 3
def EV_TOUCH : Nat := 4
def EV_MAILBOX : Nat := 5
def EV_TIME : Nat := 6
def EV_FAULT : Nat := 7
def EV_HEAD : Nat := 8
def EV_RING_HALT : Nat := 9

/-- An event is written into the next slot of the event ring of function `fn`. -/
def putEvent (s : State) (fn type inst unit dtime payload : Nat) : State :=
  let x := getEq s fn
  let tail := rdF s (EQ_PTR.TAIL fn)
  let tail' := (tail + 1) % 2 ^ rdF s (EQ_CFG.SIZE_LOG2 fn)
  let e := eventEntry type inst (instGen s inst) unit dtime payload x.phase
  let (w, sig) := moderate x.window dtime (now s) (rdF s (EQ_MOD.MOD_TIME_US fn)) (rdF s (EQ_MOD.MOD_COUNT fn))
    (decide (type ≠ EV_TOUCH))
  let s := send s (.event fn tail e)
  let s := wrF s (EQ_PTR.TAIL fn) tail'
  let s := setEq s fn { x with phase := if tail' = 0 then !x.phase else x.phase, window := w }
  if sig then signal s fn (rdF s (EQ_CFG.VECTOR fn)) else s

/-- Free slots of the event ring of `fn` (R87). -/
def eqFree (s : State) (fn : Nat) : Nat :=
  let k := rdF s (EQ_CFG.SIZE_LOG2 fn)
  2 ^ k - 1 - ringUsed k (rdF s (EQ_PTR.HEAD fn)) (rdF s (EQ_PTR.TAIL fn))

/-- An event falls due for the event ring of `fn` (R102, R103). -/
def postEventAt (s : State) (fn type inst unit dtime payload : Nat) : State :=
  if flag s (EQ_CFG.ENABLE fn) then
    let x := getEq s fn
    if x.overflowed = true ∨ eqFree s fn ≤ 1 then
      let s := incF s (EQ_DROP.COUNT fn)
      let x := { x with dropped := satAdd32 x.dropped 1 }
      if x.overflowed then setEq s fn x
      else putEvent (setEq s fn { x with overflowed := true }) fn EV_OVERFLOW fn 0 dtime x.dropped
    else putEvent s fn type inst unit dtime payload
  else incF s (EQ_DROP.COUNT fn)

def postEvent (s : State) (fn type inst unit payload : Nat) : State := postEventAt s fn type inst unit (now s) payload

/-! ### SHL_ALERT (R295) -/

/-- Whether any unit is retired. -/
def anyRetired (s : State) : Bool := !s.shl.retired.isEmpty

/-- The active EN of a group's genlock (R211, R222). -/
def genlockOn (s : State) (g : Nat) : Bool := bit (Sparse.get (Reg.HDG_GENLOCK g).reset s.dsp.active (Reg.HDG_GENLOCK g).key).toNat 31

/-- The cause bits of SHL_ALERT as the device stands (R295). -/
def alertCauses (s : State) : Nat :=
  (if flag s SHL_STATUS.SAFE then 1 else 0) + (if flag s SHL_STATUS.HOST_ABSENT then 2 else 0)
  + (if anyRetired s then 4 else 0)
  + (if (List.range 12).any (fun n => decide (rdF s (ART_HD_STATUS.GUARD n) ≠ 0)) then 8 else 0)
  + (if rdF s TIME_STATUS.STATE ≠ 2 then 16 else 0)
  + (if (List.range 3).any (fun g => genlockOn s g && decide (rdF s (HDG_STATUS.STATE g) ≠ 2)) then 32 else 0)
  + (if rdF s PWR_THROTTLE.STEP ≠ 0 then 64 else 0)

/-- SHL_ALERT follows its causes, and every rising cause sets its bit in SHL_ALERT_LATCH (R295). -/
def settle (s : State) : State :=
  let old := rdF s SHL_ALERT.CAUSE
  let new := alertCauses s
  let rise := new &&& (127 - old % 128)
  let s := wrF s SHL_ALERT.CAUSE new
  raiseF s SHL_ALERT_LATCH.LATCH rise

/-- ALERT_N is asserted while an enabled cause is 1 (R295). -/
def alertN (s : State) : Bool := decide (rdF s SHL_ALERT.CAUSE &&& rdF s SHL_ALERT_MASK.MASK ≠ 0)

/-- An event stamped `t` with effect `f`, on blocks that are out of reset (`live`), up to the alert pins. -/
def actIf (live : Bool) (t : Nat) (f : State → State) (s : State) : Host.Outcome State Fault Refusal :=
  .next (settle (if live then f (begin t s) else begin t s))

/-- Every block outside PD0 is out of reset (R393). -/
def running (s : State) : Bool := decide (s.pwr.phase = .run)

/-- A command's effect on the blocks outside PD0. -/
def act (t : Nat) (f : State → State) (s : State) : Host.Outcome State Fault Refusal := actIf (running s) t f s

/-- A command's effect on a block outside PD0 to PD2: none before its domain is good (R393). -/
def actIn (d : Nat) (t : Nat) (f : State → State) (s : State) : Host.Outcome State Fault Refusal :=
  act t (fun s => if domainGood s d then f s else s) s

/-- A command's effect on the blocks of PD1, which the first stage of a module reset releases (R393). -/
def actEarly (t : Nat) (f : State → State) (s : State) : Host.Outcome State Fault Refusal := actIf (decide (s.pwr.phase ≠ .held)) t f s

/-- A command's effect on PD0, which no module reset holds. -/
def actPd0 (t : Nat) (f : State → State) (s : State) : Host.Outcome State Fault Refusal := actIf s.pwr.pd0 t f s

/-- Seedling mode (R409). -/
def seedling (s : State) : Bool := flag s BOOT_STATUS.SEEDLING

/-- A host access of a part of BAR0 that answers in RUN alone: before it, and in Seedling mode, a write is discarded (R404,
R409). -/
def onBar0 (f : State → State) (s : State) : State := if rdF s BOOT_STATUS.STAGE = 6 then f s else s

/-- The same for an access that function `fn` makes: a VF has its own BAR2. -/
def onBar (fn : Nat) (f : State → State) (s : State) : State := if fn = 0 then onBar0 f s else f s

/-! ### Writes of a register's fields (R11, R457) -/

/-- Every writable field of the written word holds an admitted value (R48, R81, R457). -/
def admitted (fs : List FieldSpec) (v : Nat) : Bool :=
  fs.all (fun f =>
    match f.acc with
    | .rw | .lk => f.ok.isEmpty || f.ok.any (fun r => decide (r.1 ≤ bitsOf v f.hi f.lo ∧ bitsOf v f.hi f.lo ≤ r.2))
    | _ => true)

/-- The register's value after the fields of a write have acted by their access codes; `locked` is SETUP_LOCK (R11). -/
def fieldWrite (locked : Bool) (fs : List FieldSpec) (old v : Nat) : Nat :=
  match fs with
  | [] => old
  | f :: rest =>
    let x := bitsOf v f.hi f.lo
    let o := bitsOf old f.hi f.lo
    let y := match f.acc with
      | .rw => x
      | .lk => if locked then o else x
      | .w1c => o &&& (2 ^ (f.hi + 1 - f.lo) - 1 - x)
      | .w1s => o ||| x
      | _ => o
    fieldWrite locked rest (setBits old f.hi f.lo y) v

/-- Whether the write would change an LK field (R457). -/
def violates (fs : List FieldSpec) (old v : Nat) : Bool :=
  fs.any (fun f => decide (f.acc = .lk ∧ bitsOf v f.hi f.lo ≠ bitsOf old f.hi f.lo))

/-- SETUP_LOCK (R12, R451). -/
def locked (s : State) : Bool := flag s ID_LOCK.SETUP_LOCK

/-- The W1C bits of a register. -/
def w1cMask (fs : List FieldSpec) : Nat :=
  fs.foldr (fun f m => if f.acc = .w1c then m ||| ((2 ^ (f.hi + 1 - f.lo) - 1) * 2 ^ f.lo) else m) 0

/-- A written word without the bits that would clear a W1C bit which the device sets in this cycle (R449). -/
def sparing (s : State) (r : Reg) (v : Nat) : Nat :=
  v &&& (2 ^ 32 - 1 - (Sparse.get 0 (meetNow s).raised r.key &&& w1cMask r.fields))

/-- A write of a register whose values are admitted: its fields act, and a setup-lock violation is logged (R457). -/
def writeFields (s : State) (r : Reg) (v : Nat) : State :=
  let old := (rd s r).toNat
  let s' := wr s r (BitVec.ofNat 32 (fieldWrite (locked s) r.fields old (sparing s r v)))
  if locked s = true ∧ violates r.fields old v = true then writeLog s' 0 (blkOfOffset r.key) 0x02 0 r.key else s'

end Sys2Proof.Machine
end

