-- ==== Sys2Proof/Machine/Flash.lean ====
section
/-! DEFINITION. The flash areas and the images in them (R399, R400). -/

namespace Sys2Proof.Machine

def flashByte (f : Sparse Byte) (a : Nat) : Byte := Sparse.get 0xFF f a
def flashRead (f : Sparse Byte) (a n : Nat) : List Byte := (List.range n).map (fun i => flashByte f (a + i))
def flashNum (f : Sparse Byte) (a n : Nat) : Nat := ofBytes (flashRead f a n)

/-- Bytes programmed from an offset on, after an erase of what they cover. -/
def flashWrite (f : Sparse Byte) (a : Nat) (bs : List Byte) : Sparse Byte :=
  match bs with
  | [] => f
  | b :: rest => flashWrite (Sparse.set 0xFF f a b) (a + 1) rest

/-- An area is erased and programmed from this moment on. -/
def noteFlash (dev base size len : Nat) (s : State) : State := { s with flash := { s.flash with last := some { dev := dev, base := base, size := size, len := len, began := now s } } }

/-- Nothing in flash is under way. -/
def flashDone (s : State) : State := { s with flash := { s.flash with last := none } }

/-- An area of flash whose erase was abandoned holds open bytes; else the bytes from `k` on have not been programmed. -/
def cutArea (f : Sparse Byte) (o : FlashOp) (k : Option Nat) (n : Nat) : Sparse Byte :=
  match k with
  | some k => Sparse.clear f (o.base + k) (o.base + o.size)
  | none => flashWrite (Sparse.clear f o.base (o.base + o.size)) o.base ((List.range o.size).map (fun i => Config.freeByte (n + i)))

/-- A power-down meets what is under way in flash: a page program runs to its end and nothing follows it, an erase is abandoned (R382).
How long an operation takes and how far it has come is open; a store copy that is not complete is invalid (R413). -/
def flashCut (s : State) : State :=
  match s.flash.last with
  | none => s
  | some o =>
    let s' := flashDone { s with free := s.free + 2 + o.size }
    let k := Config.freeNat (s.free + 1) % (o.len + 2)
    if Config.freeNat s.free ≤ now s - o.began then s'
    else
      let part := if k = 0 then none else some (k - 1)
      match o.dev with
      | 0 => { s' with flash := { s'.flash with a := cutArea s.flash.a o part (s.free + 2) } }
      | 1 => { s' with flash := { s'.flash with b := cutArea s.flash.b o part (s.free + 2) } }
      | 2 => if k = o.len + 1 then s' else { s' with boot := { s'.boot with store0 := [] } }
      | _ => if k = o.len + 1 then s' else { s' with boot := { s'.boot with store1 := [] } }

/-- Offsets and sizes of Table 16.1. -/
def SLOT_OFS : Nat := 0
def SLOT_SIZE : Nat := 0x400000
def FW_OFS : Nat := 0x400000
def FW_SIZE : Nat := 0x1800000
def BLOB_OFS : Nat := 0x1C00000
def BLOB_SIZE : Nat := 0x800000
def STORE_OFS : Nat := 0x2400000
def IDENT_OFS : Nat := 0x2410000
def CHUNK_OFS : Nat := 0x2800000

/-- Where the trailer of the image in an area begins: the first offset that holds MAGIC and its own distance from the area's
start as BODY_LEN (Table 16.2).  Only programmed bytes can hold MAGIC. -/
def trailerAt (f : Sparse Byte) (base size : Nat) : Option Nat :=
  ((f.map (·.1)).filter (fun a => decide (base ≤ a ∧ a + 212 ≤ base + size))).find? (fun a =>
    decide (flashNum f a 4 = 0x47494D4C ∧ flashNum f (a + 12) 4 = a - base))

/-- The setup blob's body in the active area of flash A. -/
def activeBlob (s : State) : BlobBody :=
  match trailerAt s.flash.a BLOB_OFS BLOB_SIZE with
  | some t => Config.parseBlob (flashRead s.flash.a BLOB_OFS (t - BLOB_OFS))
  | none => Config.parseBlob []

end Sys2Proof.Machine
end

