-- ==== Sys2Proof/Machine/Operands.lean ====
section
/-! DEFINITION. Operand forms: the descriptor header and its checks (R90 to R93), addresses (R91), mailbox messages
(R71), batch commands (R73) and command-stream words. -/

namespace Sys2Proof.Machine

/-! ### Descriptor header (Table 4.5) -/

def dOpcode (d : Desc) : Nat := u8 d 0
def dFlags (d : Desc) : Nat := u8 d 1
def dInstance (d : Desc) : Nat := u16 d 2
def dGen (d : Desc) : Nat := u16 d 4
def dPasid (d : Desc) : Nat := u8 d 6
def dSeq (d : Desc) : Nat := u32 d 8
def dLen (d : Desc) : Nat := u32 d 12
def dNotBefore (d : Desc) : Nat := u64 d 16

def OP_NOP : Nat := 0x01
def OP_TIMESTAMP : Nat := 0x02
def OP_WAIT_VALUE : Nat := 0x03
def OP_WRITE_VALUE : Nat := 0x04
def OP_CS_SUBMIT : Nat := 0x10
def OP_GROW : Nat := 0x11
def OP_FLIP : Nat := 0x20
def OP_WB_CAPTURE : Nat := 0x21
def OP_VALUE_POST : Nat := 0x30
def OP_AUDIO_BUFFER : Nat := 0x40
def OP_HAPTIC_PLAY : Nat := 0x50
def OP_COPY : Nat := 0x60

/-- The engine of an opcode that serves one engine only (Table 4.6, Table 4.13). -/
def engineOf (op : Nat) : Option Nat :=
  if op = OP_CS_SUBMIT ∨ op = OP_GROW then some 0
  else if op = OP_FLIP ∨ op = OP_WB_CAPTURE then some 1
  else if op = OP_VALUE_POST then some 2
  else if op = OP_AUDIO_BUFFER then some 3
  else if op = OP_HAPTIC_PLAY then some 4
  else if op = OP_COPY then some 5 else none

/-- Opcodes of Table 4.6 that are not reserved. -/
def knownOp (op : Nat) : Bool :=
  [OP_NOP, OP_TIMESTAMP, OP_WAIT_VALUE, OP_WRITE_VALUE, OP_CS_SUBMIT, OP_GROW, OP_FLIP, OP_WB_CAPTURE, OP_VALUE_POST,
   OP_AUDIO_BUFFER, OP_HAPTIC_PLAY, OP_COPY].contains op

/-- Opcodes whose LEN counts external data (Table 4.6). -/
def lenCounts (op : Nat) : Bool := [OP_CS_SUBMIT, OP_WB_CAPTURE, OP_AUDIO_BUFFER, OP_COPY].contains op

/-- The payload bytes an opcode's layout uses, as (offset, size) (Table 4.7). -/
def payloadUsed (op : Nat) : List (Nat × Nat) :=
  if op = OP_TIMESTAMP then [(32, 8)]
  else if op = OP_WAIT_VALUE then [(24, 4), (32, 8), (40, 8)]
  else if op = OP_WRITE_VALUE then [(32, 8), (40, 8)]
  else if op = OP_CS_SUBMIT then [(24, 2), (32, 8)]
  else if op = OP_GROW then [(24, 2), (26, 1), (32, 16)]
  else if op = OP_FLIP then [(24, 1), (28, 4), (32, 8), (40, 8), (48, 8)]
  else if op = OP_WB_CAPTURE then [(24, 1), (28, 4), (32, 8), (40, 4)]
  else if op = OP_VALUE_POST then [(24, 2), (26, 1), (32, 8), (40, 8)]
  else if op = OP_AUDIO_BUFFER then [(24, 1), (32, 8)]
  else if op = OP_HAPTIC_PLAY then [(24, 1), (25, 1), (26, 1), (27, 1)]
  else if op = OP_COPY then [(32, 8), (40, 8)]
  else []

/-- Every payload byte outside the layout is 0 (R13, R93). -/
def reservedClear (d : Desc) : Bool :=
  (List.range 40).all (fun i => (payloadUsed (dOpcode d)).any (fun p => decide (p.1 ≤ i + 24 ∧ i + 24 < p.1 + p.2))
    || decide (u8 d (i + 24) = 0))

/-- The header form check of R92: INSTANCE, PASID_IDX, reserved bits, LEN and the ring's engine. -/
def headerForm (s : State) (fn engine : Nat) (d : Desc) : Bool :=
  decide (dInstance d = fn) && decide (dFlags d < 4) && decide (u8 d 7 = 0)
  && (if fn = 0 then decide (dPasid d = 0) else decide (dPasid d < rdF s (INST_PASIDS.COUNT fn)))
  && (match engineOf (dOpcode d) with | none => true | some e => decide (e = engine))
  && (lenCounts (dOpcode d) || decide (dLen d = 0)) && reservedClear d

/-! ### Addresses (R91) -/

/-- The address names host space. -/
def hostSpace (a : Nat) : Bool := bit a 63
/-- The host address without its space bit. -/
def hostAddr (a : Nat) : Nat := a % 2 ^ 63

/-- A device address of a descriptor of instance `fn` reaches `len` bytes; a host address always does. -/
def addrReach (s : State) (fn a len : Nat) : Bool := hostSpace a || reaches s fn a len

/-- The PASID that a descriptor's host accesses carry; none for I0 (R91). -/
def pasidOf (s : State) (fn : Nat) (d : Desc) : Option Nat :=
  if fn = 0 then none else some (rdF s (HOST_PASID.PASID (fn - 1) (dPasid d)))

/-- Bytes written at a payload address: to device memory, or by DMA to the host. -/
def writeAddr (s : State) (fn : Nat) (d : Desc) (a : Nat) (bs : List Byte) : State :=
  if hostSpace a then send s (.dma fn (pasidOf s fn d) (hostAddr a) bs) else writeMem s a bs

/-- Bytes written for instance `fn` by work under way: an access that its slice no longer holds is an MMU fault, and is discarded
(R366, R368). -/
def writeFor (fn a : Nat) (bs : List Byte) (s : State) : State :=
  if reaches s fn a bs.length then writeMem s a bs else incF s MEM_MMU_FAULT.COUNT

/-! ### Tenant messages (Table 3.9) -/

def mType (p : Page) : Nat := u16 p 0
def mLength (p : Page) : Nat := u16 p 2
def mGen (p : Page) : Nat := u16 p 4
def mSeq (p : Page) : Nat := u16 p 6

/-- A REPLY that the device writes itself (R72): no payload. -/
def deviceReply (gen seq status : Nat) : Page :=
  BitVec.ofNat 2048 (at16 0 0x8000 + at16 2 0 + at16 4 gen + at16 6 seq + at8 8 status)

/-! ### Manager commands (Table 3.12) -/

def cOpcode (c : Rec32) : Nat := u8 c 0
def cInstance (c : Rec32) : Nat := u16 c 2
def cGen (c : Rec32) : Nat := u16 c 4
def cArgs (c : Rec32) : Nat := bytesAt c 6 10
def cTag (c : Rec32) : Nat := u64 c 24

/-- A command result (Table 3.12). -/
def commandResult (c : Rec32) (status gen jseq accepted : Nat) : Rec32 :=
  BitVec.ofNat 256 (at8 0 (cOpcode c) + at8 1 status + at16 2 (cInstance c) + at16 4 gen + at32 8 jseq
    + at64 16 accepted + at64 24 (cTag c))

end Sys2Proof.Machine
end

