-- ==== Sys2Proof/Machine/Fault.lean ====
section
/-! DEFINITION. Fault reports to Shallot: class and count, log entry and event, the safe-state latch, and the retirement that
a fault's reaction ends with (R285 to R289, R292, R298, Tables 11.3 to 11.6). -/

namespace Sys2Proof.Machine

/-- Retirement unit kinds (Table 11.5), and the two units that are counted only (R287). -/
def U_HEAD : Nat := 1
def U_PIPE : Nat := 2
def U_CLUSTER : Nat := 3
def U_PAGE : Nat := 4
def U_TDM : Nat := 5
def U_HAPTIC : Nat := 6
def U_TOUCH : Nat := 7
def U_CORES : Nat := 0x10
def U_CHANNEL : Nat := 0x11

def isRetired (s : State) (kind unit : Nat) : Bool := s.shl.retired.contains (kind, unit)

/-- The unit was retired at the DTIME of the event at hand. -/
def retiredNow (s : State) (kind unit : Nat) : Bool := s.shl.retiredAt.contains (kind, unit, now s)

/-- The BLOCK of a fault's log entries (R298). -/
def faultBlk (id : Nat) : Blk :=
  if id ≤ 4 ∨ id = 0x0A then .shl else if id = 5 then .clk else if id = 6 then .time else if id = 7 then .pwr
  else if id = 8 ∨ id = 9 ∨ (0x10 ≤ id ∧ id ≤ 0x12) then .mem else if id = 0x0B then .rnd else if id = 0x0C then .lyr
  else if id = 0x0D ∨ id = 0x0E then .hd else if id = 0x0F then .art else if id = 0x13 then .aud
  else if id = 0x14 then .hap else .tch

/-- The BLOCK of a unit kind's UNRETIRED entry (R298). -/
def kindBlk (kind : Nat) : Blk :=
  if kind = 1 then .hd else if kind = 2 then .lyr else if kind = 3 then .rnd else if kind = 4 then .mem
  else if kind = 5 then .aud else if kind = 6 then .hap else .tch

/-- A fault as its source reports it: ID, unit (Table 11.5), instance concerned (0: none), row detail and class of its row
(0 none, 1 transient, 2 permanent, 3 safe state), and whether its row counts it (R285, R287). -/
structure FaultRep where
  id : Nat
  kind : Nat := 0
  unit : Nat := 0
  inst : Nat := 0
  detail : Nat := 0
  cls : Nat := 1
  counted : Bool := true
  /-- What the event's and the log entry's UNIT hold where it is not the unit: head and region (Table 11.6). -/
  sub : Option Nat := none
deriving DecidableEq, Repr

/-- Stamps of earlier transient faults of the unit in the window of R287. -/
def recentFaults (s : State) (kind unit : Nat) : List Nat :=
  (Sparse.get [] s.shl.faults (kind * 16777216 + unit)).filter (fun x => decide (now s ≤ x + 10000000000))

/-- The unit index that log entry and event headers carry: a page has its number elsewhere (Table 11.6). -/
def unitField (f : FaultRep) : Nat := if f.kind = U_PAGE then 0 else f.sub.getD f.unit

/-- The KIND byte: 0 where the fault has no retirement unit (Table 11.6). -/
def kindField (kind : Nat) : Nat := if kind ≤ 7 then kind else 0

/-- The FAULT log entry (Table 11.8), with its CONTINUATION for a DRAM page. -/
def faultLog (f : FaultRep) (cls count : Nat) (s : State) : State :=
  writeLog s cls (faultBlk f.id) 0x03 (unitField f) (f.id + count * 256 + f.detail * 65536)
    (if f.kind = U_PAGE then some f.unit else none)

/-- The status that affected work is given (Table 11.6). -/
def faultStatus (cls : Nat) : Nat :=
  if cls = 1 then ST_FAULT_TRANSIENT else if cls = 2 then ST_FAULT_PERMANENT else ST_SAFE_STATE

/-- The FAULT events to the manager and to the instance concerned (Table 11.6). -/
def faultEvents (f : FaultRep) (cls count : Nat) (s : State) : State :=
  let p := at8 0 f.id + at8 1 cls + at8 2 count + at8 3 (faultStatus cls) + at16 4 f.detail + at8 6 (kindField f.kind)
    + at32 8 (if f.kind = U_PAGE then f.unit else 0)
  let s := postEvent s 0 EV_FAULT f.inst (unitField f) p
  if f.inst = 0 then s else postEvent s f.inst EV_FAULT f.inst (unitField f) p

/-- The safe-state latch is set, with its cause and its log entry (R292). -/
def enterSafe (id : Nat) (s : State) : State :=
  if flag s SHL_STATUS.SAFE then s
  else
    let s := wrF (wrB s SHL_STATUS.SAFE true) SHL_STATUS.SAFE_CAUSE id
    writeLog s 3 (faultBlk id) 0x08 0 id

/-- The device is in safe state. -/
def safe (s : State) : Bool := flag s SHL_STATUS.SAFE

/-- Retirement units of Table 11.5. -/
def retirable (kind : Nat) : Bool := decide (1 ≤ kind ∧ kind ≤ 7)

/-- The class a fault counts with, and its COUNT: the third transient fault of a retirement unit within 10 s counts as
permanent, the third of the control cores enters safe state (R287, Table 11.3). -/
def faultClass (s : State) (f : FaultRep) : Nat × Nat :=
  if f.cls = 1 ∧ f.counted = true then
    let n := (recentFaults s f.kind f.unit).length + 1
    (if n < 3 then 1 else if retirable f.kind then 2 else if f.kind = U_CORES then 3 else 1, min n 3)
  else (f.cls, 0)

/-- The fault is counted against its unit (R287). -/
def countFault (f : FaultRep) (s : State) : State :=
  if f.cls ≠ 1 then s
  else
    let s := incF s SHL_TRANSIENT_TOTAL.COUNT
    if f.counted then
      let l := now s :: recentFaults s f.kind f.unit
      { s with shl := { s.shl with faults := Sparse.set [] s.shl.faults (f.kind * 16777216 + f.unit) l } }
    else s

/-- The retirement of the unit is left due at the end of the fault's reaction (R289). -/
def leaveDue (f : FaultRep) (count : Nat) (s : State) : State :=
  { s with shl := { s.shl with due := s.shl.due ++ [{ kind := f.kind, unit := f.unit, faultId := f.id, detail := f.detail, stamp := now s, inst := f.inst, sub := f.sub, count := count }] } }

/-- A retirement of the unit is due. -/
def retireIsDue (s : State) (kind unit : Nat) : Bool := s.shl.due.any (fun d => decide (d.kind = kind ∧ d.unit = unit))

/-- The unit's retirement meets the event at hand (R76, R289). -/
def retireMeets (s : State) (kind unit : Nat) : Bool :=
  retiredNow s kind unit || (retireIsDue s kind unit && s.pending.contains (.unitRetire (now s) kind unit))

/-- A fault of the unit under self-test fails the test (R291). -/
def failTest (f : FaultRep) (s : State) : State :=
  if s.shl.selfTest = some (f.kind, f.unit) then { s with shl := { s.shl with testFailed := true } } else s

/-- A fault is reported: on a unit retired before only its log entry; of class none only an information entry; else counted, logged
and sent as an event, with the safe state it calls for.  Where it retires its unit, the event goes out with the retirement
its reaction ends with (R285 to R289, worked example 11.1). -/
def reportFault (f : FaultRep) (s : State) : State :=
  let s := failTest f s
  if f.kind ≠ 0 ∧ isRetired s f.kind f.unit = true ∧ retiredNow s f.kind f.unit = false then faultLog f f.cls 0 s
  else if f.cls = 0 then faultLog f 0 0 s
  else
    let c := faultClass s f
    let s := faultLog f c.1 c.2 (countFault f s)
    if c.1 = 2 ∧ retirable f.kind = true ∧ retireIsDue s f.kind f.unit = false then leaveDue f c.2 s
    else
      let s := faultEvents f c.1 c.2 s
      if c.1 = 3 then enterSafe f.id s
      else if f.kind = U_CHANNEL ∧ c.2 = 3 then
        enterSafe 8 (faultEvents { id := 8 } 3 0 (faultLog { id := 8 } 3 0 s))
      else s

/-- A fault of a unit to which its block no longer reacts: where the unit is retired, its log entry, and the failure of a self-test of it
(R288, R291). -/
def reportIdle (f : FaultRep) (s : State) : State := if isRetired s f.kind f.unit then reportFault f s else s

/-- Whether the fault, reported now, would count as permanent (R287). -/
def isPermanent (s : State) (f : FaultRep) : Bool := decide ((faultClass s f).1 = 2)

end Sys2Proof.Machine
end

