-- ==== Sys2Proof/Machine/Display.lean ====
section
/-! DEFINITION. What the display engine's parts share: shadowed registers and their active values, the raster, frame
indices and stamps, HEAD events, and the state of heads, pipes, groups and fields (R19, R205 to R209, R222, R235). -/

namespace Sys2Proof.Machine

def getPipe (s : State) (p : Nat) : Pipe := Sparse.get {} s.dsp.pipes p
def setPipe (s : State) (p : Nat) (x : Pipe) : State := { s with dsp := { s.dsp with pipes := Sparse.set {} s.dsp.pipes p x } }
def getHead (s : State) (h : Nat) : Head := Sparse.get {} s.dsp.heads h
def setHead (s : State) (h : Nat) (x : Head) : State := { s with dsp := { s.dsp with heads := Sparse.set {} s.dsp.heads h x } }
def getGroup (s : State) (g : Nat) : Group := Sparse.get {} s.dsp.groups g
def setGroup (s : State) (g : Nat) (x : Group) : State := { s with dsp := { s.dsp with groups := Sparse.set {} s.dsp.groups g x } }
def getField (s : State) (f : Nat) : Field := Sparse.get {} s.val.fields f
def setField (s : State) (f : Nat) (x : Field) : State := { s with val := { s.val with fields := Sparse.set {} s.val.fields f x } }

/-- The genlock group of a head, and the heads of a group. -/
def groupOf (h : Nat) : Nat := h / 4
def headsOf (g : Nat) : List Nat := (List.range 4).map (· + 4 * g)

/-! ### Active values (R222) -/

/-- A map of active values: the one in force, or a view of R226. -/
abbrev View := Sparse Word

def View.reg (v : View) (r : Reg) : Word := Sparse.get r.reset v r.key
def View.fld (v : View) (f : Fld) : Nat := bitsOf (v.reg f.reg).toNat f.hi f.lo
def View.flag (v : View) (f : Fld) : Bool := decide (v.fld f = 1)
def View.put (v : View) (r : Reg) (x : Word) : View := Sparse.set r.reset v r.key x

/-- The active value of a field, and a register made active. -/
def aF (s : State) (f : Fld) : Nat := View.fld s.dsp.active f
def aFlag (s : State) (f : Fld) : Bool := View.flag s.dsp.active f
def setActive (s : State) (v : View) : State := { s with dsp := { s.dsp with active := v } }

/-- The shadow registers of a head and of a pipe (R174, R222). -/
def headShadow (h : Nat) : List Reg := [.HD_CTRL h, .HD_HTIM h, .HD_HSYNC h, .HD_VTIM h, .HD_VSYNC h, .HD_BG h, .HD_OUT h, .HD_LINK h]
def pipeShadow (p : Nat) : List Reg :=
  [.LYR_HEAD p, .LYR_FMT p, .LYR_SRC p, .LYR_PITCH p, .LYR_CROP_XY p, .LYR_CROP_WH p, .LYR_DST_XY p, .LYR_DST_WH p, .LYR_RP p]
  ++ (if p < 48 then [.LYR_COEF_SEL p] else [])

/-! ### The raster (R205 to R209) -/

/-- HDn_STATUS.STATE (Table 8.8). -/
def OFF : Nat := 0
def TRANSITION : Nat := 1
def RUN : Nat := 2
def LINK_FAIL : Nat := 3
def LINK_LOST : Nat := 4

def headState (s : State) (h : Nat) : Nat := rdF s (HD_STATUS.STATE h)

/-- The head whose timing and output registers a head uses: the even head of a pair (R214). -/
def View.lead (v : View) (h : Nat) : Nat := if h % 2 = 1 ∧ v.flag (HD_CTRL.PAIR (h - 1)) = true then h - 1 else h

def pdiv (v : View) (h : Nat) : Nat := 2 ^ v.fld (HD_CTRL.PDIV (v.lead h))
def htotal (v : View) (h : Nat) : Nat := v.fld (HD_HTIM.HTOTAL (v.lead h))
def hact (v : View) (h : Nat) : Nat := v.fld (HD_HTIM.HACT (v.lead h))
def vtotal (v : View) (h : Nat) : Nat := v.fld (HD_VTIM.VTOTAL (v.lead h))
def vact (v : View) (h : Nat) : Nat := v.fld (HD_VTIM.VACT (v.lead h))

/-- PLL cycles of a frame: HTOTAL × VTOTAL × PDIV (R207). -/
def frameCycles (v : View) (h : Nat) : Nat := htotal v h * vtotal v h * pdiv v h

/-- `n` cycles of F_g in ns, rounded down: F_g = 4,915.2 MHz × FRAC / 2^32 (R207). -/
def cyclesNs (frac n : Nat) : Nat := n * 2 ^ 32 * 625 / (3072 * frac)

def headOn (v : View) (h : Nat) : Bool := v.flag (HD_CTRL.ENABLE h)

/-- The head whose timing the group's generator uses: any enabled one, else the lowest-numbered (R209). -/
def timingHead (v : View) (g : Nat) : Nat := ((headsOf g).find? (headOn v)).getD (4 * g)

/-- The frame period of a group in ns, from its active timing (R207, R209). -/
def framePeriod (s : State) (g : Nat) : Nat :=
  let v : View := s.dsp.active
  cyclesNs (v.fld (HDG_PLL.FRAC g)) (frameCycles v (timingHead v g))

/-- `ns` nanoseconds are at least one line time of a head, exactly (R207). -/
def lineElapsed (s : State) (h ns : Nat) : Bool :=
  let v : View := s.dsp.active
  decide (htotal v h * pdiv v h * 2 ^ 32 * 625 ≤ ns * (3072 * v.fld (HDG_PLL.FRAC (groupOf h))))

/-- The frame counter of a group, which is the frame index of its heads (R208). -/
def frameOf (s : State) (g : Nat) : Nat := rd64 s (.HDG_FRAME_LO g) (.HDG_FRAME_HI g)

/-- The head shows the transition pattern in this frame, in whole or from a line on (R165, R232, Table 11.3). -/
def showsPattern (s : State) (h : Nat) : Bool :=
  let x := getHead s h
  decide (headState s h = TRANSITION) || x.patternNow || x.patternFrom.isSome

/-- S of a head: the next commit point; a head that is disabled or shows the transition pattern has none (R165). -/
def headS (s : State) (h : Nat) : Option Nat :=
  if headState s h = OFF ∨ showsPattern s h = true then none
  else some ((getGroup s (groupOf h)).lineZero + framePeriod s (groupOf h))

/-- The heads whose stream a head's port carries: its own and, for a pair, the odd one's (R214). -/
def portHeads (s : State) (h : Nat) : List Nat := if h % 2 = 0 ∧ aFlag s (HD_CTRL.PAIR h) = true then [h, h + 1] else [h]

/-- The port carries no link and ignores its hot-plug input (R214). -/
def portIdle (s : State) (h : Nat) : Bool := decide (h % 2 = 1 ∧ aFlag s (HD_CTRL.PAIR (h - 1)) = true)

/-! ### HEAD events (R235) -/

/-- A HEAD event (Table 8.7). -/
def headEvent (s : State) (kind unit status cgroup state frame reason : Nat) : State :=
  postEvent s 0 EV_HEAD 0 unit (at8 0 kind + at8 1 status + at8 2 cgroup + at8 3 state + at32 4 frame + at8 8 reason)

/-- A HEAD event about head `h` as it stands. -/
def headEventOf (s : State) (kind h status cgroup : Nat) : State :=
  headEvent s kind h status cgroup (headState s h) (frameOf s (groupOf h)) (rdF s (HD_STATUS.FAIL_REASON h))

/-- A head changes state; a change is logged (Table 11.8). -/
def setHeadState (s : State) (h st : Nat) : State :=
  let old := headState s h
  let s := wrF s (HD_STATUS.STATE h) st
  if old = st then s else logState s .hd 3 h old st

/-- The link of a head's port carries no configuration. -/
def clearLink (h : Nat) (s : State) : State := wrF (wrF (wrB s (HD_STATUS.DSC_ACTIVE h) false) (HD_STATUS.LANES h) 0) (HD_STATUS.RATE h) 0

/-! ### Pipes -/

/-- The active head of an enabled pipe. -/
def View.pipeHead (v : View) (p : Nat) : Option Nat := if v.flag (LYR_HEAD.ENABLE p) then some (v.fld (LYR_HEAD.HEAD p)) else none

/-- The enabled pipes of a head, from the bottom: ascending Z, then index (R173). -/
def pipesOf (v : View) (h : Nat) : List Nat :=
  let ps := (List.range 96).filter (fun p => v.pipeHead p = some h)
  (List.range 16).flatMap (fun z => ps.filter (fun p => v.fld (LYR_HEAD.Z p) = z))

/-- The shape fields of the shadow registers and of a view (R174). -/
def shapeBits (fmt : Nat) : Nat := bitsOf fmt 15 14 * 16384 + bitsOf fmt 7 0
def shadowShape (s : State) (p : Nat) : Shape := { fmt := shapeBits (rd s (.LYR_FMT p)).toNat, src := rd s (.LYR_SRC p), pitch := rd s (.LYR_PITCH p) }
def View.shape (v : View) (p : Nat) : Shape := { fmt := shapeBits (v.reg (.LYR_FMT p)).toNat, src := v.reg (.LYR_SRC p), pitch := v.reg (.LYR_PITCH p) }

/-- The shape a pipe will have once its next flip commits (R176). -/
def nextShape (s : State) (p : Nat) : Shape := (getPipe s p).waiting.getD (View.shape s.dsp.active p)

def Shape.format (x : Shape) : Nat := x.fmt % 256
def Shape.siteH (x : Shape) : Nat := bitsOf x.fmt 15 15
def Shape.siteV (x : Shape) : Nat := bitsOf x.fmt 14 14
def Shape.w (x : Shape) : Nat := x.src.toNat % 65536
def Shape.h (x : Shape) : Nat := x.src.toNat / 65536
def Shape.pitch0 (x : Shape) : Nat := x.pitch.toNat % 65536 * 256
def Shape.pitch1 (x : Shape) : Nat := x.pitch.toNat / 65536 * 256

/-- YCbCr formats, two-plane formats and 4:2:0 formats (Table 7.2). -/
def isYcc (f : Nat) : Bool := decide (0x20 ≤ f)
def twoPlanes (f : Nat) : Bool := decide (0x21 ≤ f)
def is420 (f : Nat) : Bool := decide (f = 0x21 ∨ f = 0x23)

/-- Bytes per pixel of plane 0, and per chroma sample of plane 1 (Table 7.2). -/
def bpp0 (f : Nat) : Nat := if f = 1 ∨ f = 0x21 ∨ f = 0x22 then 1 else if f = 9 then 8 else if f = 0x20 ∨ f = 0x23 ∨ f = 0x24 then 2 else 4
def bpp1 (f : Nat) : Nat := if f = 0x21 ∨ f = 0x22 then 2 else if twoPlanes f then 4 else 0

/-- Width and height of the chroma plane (Table 7.2). -/
def chromaW (x : Shape) : Nat := ceilDiv x.w 2
def chromaH (x : Shape) : Nat := if is420 x.format then ceilDiv x.h 2 else x.h

/-- The planes of a flip lie inside the slice: PITCH × rows of each plane (R176). -/
def planesInside (s : State) (fn : Nat) (x : Shape) (surf0 surf1 : Nat) : Bool :=
  reaches s fn surf0 (x.pitch0 * x.h) && (!(twoPlanes x.format) || reaches s fn surf1 (x.pitch1 * chromaH x))

/-! ### Retirement (R289, R290) -/

def headRetired (s : State) (h : Nat) : Bool := isRetired s U_HEAD h
def pipeRetired (s : State) (p : Nat) : Bool := isRetired s U_PIPE p

/-! ### Field descriptors (Table 9.2) -/

def fdEnable (d : Rec32) : Bool := bit (u8 d 0) 0
def fdKind (d : Rec32) : Bool := bit (u8 d 0) 1
def fdPlus (d : Rec32) : Bool := bit (u8 d 0) 2
def fdZero (d : Rec32) : Bool := bit (u8 d 0) 3
def fdOpaque (d : Rec32) : Bool := bit (u8 d 0) 4
def fdClass (d : Rec32) : Nat := u8 d 1
def fdHead (d : Rec32) : Nat := u8 d 2
def fdFont (d : Rec32) : Nat := u8 d 3
def fdX (d : Rec32) : Int := signed 16 (u16 d 4)
def fdY (d : Rec32) : Int := signed 16 (u16 d 6)
def fdCells (d : Rec32) : Nat := u8 d 8
def fdDec (d : Rec32) : Nat := u8 d 9
def fdScale (d : Rec32) : Nat := u8 d 10
def fdTable (d : Rec32) : Nat := u8 d 11
def fdFg (d : Rec32) : Nat := u32 d 12
def fdBg (d : Rec32) : Nat := u32 d 16
def fdQ (d : Rec32) : Nat := u32 d 20

/-- The copy of the fonts of index `k`, and the cell size of a font in it. -/
def fontCopy (s : State) (k : Nat) : FontCopy := if k = 0 then s.val.copyA else s.val.copyB
def cellSize (c : FontCopy) (font : Nat) : Nat × Nat := c.sizes.getD font (8, 16)

/-- A field's rectangle clipped to an active area of `w` by `h`: left, top, right and bottom, exclusive; `none` when it lies
wholly outside (R244). -/
def fieldRect (c : FontCopy) (d : Rec32) (w h : Nat) : Option (Nat × Nat × Nat × Nat) :=
  let (cw, ch) := cellSize c (fdFont d)
  let x0 := max 0 (fdX d)
  let y0 := max 0 (fdY d)
  let x1 := min (w : Int) (fdX d + ((fdCells d + 1) * cw : Nat))
  let y1 := min (h : Int) (fdY d + (ch : Nat))
  if x0 < x1 ∧ y0 < y1 then some (x0.toNat, y0.toNat, x1.toNat, y1.toNat) else none

/-- The enabled fields of a head in a set of descriptors, in ascending field number (R244). -/
def fieldsOf (s : State) (h : Nat) : List (Nat × Rec32) :=
  (s.val.fields.filter (fun p => fdEnable p.2.active && decide (fdHead p.2.active = h))).map (fun p => (p.1, p.2.active))

end Sys2Proof.Machine
end

