-- ==== Sys2Proof/Machine/Channels.lean ====
section
/-! DEFINITION. The memory channels: hashing, the order of service, refresh, retraining and self-refresh (R351 to R358, R370 to
R375). -/

namespace Sys2Proof.Machine

def getChannel (s : State) (c : Nat) : MemChannel := Sparse.get {} s.mem.channels c
def setChannel (s : State) (c : Nat) (x : MemChannel) : State :=
  { s with mem := { s.mem with channels := Sparse.set {} s.mem.channels c x } }

/-- MEM_CHc_STATUS.STATE (Table 14.9). -/
def CH_TRAINING : Nat := 0
def CH_ACTIVE : Nat := 1
def CH_PAUSED : Nat := 2
def CH_SELF_REFRESH : Nat := 3
def CH_FAILED : Nat := 4

def memState (s : State) (c : Nat) : Nat := rdF s (MEM_CH_STATUS.STATE c)

/-- The channel is in a pause, in which it serves nothing (R372). -/
def paused (s : State) (c : Nat) : Bool := decide ((getChannel s c).pauseFrom ≤ now s ∧ now s < (getChannel s c).pauseTo)

/-- Every channel is active, or pauses unforced: no pipe runs out of data then (R456). -/
def memHealthy (s : State) : Bool :=
  (List.range 4).all (fun c => decide (memState s c = CH_ACTIVE) && !(getChannel s c).forced && !(getChannel s c).pauseForced)

/-! ### Hashing (R353, R354) -/

/-- Parity of the bits of an address that a mask names. -/
def parity (a mask : Nat) : Bool := decide (popCount 35 (a &&& mask) % 2 = 1)

def hashMask (s : State) (k : Nat) : Nat := rdF s (MEM_HASH_LO.MASK_LO k) + 2 ^ 32 * rdF s (MEM_HASH_HI.MASK_HI k)

/-- Physical addresses from here up are not hashed. -/
def UNHASHED : Nat := 0x7FFC00000

/-- The unhashed bit of function k. -/
def hashBit (k : Nat) : Nat := if k < 2 then 8 + k else 13 + k

/-- OUT_k at an address. -/
def hashOut (s : State) (a k : Nat) : Bool := if UNHASHED ≤ a then bit a (hashBit k) else parity a (hashMask s k)

def channelAt (s : State) (a : Nat) : Nat := (if hashOut s a 0 then 1 else 0) + (if hashOut s a 1 then 2 else 0)

def bankAt (s : State) (a : Nat) : Nat :=
  (List.range 4).foldl (fun v i => if hashOut s a (2 + i) then v + 2 ^ i else v) 0

def rowAt (a : Nat) : Nat := bitsOf a 34 19

/-- A set of masks that R354 admits: each holds its own unhashed bit, none of the other five, and else only bits of COLUMN and
ROW. -/
def maskOk (k m : Nat) : Bool :=
  bit m (hashBit k) && (List.range 64).all (fun b => !(bit m b) || decide (b = hashBit k ∨ (10 ≤ b ∧ b ≤ 14) ∨ (19 ≤ b ∧ b ≤ 34)))

/-! ### Order of service (R356, R357) -/

/-- The class of a request by its traffic (Table 14.4). -/
def trafficClass : Traffic → Nat
  | .scanout | .plate | .recordRead => 0
  | .writeback | .audio | .shallot | .recordWrite | .retirementCopy => 1
  | .render p => if p = 0 then 2 else if p < 3 then 3 else 4
  | .copy | .ingest | .journal => 3
  | .zeroFill | .patrol => 5

/-- The place of a request in the order of service, twice its class; a zero-fill comes between classes 1 and 2 (R356, R369). -/
def rank (r : MemReq) : Nat := if r.fill then 3 else 2 * r.cls

/-- The rank of a request: its own, or that of a younger request to its block that must wait for it (R357). -/
def effClass (q : List MemReq) (r : MemReq) : Nat :=
  (q.filter (fun x => decide (x.block = r.block ∧ r.seq ≤ x.seq))).foldl (fun c x => min c (rank x)) (rank r)

/-- No older request to the block waits. -/
def firstOfBlock (q : List MemReq) (r : MemReq) : Bool := !(q.any (fun x => decide (x.block = r.block ∧ x.seq < r.seq)))

def oldestReq (l : List MemReq) : Option MemReq :=
  l.foldl (fun b r => match b with | none => some r | some x => if r.seq < x.seq then some r else some x) none

/-- The request that bank `b` serves next: the winning class by age, but a hit of the open row before older ones up to 8 times in
a row; with the bank's row and count of such hits afterwards. -/
def pickBank (s : State) (q : List MemReq) (rows : Sparse (Nat × Nat)) (b : Nat) : Option (MemReq × Nat × Nat) :=
  let mine := q.filter (fun r => decide (bankAt s (r.block * 64) = b) && firstOfBlock q r)
  let cls := mine.foldl (fun c r => min c (effClass q r)) 12
  let win := mine.filter (fun r => decide (effClass q r = cls))
  let (row, hits) := Sparse.get (0, 0) rows b
  match oldestReq win, oldestReq (win.filter (fun r => decide (rowAt (r.block * 64) + 1 = row))) with
  | none, _ => none
  | some r, none => some (r, rowAt (r.block * 64) + 1, 0)
  | some r, some h =>
    if h.seq = r.seq then some (r, row, 0)
    else if hits < 8 then some (h, row, hits + 1)
    else some (r, rowAt (r.block * 64) + 1, 0)

/-- The request that a channel serves next, with its bank and the bank's row and count: the highest class, and among banks of equal
class the first at or after the rotating pointer (R76). -/
def pickChannel (s : State) (x : MemChannel) : Option (MemReq × Nat × Nat × Nat) :=
  let banks := (List.range 16).map (fun i => (x.rr + i) % 16)
  let cands := banks.filterMap (fun b => (pickBank s x.queue x.openRows b).map (fun p => (p.1, b, p.2)))
  let cls := cands.foldl (fun c p => min c (effClass x.queue p.1)) 12
  cands.find? (fun p => decide (effClass x.queue p.1 = cls))

/-- A request that has waited 100 µs rises one class, again every further 100 µs, never above class 3 (R356). -/
def raiseAge (t : Nat) (r : MemReq) : MemReq :=
  if 3 < r.cls ∧ r.arrive + 100000 * (r.rises + 1) ≤ t then { r with cls := r.cls - 1, rises := r.rises + 1 } else r

def ageRaise (c : Nat) (s : State) : State :=
  if 4 ≤ c then s
  else
    let x := getChannel s c
    setChannel s c { x with queue := x.queue.map (raiseAge (now s)) }

/-! ### Refresh (R371, R375) -/

/-- A bank's refresh falls due: made, or held back by a pause, also one not yet begun that waits for it (`held`); the rate last reported
is in force from a refresh on.  A channel in self-refresh refreshes itself (R374). -/
def bankRefresh (c b : Nat) (held : Bool) (s : State) : State :=
  if 4 ≤ c ∨ 16 ≤ b ∨ memState s c ≠ CH_ACTIVE then s
  else
    let x := getChannel s c
    let n := Sparse.get 0 x.heldBack b
    if held = true ∨ paused s c = true then setChannel s c { x with heldBack := Sparse.set 0 x.heldBack b (min (n + 1) 8) }
    else
      let s := wrF s (MEM_CH_STATUS.RATE c) x.rateRead
      setChannel s c { x with heldBack := Sparse.set 0 x.heldBack b (n - 1), refreshed := x.refreshed + 1 }

/-- The refresh-rate report of a channel's package (R371). -/
def rateReport (c rate : Nat) (s : State) : State :=
  if 4 ≤ c ∨ 3 ≤ rate then s else setChannel s c { getChannel s c with rateRead := rate }

/-! ### Retraining (R372, R373) -/

def stepsDue (s : State) (c : Nat) : Nat := rdF s (MEM_CH_STATUS.STEPS_DUE c)

/-- The end of the last completed retraining, or of the start's training before the first. -/
def lastTrained (s : State) (c : Nat) : Nat := max (getChannel s c).trainedAt (rd64 s (.MEM_CH_LAST_LO c) (.MEM_CH_LAST_HI c))

/-- A retraining falls due INTERVAL_MS after the previous one completed. -/
def retrainDue (c : Nat) (s : State) : State :=
  let st := memState s c
  if 4 ≤ c ∨ (st ≠ CH_ACTIVE ∧ st ≠ CH_SELF_REFRESH) ∨ stepsDue s c ≠ 0
    ∨ now s < lastTrained s c + rdF s MEM_RETRAIN.INTERVAL_MS * 1000000 then s
  else setChannel (wrF s (MEM_CH_STATUS.STEPS_DUE c) 4) c { getChannel s c with dueAt := some (now s) }

/-- The last step of a retraining is done. -/
def retrained (c : Nat) (s : State) : State :=
  let s := incF (wrF s (MEM_CH_STATUS.STEPS_DUE c) 0) (MEM_CH_RETRAINED.COUNT c)
  let s := wr64 s (.MEM_CH_LAST_LO c) (.MEM_CH_LAST_HI c) (now s)
  setChannel s c { getChannel s c with dueAt := none, forced := false }

/-- A retraining that has not completed FORCE_MS after it fell due is forced. -/
def retrainForce (c : Nat) (s : State) : State :=
  let x := getChannel s c
  match x.dueAt with
  | none => s
  | some d =>
    if 4 ≤ c ∨ x.forced = true ∨ now s < d + rdF s MEM_RETRAIN.FORCE_MS * 1000000 then s
    else setChannel (incF s (MEM_CH_FORCED.COUNT c)) c { x with forced := true }

/-- Whether any head is enabled, and any pipe. -/
def anyHead (s : State) : Bool := (List.range 12).any (headOn s.dsp.active)
def anyPipe (s : State) : Bool := (List.range 96).any (fun p => (View.pipeHead s.dsp.active p).isSome)

/-- A pause of channel `c` can start: a step is due, no bank is more than 4 refreshes behind, and the fetch condition holds, as
`margin` reports, or the retraining is forced. -/
def pauseOk (c : Nat) (margin : Bool) (s : State) : Bool :=
  let x := getChannel s c
  decide (memState s c = CH_ACTIVE ∧ stepsDue s c ≠ 0) && x.heldBack.all (fun p => decide (p.2 ≤ 4)) && (margin || x.forced || !(anyPipe s))

/-- One step of a channel's retraining is taken in a pause; a failed one is fault 0x09 and stays due (R373). -/
def trainStep (c : Nat) (ok : Bool) (s : State) : State :=
  if ok = false then reportFault { id := 9, kind := U_CHANNEL, unit := c } s
  else if stepsDue s c = 1 then retrained c s
  else wrF s (MEM_CH_STATUS.STEPS_DUE c) (stepsDue s c - 1)

/-- The pauses already taken end here: no two channels pause at once (R372). -/
def pausesEnd (s : State) : Nat := (List.range 4).foldl (fun t c => max t (getChannel s c).pauseTo) (now s)

/-- A channel pauses for one step, of a length up to 1,200 ns that is open, after the channels before it (R372). -/
def takePause (c : Nat) (ok : Bool) (s : State) : State :=
  let a := pausesEnd s
  trainStep c ok (spend (setChannel s c { getChannel s c with pauseFrom := a, pauseTo := a + fresh s % 1200 + 1, pauseForced := (getChannel s c).forced }))

/-- An opportunity of group `g`: the start of line 2 of its vertical blank, or any moment while no head is enabled (R372).
`margins` and `results` are channel by channel. -/
def retrainOpportunity (g : Nat) (margins results : List Bool) (s : State) : State :=
  if anyHead s = true ∧ (headsOf g).any (headOn s.dsp.active) = false then s
  else forEach (List.range 4) (fun c s => if pauseOk c (margins.getD c false) s then takePause c (results.getD c false) s else s) s

/-! ### Self-refresh (R374) -/

/-- A source of class 0 is active: an enabled pipe, or a region or an enabled field on an enabled head. -/
def class0Active (s : State) : Bool :=
  let v : View := s.dsp.active
  anyPipe s || (List.range 12).any (fun h => headOn v h && (decide (rdF s (ART_HD_CFG.REGIONS h) ≠ 0) || !(fieldsOf s h).isEmpty))

/-- A channel leaves self-refresh; the steps that fell due in it are taken at once, up to one that fails, which stays due.  Which one
fails, if any, is open (R373, R374). -/
def wakeChannel (c : Nat) (s : State) : State :=
  if memState s c ≠ CH_SELF_REFRESH then s
  else
    let s := wrF s (MEM_CH_STATUS.STATE c) CH_ACTIVE
    let n := stepsDue s c
    if n = 0 then s
    else
      let good := fresh s % (n + 1)
      if good = n then retrained c (spend s) else trainStep c false (wrF (spend s) (MEM_CH_STATUS.STEPS_DUE c) (n - good))

/-- Every channel wakes at the commit that makes a class 0 source active (R374). -/
def wakeForScanout (s : State) : State := if class0Active s then forEach (List.range 4) wakeChannel s else s

/-- A channel idle for IDLE_US enters self-refresh while no class 0 source is active (R374). -/
def selfRefresh (c : Nat) (s : State) : State :=
  let x := getChannel s c
  if 4 ≤ c ∨ memState s c ≠ CH_ACTIVE ∨ flag s MEM_SR.EN = false ∨ x.queue ≠ [] ∨ now s < x.lastReq + rdF s MEM_SR.IDLE_US * 1000
    ∨ class0Active s = true then s
  else wrF s (MEM_CH_STATUS.STATE c) CH_SELF_REFRESH

def execRequestAgeRaise (t c : Nat) (s : State) : Host.Outcome State Fault Refusal := actIn 4 t (ageRaise c) s
def execBankRefresh (t c b : Nat) (held : Bool) (s : State) : Host.Outcome State Fault Refusal := actIn 4 t (bankRefresh c b held) s
def execRefreshRateRead (t c rate : Nat) (s : State) : Host.Outcome State Fault Refusal := actIn 4 t (rateReport c rate) s
def execRetrainDue (t c : Nat) (s : State) : Host.Outcome State Fault Refusal := actIn 4 t (retrainDue c) s
def execRetrainOpportunity (t g : Nat) (margins results : List Bool) (s : State) : Host.Outcome State Fault Refusal :=
  actIn 4 t (retrainOpportunity g margins results) s
def execRetrainForce (t c : Nat) (s : State) : Host.Outcome State Fault Refusal := actIn 4 t (retrainForce c) s
def execSelfRefreshEntry (t c : Nat) (s : State) : Host.Outcome State Fault Refusal := actIn 4 t (selfRefresh c) s

end Sys2Proof.Machine
end

