-- ==== Sys2Proof/Machine/Float32.lean ====
section
/-! DEFINITION. IEEE 754 values as exact rationals, and rounding to nearest even: binary32 and binary16 (R121, R127, R300). -/

namespace Sys2Proof.Machine

/-- A finite value: sign, and magnitude `mant * 2^exp`. -/
structure Flt where
  neg : Bool
  mant : Nat
  exp : Int
deriving DecidableEq, Repr

def Flt.zero : Flt := ⟨false, 0, 0⟩

/-- The value as an integer multiple of `2^e`, for `e` not above its exponent. -/
def Flt.at (f : Flt) (e : Int) : Int :=
  let m : Int := (f.mant * 2 ^ (f.exp - e).toNat : Nat)
  if f.neg then -m else m

def Flt.ofInt (i : Int) (e : Int) : Flt := ⟨decide (i < 0), i.natAbs, e⟩

/-- The exact sum and product. -/
def Flt.add (a b : Flt) : Flt :=
  let e := min a.exp b.exp
  Flt.ofInt (a.at e + b.at e) e
def Flt.mul (a b : Flt) : Flt := ⟨a.neg != b.neg, a.mant * b.mant, a.exp + b.exp⟩

/-- How many bits a number takes. -/
def bitLen (n : Nat) : Nat := if n = 0 then 0 else n.log2 + 1

/-- The quotient `n / 2^k`, rounded to nearest even. -/
def shrRne (n k : Nat) : Nat :=
  let q := n / 2 ^ k
  let r := n % 2 ^ k
  if 2 * r < 2 ^ k then q else if 2 ^ k < 2 * r then q + 1 else if k = 0 then q else q + q % 2

/-- The quotient `n / d`, rounded to nearest even. -/
def divRne (n d : Nat) : Nat :=
  let q := n / d
  let r := n % d
  if 2 * r < d then q else if d < 2 * r then q + 1 else q + q % 2

/-- A value rounded to a format of `p` significand bits and `eb` exponent bits, as its encoding; overflow gives infinity.
`ftz` flushes subnormal results to zero (R300). -/
def Flt.round (p eb : Nat) (ftz : Bool) (f : Flt) : Nat :=
  let bias : Int := 2 ^ (eb - 1) - 1
  let emin : Int := 1 - bias
  let sgn := if f.neg then 2 ^ (p - 1 + eb) else 0
  if f.mant = 0 then sgn
  else
    let e := f.exp + (bitLen f.mant : Nat) - 1
    let q := max e emin - (p - 1 : Nat)
    let m := if q ≤ f.exp then f.mant * 2 ^ (f.exp - q).toNat else shrRne f.mant (q - f.exp).toNat
    let (m, q) := if m = 2 ^ p then (2 ^ (p - 1), q + 1) else (m, q)
    if m < 2 ^ (p - 1) then (if ftz then sgn else sgn + m)
    else
      let be := (q + (p - 1 : Nat) + bias).toNat
      if 2 ^ eb - 1 ≤ be then sgn + (2 ^ eb - 1) * 2 ^ (p - 1) else sgn + be * 2 ^ (p - 1) + (m - 2 ^ (p - 1))

/-- The value an encoding stands for; infinities and NaNs read as zero here and are told apart by `isFinite`. -/
def Flt.decode (p eb : Nat) (ftz : Bool) (v : Nat) : Flt :=
  let bias : Int := 2 ^ (eb - 1) - 1
  let frac := v % 2 ^ (p - 1)
  let be := v / 2 ^ (p - 1) % 2 ^ eb
  let neg := decide (v / 2 ^ (p - 1 + eb) % 2 = 1)
  if be = 2 ^ eb - 1 then ⟨neg, 0, 0⟩
  else if be = 0 then (if ftz then ⟨neg, 0, 0⟩ else ⟨neg, frac, 1 - bias - (p - 1 : Nat)⟩)
  else ⟨neg, frac + 2 ^ (p - 1), (be : Int) - bias - (p - 1 : Nat)⟩

/-- The encoding is neither an infinity nor a NaN. -/
def isFinite (p eb v : Nat) : Bool := decide (v / 2 ^ (p - 1) % 2 ^ eb ≠ 2 ^ eb - 1)

def f32 (f : Flt) : Nat := f.round 24 8 false
def f32Ftz (f : Flt) : Nat := f.round 24 8 true
def f16 (f : Flt) : Nat := f.round 11 5 false
def ofF32 (v : Nat) : Flt := Flt.decode 24 8 false v
def ofF32Ftz (v : Nat) : Flt := Flt.decode 24 8 true v
def ofF16 (v : Nat) : Flt := Flt.decode 11 5 false v

/-- A value rounded to an integer, halves to even. -/
def Flt.toIntRne (f : Flt) : Int :=
  let m : Nat := if 0 ≤ f.exp then f.mant * 2 ^ f.exp.toNat else shrRne f.mant (-f.exp).toNat
  if f.neg then -(m : Int) else m

/-! ### FP32 arithmetic with denormals preserved (R121, R150) -/

def isNan (v : Nat) : Bool := decide (v % 2 ^ 31 > 0x7F800000)
def isInf (v : Nat) : Bool := decide (v % 2 ^ 31 = 0x7F800000)
def fNegate (v : Nat) : Nat := if v < 2 ^ 31 then v + 2 ^ 31 else v - 2 ^ 31
def fNeg (v : Nat) : Bool := decide (2 ^ 31 ≤ v)
def infinity (neg : Bool) : Nat := if neg then 0xFF800000 else 0x7F800000

/-- A NaN that an operation delivers. -/
def nan32 : Nat := 0x7F800001 + Config.nanPayload % 0x7FFFFF

/-- The sign of an exact sum that is zero: negative where both terms are. -/
def sum32 (a b : Flt) : Nat := if a.mant = 0 ∧ b.mant = 0 then f32 ⟨a.neg && b.neg, 0, 0⟩ else f32 (a.add b)

def mul32 (a b : Nat) : Nat :=
  if isNan a || isNan b then nan32
  else if isInf a || isInf b then (if a % 2 ^ 31 = 0 ∨ b % 2 ^ 31 = 0 then nan32 else infinity (fNeg a != fNeg b))
  else f32 ((ofF32 a).mul (ofF32 b))

/-- A fused multiply-add a × b + c, rounded once. -/
def fma32 (a b c : Nat) : Nat :=
  if isNan a || isNan b || isNan c then nan32
  else if isInf a || isInf b then
    let p := mul32 a b
    if isNan p || (isInf c && decide (p ≠ c)) then nan32 else p
  else if isInf c then c
  else sum32 ((ofF32 a).mul (ofF32 b)) (ofF32 c)

def add32 (a b : Nat) : Nat :=
  if isNan a || isNan b then nan32
  else if isInf a then (if isInf b && decide (a ≠ b) then nan32 else a)
  else if isInf b then b
  else sum32 (ofF32 a) (ofF32 b)

def sub32 (a b : Nat) : Nat := if isNan b then nan32 else add32 a (fNegate b)

/-- A place on the line of the values but NaN. -/
def order32 (v : Nat) : Int := if fNeg v then -((v % 2 ^ 31 : Nat) : Int) else (v % 2 ^ 31 : Nat)
def lt32 (a b : Nat) : Bool := !(isNan a) && !(isNan b) && decide (order32 a < order32 b)
def eq32 (a b : Nat) : Bool := !(isNan a) && !(isNan b) && decide (order32 a = order32 b)
def min32 (a b : Nat) : Nat := if lt32 b a then b else a
def max32 (a b : Nat) : Nat := if lt32 a b then b else a

/-- An FP32 value rounded to FP16. -/
def half32 (v : Nat) : Nat :=
  if isNan v then 0x7C01 + Config.nanPayload % 0x3FF else if isInf v then (if fNeg v then 0xFC00 else 0x7C00) else f16 (ofF32 v)

/-- An FP16 value as FP32. -/
def ofHalf (v : Nat) : Nat :=
  if isFinite 11 5 v then f32 (ofF16 v) else if v % 2 ^ 10 = 0 then infinity (bit v 15) else nan32

/-- The ratio of two whole numbers, rounded. -/
def ratio32 (n d : Nat) : Nat := f32 ⟨false, 2 * (n * 2 ^ 64 / d) + (if n * 2 ^ 64 % d = 0 then 0 else 1), -65⟩

/-- An operation of R150 with its result. -/
def fpResult (op : FpOp) (a b c : Nat) : Nat :=
  match op with
  | .add => add32 a b
  | .sub => sub32 a b
  | .mul => mul32 a b
  | .fma => fma32 a b c
  | .half => half32 a

end Sys2Proof.Machine
end

