-- ==== Sys2Proof/Machine/Pixel.lean ====
section
/-! DEFINITION. The pixels of a head, stage by stage of R19: fetch, scaling and conversion of layer pipes (R183 to R191),
blending (R192 to R194), late re-projection (R195, R196), the value plane (R249 to R252), the contributors of a tile (R43)
and the stale treatments (R46), and the output conversion (R217). -/

namespace Sys2Proof.Machine

/-- A pixel of the stream: three 10-bit components. -/
abbrev Rgb := Nat × Nat × Nat

def clampN (i : Int) (hi : Nat) : Nat := if i < 0 then 0 else min i.toNat hi
def clampI (i lo hi : Int) : Int := max lo (min i hi)

/-- The colour of a register field: bits 29:20, 19:10 and 9:0 (Table 2.10). -/
def rgbOf (v : Nat) : Rgb := (bitsOf v 29 20, bitsOf v 19 10, bitsOf v 9 0)

/-! ### Fetch (R182, R183) -/

/-- 8-bit components other than Y, Cb and Cr, and 8-bit Y, Cb and Cr. -/
def expand8 (v : Nat) : Nat := v * 4 + v / 64
def expandY8 (v : Nat) : Nat := v * 4

/-- An FP16 component: clamped to [0, 1], NaN to 0, times 1023 rounded half to even. -/
def expandHalf (v : Nat) : Nat :=
  if isFinite 11 5 v then
    if v / 32768 = 1 then 0 else if 0x3C00 ≤ v then 1023 else ((ofF16 v).mul ⟨false, 1023, 0⟩).toIntRne.toNat
  else if v = 0x7C00 then 1023 else 0

def memNum (m : Memory) (a n : Nat) : Nat := ofBytes ((List.range n).map (fun i => m.byte (a + i)))

/-- Component `c` of an RGB pixel: R, G, B and A (R183). -/
def rgbComp (m : Memory) (fmt a c : Nat) : Nat :=
  if fmt = 1 then (if c = 3 then 1023 else expand8 (memNum m a 1))
  else if fmt = 3 ∨ fmt = 4 then expand8 (memNum m (a + c) 1)
  else if fmt = 5 then expand8 (memNum m (a + (if c = 3 then 3 else 2 - c)) 1)
  else if fmt = 6 then (let w := memNum m a 4; if c = 3 then w / 2 ^ 30 * 341 else bitsOf w (10 * c + 9) (10 * c))
  else expandHalf (memNum m (a + 2 * c) 2)

/-- The luma sample of a YCbCr pixel. -/
def luma (m : Memory) (x : Shape) (surf px py : Nat) : Nat :=
  let f := x.format
  if f = 0x20 then expandY8 (memNum m (surf + py * x.pitch0 + px / 2 * 4 + px % 2 * 2) 1)
  else if f = 0x21 ∨ f = 0x22 then expandY8 (memNum m (surf + py * x.pitch0 + px) 1)
  else memNum m (surf + py * x.pitch0 + 2 * px) 2 / 64

/-- The chroma sample (j, i): component 0 is Cb, 1 is Cr. -/
def chroma (m : Memory) (x : Shape) (surf0 surf1 j i c : Nat) : Nat :=
  let f := x.format
  if f = 0x20 then expandY8 (memNum m (surf0 + i * x.pitch0 + j * 4 + 1 + 2 * c) 1)
  else if f = 0x21 ∨ f = 0x22 then expandY8 (memNum m (surf1 + i * x.pitch1 + 2 * j + c) 1)
  else memNum m (surf1 + i * x.pitch1 + 4 * j + 2 * c) 2 / 64

/-! ### Coefficients (R187 to R189) -/

/-- The bilinear filter of module reset, by coefficient index. -/
def coefInit (idx : Nat) : Int :=
  let r := idx % 768
  let (p, t, k) := if r < 512 then (r / 8, r % 8, 3) else ((r - 512) / 4, (r - 512) % 4, 1)
  if t = k then 256 - 4 * (p : Int) else if t = k + 1 then 4 * (p : Int) else 0

/-- A coefficient word of module reset. -/
def coefWordInit (k : Nat) : Word := BitVec.ofNat 32 (unsigned 16 (coefInit (2 * k)) + 65536 * unsigned 16 (coefInit (2 * k + 1)))

def coefKey (p bank k : Nat) : Nat := p * 2048 + bank * 1024 + k
def coefWord (d : Display) (p bank k : Nat) : Word := Sparse.get (coefWordInit k) d.coef (coefKey p bank k)
def coef (d : Display) (p bank idx : Nat) : Int :=
  let w := (coefWord d p bank (idx / 2)).toNat
  signed 16 (if idx % 2 = 0 then w % 65536 else w / 65536)

def coefH (d : Display) (p bank set phase t : Nat) : Int := coef d p bank (set * 768 + phase * 8 + t)
def coefV (d : Display) (p bank set phase t : Nat) : Int := coef d p bank (set * 768 + 512 + phase * 4 + t)

def sumI (n : Nat) (f : Nat → Int) : Int := ((List.range n).map f).foldl (· + ·) 0

/-- A component filtered vertically, then horizontally (R187); `src` gives a sample by column and row, which are clamped to
the given ranges. -/
def filter (d : Display) (p bank set : Nat) (cb rb : Int × Nat) (cLo cHi rLo rHi : Int) (src : Nat → Nat → Nat) : Nat :=
  let (hb, hp) := cb
  let (vb, vp) := rb
  let m := fun c => clampN ((sumI 4 (fun t => coefV d p bank set vp t * (src c (clampI (vb - 1 + t) rLo rHi).toNat : Nat)) + 32) / 64) 4095
  clampN ((sumI 8 (fun t => coefH d p bank set hp t * (m (clampI (hb - 3 + t) cLo cHi).toNat : Nat)) + 512) / 1024) 1023

/-! ### Geometry (R185, R186, R190, R195, R196) -/

def scalerStep (src dst : Nat) : Nat := src * 65536 / dst

def position (i st : Nat) (rp : Int) : Int := (st / 2 : Nat) - 32768 + (i * st : Nat) + rp
def insideSrc (p : Int) (src : Nat) : Bool := decide (0 ≤ p + 32768 ∧ p + 32768 < (src * 65536 : Nat))
def base (p : Int) : Int := p / 65536
def phase (p : Int) : Nat := (p % 65536).toNat / 1024

/-- The re-projection frames k of a pipe in frame `n` (R195). -/
def reprojK (s : State) (p n : Nat) : Nat :=
  if aFlag s (LYR_RP.ENABLE p) then
    clampN (signed 32 (n + 2 ^ 32 - rdF s (LYR_TARGET.TARGET p))) (aF s (LYR_RP.MAX_FRAMES p))
  else 0

/-- The offset rp of an axis (R196). -/
def reprojOffset (direct : Bool) (k : Nat) (v : Int) (st : Nat) : Int :=
  if direct then -(((k * v + 128) / 256) * 65536) else -((k * v * st) / 256)

/-- What a head needs of a pipe to draw a pixel: gathered once per pipe. -/
structure PipeView where
  p : Nat
  shape : Shape
  surf0 : Nat
  surf1 : Nat
  cropX : Nat
  cropY : Nat
  cropW : Nat
  cropH : Nat
  dstX : Int
  dstY : Int
  dstW : Nat
  dstH : Nat
  k : Nat
  vx : Int
  vy : Int
  bank : Nat
  csc : Nat
  blend : Nat
  alpha : Nat
  cls : Nat
  tsrc : Nat
  retired : Bool
  bad : Bool
  faults : List FaultPixels
deriving DecidableEq, Repr

def pipeView (s : State) (p : Nat) : PipeView :=
  let x := getPipe s p
  let bank := if p < 48 then aF s (LYR_COEF_SEL.BANK p) else 0
  { p := p, shape := View.shape s.dsp.active p, surf0 := x.surf0, surf1 := x.surf1
    cropX := aF s (LYR_CROP_XY.CROP_X p), cropY := aF s (LYR_CROP_XY.CROP_Y p)
    cropW := aF s (LYR_CROP_WH.CROP_W p), cropH := aF s (LYR_CROP_WH.CROP_H p)
    dstX := signed 16 (aF s (LYR_DST_XY.DST_X p)), dstY := signed 16 (aF s (LYR_DST_XY.DST_Y p))
    dstW := aF s (LYR_DST_WH.DST_W p), dstH := aF s (LYR_DST_WH.DST_H p)
    k := rdF s (LYR_STATUS.RP_K p), vx := signed 12 (aF s (LYR_RP.VX p)), vy := signed 12 (aF s (LYR_RP.VY p))
    bank := bank, csc := aF s (LYR_FMT.CSC p), blend := aF s (LYR_FMT.BLEND p), alpha := aF s (LYR_FMT.PLANE_ALPHA p)
    cls := aF s (LYR_FCLASS.CLASS p), tsrc := rd64 s (.LYR_TSRC_LO p) (.LYR_TSRC_HI p)
    retired := pipeRetired s p, bad := x.badFrame, faults := x.faults }

def PipeView.direct (q : PipeView) : Bool := decide (48 ≤ q.p)

/-- The pixel lies in the pipe's destination rectangle. -/
def PipeView.covers (q : PipeView) (x y : Nat) : Bool :=
  decide (q.dstX ≤ (x : Int) ∧ (x : Int) < q.dstX + q.dstW ∧ q.dstY ≤ (y : Int) ∧ (y : Int) < q.dstY + q.dstH)

/-- The pixel is a fault pixel (R203, Table 7.6). -/
def PipeView.faulty (q : PipeView) (x y : Nat) : Bool :=
  q.retired || q.bad || q.faults.any (fun f => decide (f.line ≤ y ∧ y ≤ f.last ∧ f.col ≤ x))

/-- The pipe has a fault pixel in a tile row (R203). -/
def PipeView.faultRow (q : PipeView) (row : Nat) : Bool :=
  q.retired || q.bad || q.faults.any (fun f => decide (f.line < 32 * row + 32 ∧ 32 * row ≤ f.last))

/-- The chroma position of an axis (R190). -/
def chromaPos (crop : Nat) (p : Int) (half : Bool) : Int := ((crop * 65536 : Nat) + p - (if half then 32768 else 0)) / 2

/-! ### Conversion (R191) -/

/-- Presets of Table 7.4: oy, ky, kr_cr, kg_cb, kg_cr, kb_cb. -/
def cscPreset (c : Nat) : Int × Int × Int × Int × Int × Int :=
  if c = 0 then (64, 4783, 6557, -1609, -3340, 8287)
  else if c = 1 then (64, 4783, 7365, -876, -2189, 8678)
  else if c = 2 then (64, 4783, 6896, -770, -2672, 8799)
  else if c = 3 then (0, 4096, 5743, -1410, -2925, 7258)
  else if c = 4 then (0, 4096, 6450, -767, -1917, 7601)
  else (0, 4096, 6040, -674, -2340, 7706)

def convert (c Y Cb Cr : Nat) : Rgb :=
  let (oy, ky, krcr, kgcb, kgcr, kbcb) := cscPreset c
  let y : Int := Y - oy
  let cb : Int := Cb - 512
  let cr : Int := Cr - 512
  (clampN ((ky * y + krcr * cr + 2048) / 4096) 1023, clampN ((ky * y + kgcb * cb + kgcr * cr + 2048) / 4096) 1023,
   clampN ((ky * y + kbcb * cb + 2048) / 4096) 1023)

/-! ### A pipe's pixel (R186, R187, R190) -/

/-- Colour and 10-bit alpha of a pipe at an active pixel; none where it is outside or transparent. -/
def PipeView.pixel (d : Display) (m : Memory) (q : PipeView) (x y : Nat) : Option (Rgb × Nat) :=
  if q.covers x y = false then none
  else
    let stx := if q.direct then 65536 else scalerStep q.cropW q.dstW
    let sty := if q.direct then 65536 else scalerStep q.cropH q.dstH
    let px := position ((x : Int) - q.dstX).toNat stx (reprojOffset q.direct q.k q.vx stx)
    let py := position ((y : Int) - q.dstY).toNat sty (reprojOffset q.direct q.k q.vy sty)
    if insideSrc px q.cropW = false ∨ insideSrc py q.cropH = false then none
    else
      let comp := fun (src : Nat → Nat → Nat) =>
        if q.direct then src (base px).toNat (base py).toNat
        else filter d q.p q.bank 0 (base px, phase px) (base py, phase py) 0 (q.cropW - 1 : Nat) 0 (q.cropH - 1 : Nat) src
      let f := q.shape.format
      if isYcc f then
        let Y := comp (fun c r => luma m q.shape q.surf0 (q.cropX + c) (q.cropY + r))
        let cx := chromaPos q.cropX px (decide (q.shape.siteH = 1))
        let cy := if is420 f then chromaPos q.cropY py (decide (q.shape.siteV = 0)) else (q.cropY * 65536 : Nat) + py
        let (rLo, rHi) := if is420 f then (q.cropY / 2, (q.cropY + q.cropH - 1) / 2) else (q.cropY, q.cropY + q.cropH - 1)
        let chr := fun k => filter d q.p q.bank 1 (base cx, phase cx) (base cy, phase cy) (q.cropX / 2 : Nat) ((q.cropX + q.cropW - 1) / 2 : Nat)
          (rLo : Nat) (rHi : Nat) (fun c r => chroma m q.shape q.surf0 q.surf1 c r k)
        some (convert q.csc Y (chr 0) (chr 1), comp (fun _ _ => 1023))
      else
        let cmp := fun k => comp (fun c r => rgbComp m f (q.surf0 + (q.cropY + r) * q.shape.pitch0 + (q.cropX + c) * bpp0 f) k)
        some ((cmp 0, cmp 1, cmp 2), cmp 3)

/-- The samples that a filter reads at a position: columns and rows (R187). -/
def filterTaps (cb rb : Int) (cLo cHi rLo rHi : Int) : List (Nat × Nat) :=
  (List.range 4).flatMap (fun (t : Nat) => (List.range 8).map (fun (u : Nat) => ((clampI (cb - 3 + u) cLo cHi).toNat, (clampI (rb - 1 + t) rLo rHi).toNat)))

/-- The bytes of plane 0 that a pixel of a YUYV_422, other YCbCr or RGB surface reads for luma or colour: address and length. -/
def lumaBytes (q : PipeView) (px py : Nat) : Nat × Nat :=
  let f := q.shape.format
  if isYcc f = false then (q.surf0 + py * q.shape.pitch0 + px * bpp0 f, bpp0 f)
  else if f = 0x20 then (q.surf0 + py * q.shape.pitch0 + px / 2 * 4 + px % 2 * 2, 1)
  else if f = 0x21 ∨ f = 0x22 then (q.surf0 + py * q.shape.pitch0 + px, 1)
  else (q.surf0 + py * q.shape.pitch0 + 2 * px, 2)

/-- The bytes that hold a chroma sample. -/
def chromaBytes (q : PipeView) (j i : Nat) : Nat × Nat :=
  let f := q.shape.format
  if f = 0x20 then (q.surf0 + i * q.shape.pitch0 + j * 4, 4)
  else if f = 0x21 ∨ f = 0x22 then (q.surf1 + i * q.shape.pitch1 + 2 * j, 2)
  else (q.surf1 + i * q.shape.pitch1 + 4 * j, 4)

/-- The ranges of memory that a pixel of the pipe reads: those of PipeView.pixel. -/
def PipeView.reads (q : PipeView) (x y : Nat) : List (Nat × Nat) :=
  if q.covers x y = false then []
  else
    let stx := if q.direct then 65536 else scalerStep q.cropW q.dstW
    let sty := if q.direct then 65536 else scalerStep q.cropH q.dstH
    let px := position ((x : Int) - q.dstX).toNat stx (reprojOffset q.direct q.k q.vx stx)
    let py := position ((y : Int) - q.dstY).toNat sty (reprojOffset q.direct q.k q.vy sty)
    if insideSrc px q.cropW = false ∨ insideSrc py q.cropH = false then []
    else
      let taps := if q.direct then [((base px).toNat, (base py).toNat)] else filterTaps (base px) (base py) 0 (q.cropW - 1 : Nat) 0 (q.cropH - 1 : Nat)
      let f := q.shape.format
      let first := taps.map (fun t => lumaBytes q (q.cropX + t.1) (q.cropY + t.2))
      if isYcc f = false then first
      else
        let cx := chromaPos q.cropX px (decide (q.shape.siteH = 1))
        let cy := if is420 f then chromaPos q.cropY py (decide (q.shape.siteV = 0)) else (q.cropY * 65536 : Nat) + py
        let (rLo, rHi) := if is420 f then (q.cropY / 2, (q.cropY + q.cropH - 1) / 2) else (q.cropY, q.cropY + q.cropH - 1)
        first ++ (filterTaps (base cx) (base cy) (q.cropX / 2 : Nat) ((q.cropX + q.cropW - 1) / 2 : Nat) (rLo : Nat) (rHi : Nat)).map (fun t => chromaBytes q t.1 t.2)

/-! ### Blending (R192 to R194) -/

def wOf (v : Nat) : Nat := v + v / 512

/-- The weight of a pipe's pixel from its alpha (R192). -/
def weight (blend a10 planeAlpha : Nat) : Nat :=
  (wOf (if blend = 0 then 1023 else a10) * wOf planeAlpha + 512) / 1024

/-- Colour and weight of a pipe at a pixel: weight 0 where it does not show; fault pixels are opaque black (R203). -/
def PipeView.shade (d : Display) (m : Memory) (q : PipeView) (x y : Nat) : Rgb × Nat :=
  if q.covers x y = true ∧ q.faulty x y = true then ((0, 0, 0), 1024)
  else match q.pixel d m x y with
    | none => ((0, 0, 0), 0)
    | some (c, a) => (c, weight q.blend a q.alpha)

def blendOne (mode planeAlpha w c d : Nat) : Nat :=
  if mode = 2 then min 1023 ((d * (1024 - w) + 512) / 1024 + (c * wOf planeAlpha + 512) / 1024)
  else (c * w + d * (1024 - w) + 512) / 1024

/-- One pipe laid over the stream (R193, R194); a fault pixel blends as opaque. -/
def PipeView.over (dsp : Display) (m : Memory) (q : PipeView) (x y : Nat) (d : Rgb) : Rgb :=
  let (c, w) := q.shade dsp m x y
  if w = 0 then d
  else
    let (mode, pa) := if q.faulty x y then (0, 1023) else (q.blend, q.alpha)
    (blendOne mode pa w c.1 d.1, blendOne mode pa w c.2.1 d.2.1, blendOne mode pa w c.2.2 d.2.2)

/-! ### The value plane (R249 to R252) -/

/-- Decimal digits of a number, at least one, most significant first. -/
def digits (fuel n : Nat) (acc : List Nat) : List Nat :=
  match fuel with
  | 0 => acc
  | k + 1 => if n < 10 then (48 + n) :: acc else digits k (n / 10) ((48 + n % 10) :: acc)

/-- R249: the characters of a number, or none on overflow. -/
def formatNumber (v : Int) (dec scale : Nat) (plus zpad : Bool) (cells : Nat) : Option (List Nat) :=
  let mag := v.natAbs
  let mag' : Option Nat :=
    if dec < scale then
      let p := 10 ^ (scale - dec)
      some (mag / p + (if p - p / 2 ≤ mag % p then 1 else 0))
    else if scale < dec then
      let p := 10 ^ (dec - scale)
      if (2 ^ 64 - 1) / p < mag then none else some (mag * p)
    else some mag
  match mag' with
  | none => none
  | some m =>
    let sign : List Nat := if m = 0 then [] else if v < 0 then [45] else if plus then [43] else []
    let d := digits 20 m []
    let d := List.replicate (dec + 1 - d.length) 48 ++ d
    let body := if dec = 0 then d else d.take (d.length - dec) ++ [46] ++ d.drop (d.length - dec)
    let len := sign.length + body.length
    if cells < len then none
    else if zpad then some (sign ++ List.replicate (cells - len) 48 ++ body)
    else some (List.replicate (cells - len) 32 ++ sign ++ body)

/-- R250: the characters of a state word. -/
def formatState (c : FontCopy) (table value cells : Nat) : List Nat :=
  if 255 < value then List.replicate cells 35
  else
    let raw := (List.range 16).map (fun i => (Sparse.get 0 c.bytes (0xC0000 + table * 0x1000 + value * 16 + i)).toNat)
    let txt := raw.takeWhile (· ≠ 0)
    (txt ++ List.replicate cells 32).take cells

/-- What a field shows: characters with the colour of the value cells, and the mark cell (R251, Table 9.4). -/
structure FieldText where
  cells : List Nat
  cellColour : Nat
  mark : Nat
  markColour : Nat
deriving DecidableEq, Repr

def fieldText (c : FontCopy) (d : Rec32) (r : Latched) : FieldText :=
  let invalid : FieldText := { cells := List.replicate (fdCells d) 42, cellColour := fdQ d, mark := 33, markColour := fdQ d }
  match r with
  | .bad => invalid
  | .no | .held none => { cells := List.replicate (fdCells d) 45, cellColour := fdFg d, mark := 0, markColour := fdQ d }
  | .held (some v) =>
    if v.quality = 3 then invalid
    else
      let txt := if fdKind d then formatState c (fdTable d) v.value (fdCells d)
        else (formatNumber (signed 64 v.value) (fdDec d) (fdScale d) (fdPlus d) (fdZero d) (fdCells d)).getD (List.replicate (fdCells d) 35)
      { cells := txt, cellColour := fdFg d, mark := if v.quality = 1 then 63 else if v.quality = 2 then 83 else if v.quality = 4 then 84 else 0, markColour := fdQ d }

/-- 4-bit coverage of a glyph (Table 9.5). -/
def coverage (c : FontCopy) (font code gx gy : Nat) : Nat :=
  let b := (Sparse.get 0 c.bytes (font * 0x18000 + (code - 32) * 1024 + gy * 16 + gx / 2)).toNat
  if gx % 2 = 0 then b % 16 else b / 16

/-- The value plane at one pixel of a field (R252). -/
def drawField (c : FontCopy) (d : Rec32) (t : FieldText) (x y : Nat) (p : Rgb) : Rgb :=
  let (cw, ch) := cellSize c (fdFont d)
  let dx := (x : Int) - fdX d
  let dy := (y : Int) - fdY d
  if dx < 0 ∨ dy < 0 ∨ ((fdCells d + 1) * cw : Nat) ≤ dx ∨ (ch : Int) ≤ dy then p
  else
    let p := if fdOpaque d then rgbOf (fdBg d) else p
    let i := dx.toNat / cw
    let (code, col) := if i = fdCells d then (t.mark, t.markColour) else (t.cells.getD i 0, t.cellColour)
    if code = 0 then p
    else
      let w := (coverage c (fdFont d) code (dx.toNat % cw) dy.toNat * 1024 + 7) / 15
      let k := rgbOf col
      let f := fun (a b : Nat) => (a * w + b * (1024 - w) + 512) / 1024
      (f k.1 p.1, f k.2.1 p.2.1, f k.2.2 p.2.2)

/-! ### A head's picture, gathered once (R19 stages 1 to 3) -/

/-- What stages 1 to 3 of a head work on in the frame being scanned. -/
structure Scene where
  bg : Rgb
  w : Nat
  h : Nat
  pipes : List PipeView
  fields : List (Nat × Rec32 × Latched)
  font : FontCopy
deriving DecidableEq, Repr

/-- The head whose stages 1 to 3 a head shows (R215). -/
def sourceOf (s : State) (h : Nat) : Nat := if aFlag s (HD_CTRL.CLONE h) then aF s (HD_CTRL.CLONE_SRC h) else h

/-- The record a field shows at this moment: the latched one, or before the latch the one stored before it (R32, R247). -/
def fieldRecord (t : Nat) (f : Field) : Latched :=
  match f.latched with
  | .no => if f.lost then .bad else .held (match f.record with | some r => if r.stamp < t then some r else f.prev | none => none)
  | r => r

def scene (s : State) (h : Nat) : Scene :=
  let src := sourceOf s h
  let v : View := s.dsp.active
  let fs := fieldsOf s src
  { bg := rgbOf (aF s (HD_BG.RGB src)), w := hact v src, h := vact v src
    pipes := if (getHead s src).retiredLive then [] else (pipesOf v src).map (pipeView s)
    fields := fs.map (fun f => (f.1, f.2, fieldRecord (now s) (getField s f.1)))
    font := fontCopy s (getHead s src).font }

/-- The stream after stage 3 at an active pixel. -/
def Scene.stage3 (d : Display) (m : Memory) (sc : Scene) (x y : Nat) : Rgb :=
  let p := sc.pipes.foldl (fun p q => q.over d m x y p) sc.bg
  sc.fields.foldl (fun p f => drawField sc.font f.2.1 (fieldText sc.font f.2.1 f.2.2) x y p) p

/-! ### Contributors and treatments (R43 to R46) -/

/-- Active pixels of a tile (R42). -/
def tilePixelsOf (sc : Scene) (row col : Nat) : List (Nat × Nat) :=
  (List.range 1024).filterMap (fun i =>
    let x := col * 32 + i % 32
    let y := row * 32 + i / 32
    if x < sc.w ∧ y < sc.h then some (x, y) else none)

/-- A pipe shows at one pixel at least of a tile: weight non-zero there, with no full weight above it (R43). -/
def shows (d : Display) (m : Memory) (q : PipeView) (above : List PipeView) (px : List (Nat × Nat)) : Bool :=
  px.any (fun p => decide ((q.shade d m p.1 p.2).2 ≠ 0) && above.all (fun a => decide ((a.shade d m p.1 p.2).2 ≠ 1024)))

/-- A pipe's rectangle meets a tile. -/
def PipeView.meets (q : PipeView) (px : List (Nat × Nat)) : Bool := px.any (fun p => q.covers p.1 p.2)

/-- Class and source time of the layers that contribute to a tile (R43, R203). -/
def layerContributors (d : Display) (m : Memory) (row : Nat) (px : List (Nat × Nat)) : List PipeView → List (Nat × Nat)
  | [] => []
  | q :: above =>
    let rest := layerContributors d m row px above
    if q.cls = 0 then rest
    else if q.faultRow row = true ∧ q.meets px = true then (q.cls, 0) :: rest
    else if shows d m q above px then (q.cls, q.tsrc) :: rest else rest

/-- Class and source time of the value fields that contribute to a tile (R43, R247, R248, R251). -/
def fieldContributors (sc : Scene) (row col : Nat) : List (Nat × Nat) :=
  sc.fields.filterMap (fun f =>
    match fieldRect sc.font f.2.1 sc.w sc.h with
    | none => none
    | some (x0, y0, x1, y1) =>
      if fdClass f.2.1 ≠ 0 ∧ x0 < col * 32 + 32 ∧ col * 32 < x1 ∧ y0 < row * 32 + 32 ∧ row * 32 < y1 then
        match f.2.2 with
        | .bad => some (fdClass f.2.1, 0)
        | .held (some r) => some (fdClass f.2.1, r.meas)
        | _ => none
      else none)

def contributors (d : Display) (m : Memory) (sc : Scene) (row col : Nat) : List (Nat × Nat) :=
  layerContributors d m row (tilePixelsOf sc row col) sc.pipes ++ fieldContributors sc row col

/-- The oldest source time of a class (R44). -/
def oldest (c : Nat) (cs : List (Nat × Nat)) : Option Nat :=
  ((cs.filter (fun k => k.1 = c)).map (·.2)).foldl (fun b t => match b with | none => some t | some b => some (min b t)) none

/-- Rank of a treatment: ST-fill, ST-hatch, ST-desat, ST-marker (R45, Table 2.10). -/
def treatRank (t : Nat) : Nat := if t = 2 then 3 else if t = 0 then 2 else if t = 1 then 1 else 0

/-- A class is stale in a tile row with stamp `t` (R44, R47). -/
def classStale (s : State) (t : Nat) (uncert : Nat) (cs : List (Nat × Nat)) (c : Nat) : Bool :=
  match oldest c cs with
  | none => false
  | some o =>
    let st := rdF s TIME_STATUS.STATE
    let free := flag s (TIME_F_TREAT.POLICY (c - 1)) && decide (st = 0)
    let age := (t - o) + (if flag s (TIME_F_TREAT.POLICY (c - 1)) = true ∧ st = 1 then uncert else 0)
    free || decide (rdF s (TIME_F_LIMIT.LIMIT_US (c - 1)) * 1000 ≤ age)

/-- The class whose treatment a tile takes, 0 for none (R44, R45). -/
def chooseClass (s : State) (t uncert : Nat) (cs : List (Nat × Nat)) : Nat :=
  [1, 2, 3, 4, 5, 6].foldl (fun ch c =>
    if classStale s t uncert cs c = true ∧ (ch = 0 ∨ treatRank (rdF s (TIME_F_TREAT.TREAT (ch - 1))) < treatRank (rdF s (TIME_F_TREAT.TREAT (c - 1)))) then c else ch) 0

/-- A treatment at one pixel (R46, Table 2.6). -/
def treatPixel (treat dim : Nat) (colour : Rgb) (x y : Nat) (p : Rgb) : Rgb :=
  if treat = 2 then colour
  else if treat = 0 then (if (x + y) % 16 < 4 then colour else p)
  else if treat = 1 then
    let Y := (218 * p.1 + 732 * p.2.1 + 74 * p.2.2 + 512) / 1024
    let v := (Y * dim + 512) / 1024
    (v, v, v)
  else (if x % 32 + y % 32 ≤ 7 then colour else p)

/-- The treatment of class `c` at one pixel; class 0 leaves it. -/
def treatClass (s : State) (c x y : Nat) (p : Rgb) : Rgb :=
  if c = 0 then p
  else treatPixel (rdF s (TIME_F_TREAT.TREAT (c - 1))) (rdF s (TIME_F_TREAT.DIM (c - 1))) (rgbOf (rdF s (TIME_F_COLOUR.RGB (c - 1)))) x y p

/-- The stream after stage 4 at an active pixel of the tile row scanned last. -/
def stage4 (s : State) (h : Nat) (sc : Scene) (x y : Nat) : Rgb :=
  treatClass s ((getHead s h).chosen.getD (x / 32) 0) x y (sc.stage3 s.dsp s.mem x y)

/-! ### Artichoke content and the output conversion (R217, R232, R270, R271, R292) -/

/-- The hatch of the F7 colour: over black for the guard, transition and safe-state patterns, over the plate for a stale
region. -/
def hatched (x y : Nat) : Bool := decide ((x + y) % 16 < 4)

/-- The pixel of a region (R270). -/
def regionPixel (colour : Rgb) (c : Content) (plate : Rgb) (x y : Nat) : Rgb :=
  match c with
  | .guard => if hatched x y then colour else (0, 0, 0)
  | .hatched => if hatched x y then colour else plate
  | .plate => plate

/-- Stage 7: the output value of a component (R217). -/
def outputComp (limited ten : Bool) (v : Nat) : Nat :=
  let a := if limited then 64 + (v * 876 + 512) / 1024 else v
  if ten then a else min 255 ((a + 2) / 4)

/-- CRC-32C, one byte (R271). -/
def crcBits : Nat → Nat → Nat
  | 0, c => c
  | n + 1, c => crcBits n (if c % 2 = 1 then (c / 2) ^^^ 0x82F63B78 else c / 2)
def crcByte (c b : Nat) : Nat := crcBits 8 (c ^^^ b)

/-- CRC-32C of a list of bytes (R271). -/
def crc32c (bs : List Nat) : Nat := (bs.foldl crcByte 0xFFFFFFFF) ^^^ 0xFFFFFFFF

/-- The word of a pixel in a signature (R271). -/
def pixelWord (p : Rgb) : Nat := p.1 * 2 ^ 20 + p.2.1 * 2 ^ 10 + p.2.2
def wordBytes (w : Nat) : List Nat := [w % 256, w / 256 % 256, w / 65536 % 256, w / 16777216 % 256]

end Sys2Proof.Machine
end

