-- ==== Sys2Proof/Machine/Rings.lean ====
section
/-! DEFINITION. Host transport: rings, doorbells, descriptor dispatch by the share scheduler, the descriptors that need no
engine, COPY, interrupts and host read failures (chapter 4, R61 to R64). -/

namespace Sys2Proof.Machine

/-! ### Doorbells (R54, R104, R105, R459) -/

/-- Function `fn` exists: the PF, or a VF with VF Enable 1 and number not above NumVFs (R459). -/
def exists? (s : State) (fn : Nat) : Bool := decide (fn = 0) || (s.host.vfEnable && decide (fn ≤ s.host.numVFs))

/-- Submission and completion rings of a function (R87). -/
def sqCount (fn : Nat) : Nat := if fn = 0 then 64 else 16
def cqCount (fn : Nat) : Nat := if fn = 0 then 32 else 8

/-- INST_LAST_DB_STATUS of a VF. -/
def setDb (s : State) (fn st : Nat) : State := if fn = 0 then s else wrF s (INST_LAST_DB_STATUS.STATUS fn) st

/-- A doorbell, mailbox doorbell or kick of `fn` carrying `gen` passes the checks of R54 and R459, or is ignored and
counted.  One that meets a reset carries the old generation (R76). -/
def doorbell (fn gen : Nat) (f : State → State) (s : State) : State :=
  if exists? s fn = false then s
  else if instState s fn = ABSENT ∨ instState s fn = DESTROYING then incF s (INST_STALE_WRITE.COUNT fn)
  else if gen ≠ instGen s fn ∨ resetMeets s fn = true then setDb (incF s (INST_STALE_WRITE.COUNT fn)) fn ST_STALE_GEN
  else f s

/-- The status of a doorbell taken: recorded while the instance is parked (R64). -/
def dbTaken (s : State) (fn : Nat) : State := setDb s fn (if instState s fn = PARKED then ST_PARKED else ST_OK)

def sqTailDoorbell (fn q gen idx : Nat) (s : State) : State :=
  if sqCount fn ≤ q then s
  else doorbell fn gen (fun s =>
    if flag s (SQ_CFG.ENABLE fn q) = false then setDb s fn ST_NO_SPACE
    else dbTaken (wrF s (SQ_PTR.TAIL fn q) (idx % 2 ^ rdF s (SQ_CFG.SIZE_LOG2 fn q))) fn) s

/-- Head and tail after a head doorbell: a slot the device has not written moves the tail forward to it, and PHASE
inverts if the move passes index 0 (R105). -/
def headMove (k head tail : Nat) (phase : Bool) (idx : Nat) : Nat × Nat × Bool :=
  let i := idx % 2 ^ k
  if ringUsed k head i ≤ ringUsed k head tail then (i, tail, phase)
  else (i, i, if i < tail then !phase else phase)

/-- Completions that waited for a slot of completion ring `c` are written (R101). -/
def flushBound (fn c : Nat) (s : State) : State :=
  forEach ((s.host.sq.filter (fun p => p.1 / 64 = fn ∧ p.2.flights.any (fun f => decide (f.cq = c)))).map (fun p => p.1 % 64)) (fun q s => flushSq s fn q) s

def cqHeadDoorbell (fn c gen idx : Nat) (s : State) : State :=
  if cqCount fn ≤ c then s
  else doorbell fn gen (fun s =>
    if flag s (CQ_CFG.ENABLE fn c) = false then setDb s fn ST_NO_SPACE
    else
      let x := getCq s fn c
      let (h, t, p) := headMove (rdF s (CQ_CFG.SIZE_LOG2 fn c)) (rdF s (CQ_PTR.HEAD fn c)) (rdF s (CQ_PTR.TAIL fn c)) x.phase idx
      let s := setCq (wrF (wrF s (CQ_PTR.HEAD fn c) h) (CQ_PTR.TAIL fn c) t) fn c { x with phase := p }
      dbTaken (flushBound fn c s) fn) s

def eqHeadDoorbell (fn gen idx : Nat) (s : State) : State :=
  doorbell fn gen (fun s =>
    if flag s (EQ_CFG.ENABLE fn) = false then setDb s fn ST_NO_SPACE
    else
      let x := getEq s fn
      let (h, t, p) := headMove (rdF s (EQ_CFG.SIZE_LOG2 fn)) (rdF s (EQ_PTR.HEAD fn)) (rdF s (EQ_PTR.TAIL fn)) x.phase idx
      let s := wrF (wrF s (EQ_PTR.HEAD fn) h) (EQ_PTR.TAIL fn) t
      dbTaken (setEq s fn { x with phase := p, overflowed := x.overflowed && decide (eqFree s fn ≤ 1) }) fn) s

/-! ### Fetch (R64, R89) -/

/-- Unfetched descriptors of a ring. -/
def unfetched (s : State) (fn q : Nat) : Nat :=
  ringUsed (rdF s (SQ_CFG.SIZE_LOG2 fn q)) (rdF s (SQ_PTR.HEAD fn q)) (rdF s (SQ_PTR.TAIL fn q))

/-- No fetch of the ring is retried any more. -/
def endFetchRetry (fn q : Nat) (s : State) : State :=
  readOver fn q 0 { s with host := { s.host with retries := s.host.retries.filter (fun r => !(decide (r.1 = fn ∧ r.2.1 = q ∧ r.2.2.1 = 0))) } }

/-- How many descriptors one read fetches: up to 8 unfetched ones, that do not wrap past the ring's end (R89). -/
def fetchCount (s : State) (fn q : Nat) : Nat :=
  min (min 8 (unfetched s fn q)) (2 ^ rdF s (SQ_CFG.SIZE_LOG2 fn q) - rdF s (SQ_PTR.HEAD fn q))

/-- The read of ring memory that fetches `n` descriptors: the ring's BASE, the function's requester ID and no PASID (R88). -/
def fetchRead (s : State) (fn q n : Nat) : HostMsg :=
  .hostRead fn none (rd64 s (.page fn (.SQ_BASE_LO q)) (.page fn (.SQ_BASE_HI q)) + 64 * rdF s (SQ_PTR.HEAD fn q)) (64 * n)

/-- A fetch of up to 8 descriptors of one ring, by one read, is received (R88, R89); its stamp is their acceptance (Table 2.3). -/
def descriptorFetch (fn q : Nat) (ds : List Desc) (s : State) : State :=
  if flag s (SQ_CFG.ENABLE fn q) = false ∨ instState s fn ≠ ENABLED then s
  else
    let n := min (fetchCount s fn q) ds.length
    let x := getSq s fn q
    let got := (ds.take n).map (fun d => { desc := d, stamp := now s, gen := instGen s fn : Fetched })
    let s := endFetchRetry fn q (if n = 0 then s else send s (fetchRead s fn q n))
    setSq (wrF s (SQ_PTR.HEAD fn q) ((rdF s (SQ_PTR.HEAD fn q) + n) % 2 ^ rdF s (SQ_CFG.SIZE_LOG2 fn q))) fn q
      { x with fetched := x.fetched ++ got }

/-! ### The share scheduler (R62) -/

/-- TIMESTAMP and WRITE_VALUE are implicitly fenced (Table 4.6). -/
def fenced (d : Desc) : Bool := bit (dFlags d) 0 || decide (dOpcode d = OP_TIMESTAMP ∨ dOpcode d = OP_WRITE_VALUE)

/-- NOT_BEFORE has passed (R34, R94); AUDIO_BUFFER is dispatched once within 4 ms of it. -/
def timeReached (s : State) (d : Desc) : Bool :=
  decide (dNotBefore d ≤ now s + if dOpcode d = OP_AUDIO_BUFFER then 4000000 else 0)

/-- The completion ring of ring `q` has a slot not yet reserved (R101). -/
def slotFree (s : State) (fn q : Nat) : Bool :=
  let c := rdF s (SQ_CFG.CQ fn q)
  let k := rdF s (CQ_CFG.SIZE_LOG2 fn c)
  decide (ringUsed k (rdF s (CQ_PTR.HEAD fn c)) (rdF s (CQ_PTR.TAIL fn c)) + (getCq s fn c).reserved < 2 ^ k - 1)

/-- A descriptor taken for dispatch: its ring, its instance and its flight number. -/
structure Taken where
  fn : Nat
  q : Nat
  id : Nat
  d : Desc
  stamp : Nat
deriving DecidableEq, Repr

/-- The status of the checks every descriptor passes, with those of its opcode: `own` the ownership checks, `form` the
payload's form check, `more` further conditions (R14, R92). -/
def checkDesc (s : State) (k : Taken) (own : List (Bool × Nat)) (form : Bool) (more : List (Bool × Nat)) : Nat :=
  pickStatus ((decide (dGen k.d ≠ instGen s k.fn), ST_STALE_GEN) :: own ++
    (!(headerForm s k.fn (rdF s (SQ_CFG.ENGINE k.fn k.q)) k.d && form), ST_BAD_DESC) :: more)

/-- A unit of a lease kind: named by the descriptor, and what its lease answers (R92). -/
def unitOwn (s : State) (fn kind unit : Nat) : Bool × Nat :=
  let u := unitStatus s fn kind unit
  (decide (unit < unitsOf kind ∧ u ≠ ST_OK), u)

/-- A channel that a TDM port feeds (R303). -/
def tdmSourced (s : State) (a : Nat) : Bool := flag s (AUD_A_CFG.SRC a)

/-- Bytes of a sample (Table 12.2). -/
def sampleSize (fmt : Nat) : Nat := if fmt = 0 then 2 else 4

/-- The checks of AUDIO_BUFFER (R304). -/
def checkAudio (s : State) (k : Taken) : Nat :=
  let a := u8 k.d 24
  let buf := u64 k.d 32
  let z := sampleSize (rdF s (AUD_A_CFG.FMT a))
  checkDesc s k [unitOwn s k.fn K_AUDIO a, (!(addrReach s k.fn buf (dLen k.d)), ST_NOT_OWNER)]
    (decide (a < 64 ∧ dLen k.d ≠ 0 ∧ dLen k.d ≤ 16777216 ∧ dLen k.d % z = 0 ∧ buf % z = 0) && !(tdmSourced s a)) []

/-- The engine of a descriptor has room: Fennel keeps a queue of 16 buffers for each channel, which holds back a buffer that passes
its checks (R304). -/
def engineRoom (s : State) (fn q : Nat) (d : Desc) : Bool :=
  if dOpcode d = OP_AUDIO_BUFFER ∧ checkAudio s { fn := fn, q := q, id := 0, d := d, stamp := 0 } = ST_OK
  then decide (rdF s (AUD_A_STATUS.QUEUED (u8 d 24)) < 16) else true

/-- The ready descriptor at the head of ring `q`, if it is ready (R62). -/
def readyHead (s : State) (fn q : Nat) : Option Fetched :=
  let x := getSq s fn q
  match x.fetched with
  | [] => none
  | f :: _ =>
    if timeReached s f.desc && x.wait.isNone && (!(fenced f.desc) || x.flights.isEmpty) && slotFree s fn q
       && engineRoom s fn q f.desc
    then some f else none

/-- What a descriptor costs in credits (R62). -/
def cost (d : Desc) : Nat := 1 + ceilDiv (dLen d) 4096

/-- The rings of an instance that hold fetched descriptors. -/
def fetchedRings (s : State) (fn : Nat) : List Nat :=
  (s.host.sq.filter (fun p => p.1 / 64 = fn ∧ p.2.fetched ≠ [])).map (fun p => p.1 % 64)

/-- The ready descriptor of an instance that the fetch arbiter takes next, with its ring (R62, R76). -/
def nextReady (s : State) (fn : Nat) : Option (Nat × Fetched) :=
  let rs := (fetchedRings s fn).filterMap (fun q => (readyHead s fn q).map (fun f => (q, f)))
  let p := (getInst s fn).ringRr
  match rs.find? (fun r => decide (p ≤ r.1)) with
  | some r => some r
  | none => rs.head?

/-- No unconsumed descriptor in any submission ring of the instance (R62). -/
def ringsEmpty (s : State) (fn : Nat) : Bool :=
  (fetchedRings s fn).isEmpty && (List.range (sqCount fn)).all (fun q => decide (unfetched s fn q = 0))

/-- The instance is eligible for a visit (R62). -/
def eligible (s : State) (fn : Nat) : Bool :=
  decide (0 < rdF s (INST_SHARE.SHARE fn) ∧ instState s fn = ENABLED) && (nextReady s fn).isSome

/-- The first eligible instance at or after the rotating pointer, wrapping (R62). -/
def nextEligible (s : State) : Option Nat :=
  ((List.range 257).map (fun i => (s.fab.rr + i) % 257)).find? (eligible s)

/-- A visit of instance `i` ends: without an unconsumed descriptor its deficit returns to 0, and the pointer moves past it (R62). -/
def endVisit (i : Nat) (s : State) : State :=
  let s := if ringsEmpty s i then setInst s i { getInst s i with deficit := 0 } else s
  { s with fab := { s.fab with visiting := none, rr := (i + 1) % 257 } }

/-- The ready descriptor that the visit of instance `i` goes on with, if its deficit covers one (R62). -/
def visitNext (s : State) (i : Nat) : Option (Nat × Fetched) :=
  match nextReady s i with
  | some (q, f) => if (cost f.desc : Int) ≤ (getInst s i).deficit ∧ eligible s i = true then some (q, f) else none
  | none => none

/-- After a dispatch the visit ends as soon as nothing is ready that the deficit covers (R62). -/
def afterDispatch (s : State) : State :=
  match s.fab.visiting with
  | some i => if (visitNext s i).isSome then s else endVisit i s
  | none => s

/-- The dispatch loop up to its next dispatch: the state of the scheduler and the descriptor it takes (R62). -/
def schedule (fuel : Nat) (s : State) : State × Option (Nat × Nat × Fetched) :=
  match fuel with
  | 0 => (s, none)
  | n + 1 =>
    match s.fab.visiting with
    | some i =>
      match visitNext s i with
      | some (q, f) => (s, some (i, q, f))
      | none => schedule n (endVisit i s)
    | none =>
      match nextEligible s with
      | none => (s, none)
      | some i =>
        let s := setInst s i { getInst s i with deficit := (getInst s i).deficit + (rdF s (INST_SHARE.SHARE i) * 64 : Nat) }
        schedule n { s with fab := { s.fab with visiting := some i } }

/-- Rounds after which the scheduler has reached any cost a descriptor can declare. -/
def SCHED_FUEL : Nat := 0x4000000

/-- The descriptor the scheduler takes next leaves its ring, pays its credits and reserves its completion slot (R62,
R101); `none` when nothing is ready or when `want` does not name its opcode. -/
def takeNext (want : Nat → Bool) (s : State) : Option (State × Taken) :=
  match schedule SCHED_FUEL s with
  | (s, some (fn, q, f)) =>
    if want (dOpcode f.desc) = false then none
    else
      let x := getSq s fn q
      let c := rdF s (SQ_CFG.CQ fn q)
      let i := getInst s fn
      let id := s.host.nextId
      let s := setInst s fn { i with deficit := i.deficit - (cost f.desc : Nat), ringRr := (q + 1) % sqCount fn }
      let s := setSq s fn q { x with fetched := x.fetched.tail, flights := x.flights ++ [{ id := id, desc := f.desc, stamp := f.stamp, gen := f.gen, cq := c }] }
      let s := setCq s fn c { getCq s fn c with reserved := (getCq s fn c).reserved + 1 }
      some ({ s with host := { s.host with nextId := id + 1 } }, { fn := fn, q := q, id := id, d := f.desc, stamp := f.stamp })
  | (_, none) => none

/-- A descriptor of opcode `op` is dispatched: checked, and completed with the status or carried out (R92). -/
def dispatch (op : Nat) (check : State → Taken → Nat) (run : Taken → State → State) (s : State) : State :=
  match takeNext (fun o => decide (o = op)) s with
  | none => s
  | some (s, k) =>
    let st := check s k
    afterDispatch (if st = ST_OK then run k s else complete s k.fn k.q k.id st)

/-! ### Descriptors that need no engine (Table 4.6) -/

/-- NOP completes at dispatch; so does a reserved opcode, with ST_BAD_DESC after the GEN check (R92, Table 4.6). -/
def dispatchNop (s : State) : State :=
  match takeNext (fun o => decide (o = OP_NOP) || !(knownOp o)) s with
  | none => s
  | some (s, k) =>
    let st := if knownOp (dOpcode k.d) then checkDesc s k [] true []
              else pickStatus [(decide (dGen k.d ≠ instGen s k.fn), ST_STALE_GEN), (true, ST_BAD_DESC)]
    afterDispatch (complete s k.fn k.q k.id st)

/-- The condition of a WAIT_VALUE is tested (R95). -/
def evalWait (fn q : Nat) (s : State) : State :=
  let x := getSq s fn q
  match x.wait with
  | none => s
  | some w =>
    if w.value ≤ readNum s w.addr 8 then complete (setSq s fn q { x with wait := none }) fn q w.id ST_OK
    else if 0 < w.timeoutUs ∧ w.since + w.timeoutUs * 1000 ≤ now s then
      complete (setSq s fn q { x with wait := none }) fn q w.id ST_TIMEOUT
    else s

/-- Every WAIT_VALUE that holds a ring is tested (R95). -/
def evalWaits (s : State) : State :=
  forEach ((s.host.sq.filter (fun p => p.2.wait.isSome)).map (·.1)) (fun k s => evalWait (k / 64) (k % 64) s) s

/-- TIMESTAMP: the DTIME of dispatch is written at DEST (Table 4.6, Table 4.7). -/
def checkTimestamp (s : State) (k : Taken) : Nat :=
  checkDesc s k [(!(addrReach s k.fn (u64 k.d 32) 8), ST_NOT_OWNER)] (decide (u64 k.d 32 % 8 = 0)) []
def runTimestamp (k : Taken) (s : State) : State :=
  complete (writeAddr s k.fn k.d (u64 k.d 32) (toBytes 8 (now s))) k.fn k.q k.id ST_OK

/-- WAIT_VALUE holds its ring until the value at ADDR reaches VALUE (R95). -/
def checkWaitValue (s : State) (k : Taken) : Nat :=
  checkDesc s k [(!(hostSpace (u64 k.d 32)) && !(reaches s k.fn (u64 k.d 32) 8), ST_NOT_OWNER)]
    (decide (u64 k.d 32 % 8 = 0) && !(hostSpace (u64 k.d 32))) []
def runWaitValue (k : Taken) (s : State) : State :=
  let w : WaitV := { id := k.id, addr := u64 k.d 32, value := u64 k.d 40, since := now s, timeoutUs := u32 k.d 24 }
  evalWait k.fn k.q (setSq s k.fn k.q { getSq s k.fn k.q with wait := some w })

/-- WRITE_VALUE writes VALUE at ADDR; after a write to device memory every WAIT_VALUE is tested (R95). -/
def checkWriteValue (s : State) (k : Taken) : Nat :=
  checkDesc s k [(!(addrReach s k.fn (u64 k.d 32) 8), ST_NOT_OWNER)] (decide (u64 k.d 32 % 8 = 0)) []
def runWriteValue (k : Taken) (s : State) : State :=
  let a := u64 k.d 32
  let s := complete (writeAddr s k.fn k.d a (toBytes 8 (u64 k.d 40))) k.fn k.q k.id ST_OK
  if hostSpace a then s else evalWaits s

/-! ### COPY (R96) -/

/-- Source and destination ranges overlap in one space. -/
def copyOverlap (src dst len : Nat) : Bool := decide (src < dst + len ∧ dst < src + len)

def checkCopy (s : State) (k : Taken) : Nat :=
  let src := u64 k.d 32
  let dst := u64 k.d 40
  let n := dLen k.d
  checkDesc s k [(!(addrReach s k.fn src n) || !(addrReach s k.fn dst n), ST_NOT_OWNER)]
    (decide (1 ≤ n ∧ n ≤ 16777216) && !(copyOverlap src dst n)) []
def runCopy (k : Taken) (s : State) : State :=
  let c : CopyOp := { fn := k.fn, q := k.q, id := k.id, gen := instGen s k.fn, src := u64 k.d 32, dst := u64 k.d 40, len := dLen k.d }
  let s := { s with host := { s.host with copies := s.host.copies ++ [c] } }
  if hostSpace c.src then send s (.hostRead k.fn (pasidOf s k.fn k.d) (hostAddr c.src) c.len) else s

/-- Bytes at and beyond the range a stopped COPY failed in: left as they were or source data, in any mix (R96).  Source data that
has not reached the device is an open byte. -/
def mixBytes (n : Nat) (old src : List Byte) : List Byte :=
  match old, src with
  | o :: os, b :: bs => (if Config.freeNat n % 2 = 0 then o else b) :: mixBytes (n + 1) os bs
  | o :: os, [] => (if Config.freeNat n % 2 = 0 then o else Config.freeByte n) :: mixBytes (n + 1) os []
  | [], _ => []

/-- The host reads that are outstanding, as (fn, ring, flight): those of COPY, retried ones, with flight 0 for a descriptor fetch, and,
as ring 64 of I0, the transfer of an update block. -/
def outstandingReads (s : State) : List (Nat × Nat × Nat) :=
  (s.host.copies.filter (fun c => hostSpace c.src)).map (fun c => (c.fn, c.q, c.id))
    ++ s.host.retries.map (fun r => (r.1, r.2.1, r.2.2.1)) ++ (if s.upd.xfer.isSome then [(0, 64, 0)] else [])

/-- The Invalidate Queue Depth of Table 4.1: so many invalidations may wait, and the translation agent sends no more. -/
def ATS_QUEUE_DEPTH : Nat := 32

/-- An ATS invalidation lets the reads that use the translations so far finish; later ones use new translations (R110). -/
def atsInvalidation (tag : Nat) (s : State) : State :=
  if ATS_QUEUE_DEPTH ≤ s.host.atsWait.length then s
  else
  let rs := outstandingReads s
  let s := { s with host := { s.host with atsEpoch := s.host.atsEpoch + 1 } }
  if rs = [] then send s (.atsDone tag) else { s with host := { s.host with atsWait := s.host.atsWait ++ [(tag, rs)] } }

/-- The length of the source before its first poisoned block (R361). -/
def cleanPrefix (s : State) (a n : Nat) : Nat :=
  match (List.range (ceilDiv (a % 64 + n) 64)).find? (fun i => poisonedRange s ((a / 64 + i) * 64) 64) with
  | none => n
  | some i => min n ((a / 64 + i) * 64 - a)

/-- A COPY ends with the `good` first bytes of its source carried out and status `st`; `data` is what is known of its source. -/
def finishCopy (c : CopyOp) (data : List Byte) (good st : Nat) (s : State) : State :=
  let s := readOver c.fn c.q c.id { s with host := { s.host with copies := s.host.copies.filter (fun x => x.id ≠ c.id), retries := s.host.retries.filter (fun r => r.2.2.1 ≠ c.id) } }
  if c.gen ≠ instGen s c.fn then incF s (INST_LATE_DROP.COUNT c.fn)
  else
    let d : Desc := match (getSq s c.fn c.q).flights.find? (fun f => decide (f.id = c.id)) with
      | some f => f.desc
      | none => 0
    let full := data.take c.len
    let s := if hostSpace c.dst then send s (.copyData c.fn (pasidOf s c.fn d) (hostAddr c.dst) (full.take good))
      else
        let done := full.take good
        let left := c.len - done.length
        let rest := mixBytes s.free (readMem s (c.dst + done.length) left) (full.drop good)
        { writeMem s c.dst (done ++ rest) with free := s.free + left }
    complete s c.fn c.q c.id st

/-- A COPY finishes, or stops at poisoned data (R96, R361); `data` is what the host answered for a host source. -/
def copyComplete (id : Nat) (data : List Byte) (s : State) : State :=
  match s.host.copies.find? (fun c => decide (c.id = id)) with
  | none => s
  | some c =>
    if hostSpace c.src then finishCopy c data c.len ST_OK s
    else
      let good := cleanPrefix s c.src c.len
      let s := touch s c.src (min c.len (good + 1))
      finishCopy c (readMem s c.src c.len) good (if good = c.len then ST_OK else ST_FAULT_TRANSIENT) s

/-! ### Interrupts (R107) -/

/-- A moderation window reaches its end (R107), also of a ring that has been disabled since (log entry 197). -/
def windowDue (s : State) (w : Window) : Bool := decide (0 < w.waiting ∧ w.openAt + w.timeUs * 1000 ≤ now s)

def cqModTimeout (fn c : Nat) (s : State) : State :=
  let x := getCq s fn c
  if windowDue s x.window then
    signal (setCq s fn c { x with window := { x.window with waiting := 0 } }) fn (rdF s (CQ_CFG.VECTOR fn c))
  else s

def eqModTimeout (fn : Nat) (s : State) : State :=
  let x := getEq s fn
  if windowDue s x.window then
    signal (setEq s fn { x with window := { x.window with waiting := 0 } }) fn (rdF s (EQ_CFG.VECTOR fn))
  else s

/-- The host clears a vector's mask bit; a pending vector sends (R107). -/
def vectorUnmask (fn v : Nat) (s : State) : State :=
  let w := BitVec.ofNat 32 (clearBit (msixWord s fn v 3).toNat 0)
  let s := { s with host := { s.host with msix := Sparse.set (msixReset 3) s.host.msix (msixKey fn v 3) w } }
  if s.host.msixPend.contains (fn * 64 + v) then
    send { s with host := { s.host with msixPend := s.host.msixPend.filter (· ≠ fn * 64 + v) } } (.msix fn v)
  else s

/-! ### Host read failures (R109) -/

/-- A submission ring stops: what was fetched and not dispatched is discarded, and no fetch of it is retried (R109, R112). -/
def stopSq (fn q : Nat) (s : State) : State :=
  let s := endFetchRetry fn q s
  setSq s fn q { getSq s fn q with fetched := [] }

/-- A submission ring halts: RING_HALT event, ERR and ENABLE cleared (R109). -/
def haltRing (fn q st : Nat) (s : State) : State :=
  let s := stopSq fn q s
  let s := wrB (wrF s (SQ_CFG.ERR fn q) st) (SQ_CFG.ENABLE fn q) false
  postEvent s fn EV_RING_HALT fn 0 (q + st * 65536)

/-- A failed read is reported through AER of its function (R109): the status bit of a Completion Timeout (14) or a poisoned completion
(12), or of an Unsupported Request (20) or a Completer Abort (15); which of the two, the command does not tell. -/
def reportAer (fn : Nat) (soft : Bool) (s : State) : State :=
  let c := Sparse.get {} s.host.fnCfg fn
  let one := fresh s % 2 = 0
  let b := if soft then (if one then 14 else 12) else (if one then 20 else 15)
  send (spend { s with host := { s.host with fnCfg := Sparse.set {} s.host.fnCfg fn { c with aer := BitVec.ofNat 32 (setBit c.aer.toNat b) } } }) (.aer fn)

/-- A host read of function `fn` for work of ring `q` fails: `soft` for a completion timeout or poisoned completion, which is
retried once; else an Unsupported Request, Completer Abort or a translation without permission (Table 4.12).  `id` 0 is a descriptor
fetch, else the flight; `ofs` tells the reads of one descriptor apart.  `give` tells what becomes of the work once the read has
failed for good. -/
def readFailure (fn q id ofs : Nat) (soft : Bool) (retry : State → State) (give : Nat → State → State) (s : State) : State :=
  let s := reportAer fn soft s
  if soft = true ∧ s.host.retries.contains (fn, q, id, ofs) = false then
    retry { s with host := { s.host with retries := (fn, q, id, ofs) :: s.host.retries } }
  else
    give (if soft then ST_FAULT_TRANSIENT else ST_NOT_OWNER)
      { s with host := { s.host with retries := s.host.retries.filter (· ≠ (fn, q, id, ofs)) } }

/-! ### Ring setup (R111, R112) -/

/-- What the device keeps of a ring starts anew when it is enabled (R100, R103, R111); slots stay reserved for work still in
flight (R101). -/
def startSq (fn q : Nat) (s : State) : State := setSq (wr s (.SQ_PTR fn q) 0) fn q { getSq s fn q with fetched := [] }

def startCq (fn c : Nat) (s : State) : State := setCq (wr s (.CQ_PTR fn c) 0) fn c { reserved := (getCq s fn c).reserved }
def startEq (fn : Nat) (s : State) : State := setEq (wr s (.EQ_PTR fn) 0) fn {}

/-- The first failing check of an ENABLE write of a submission ring (R111); I0 has no limits (R87). -/
def sqEnableStatus (s : State) (fn q v : Nat) : Nat :=
  let eng := bitsOf v 10 8
  let c := bitsOf v 20 16
  if 0 < fn ∧ bit (rdF s (HOST_LIMIT.ENGINES (fn - 1))) eng = false then ST_NOT_OWNER
  else if cqCount fn ≤ c ∨ flag s (CQ_CFG.ENABLE fn c) = false then ST_BAD_DESC
  else if 0 < fn ∧ (rdF s (HOST_LIMIT.MAX_SQ_M1 (fn - 1)) < q ∨ rdF s (HOST_LIMIT.MAX_LOG2 (fn - 1)) < bitsOf v 7 3) then ST_NO_SPACE
  else ST_OK

/-- The same of a completion ring; an event ring has no index limit (R111, R113). -/
def cqEnableStatus (s : State) (fn : Nat) (c : Option Nat) (v : Nat) : Nat :=
  if 0 < fn ∧ ((match c with | some c => decide (rdF s (HOST_LIMIT.MAX_CQ (fn - 1)) ≤ c) | none => false) = true
      ∨ rdF s (HOST_LIMIT.MAX_LOG2 (fn - 1)) < bitsOf v 7 3) then ST_NO_SPACE
  else ST_OK

/-- A log entry for a discarded write of a ring setup register. -/
def logRingDiscard (s : State) (fn off : Nat) : State :=
  if fn = 0 then writeLog s 0 .host 0x01 0 (0x1002000 + off) else logDiscardVF s fn (0x8000 + off)

/-- The handling of a CFG write that R111 and R112 share: `en` the ENABLE field, `status` of an ENABLE write, `start` and
`stop` what enabling and disabling do, `mayStop` whether ENABLE = 0 is taken.  ERR keeps its value over ENABLE = 0 (log entry 198). -/
def writeRingCfg (fn : Nat) (r : Reg) (en err : Fld) (reservedOk : Bool) (status : Nat) (start stop : State → State)
    (mayStop : Bool) (v : Nat) (s : State) : State :=
  let old := (rd s r).toNat
  let off := r.key % 2 ^ 32
  let other := decide (fieldWrite false r.fields old (clearBit v 0) ≠ clearBit old 0)
  if (admitted (r.fields.filter (fun f => decide (f.hi ≠ 0))) v && reservedOk) = false then logRingDiscard s fn off
  else if flag s en then
    if bit v 0 = false then
      let s := if other then logRingDiscard s fn off else s
      if mayStop then stop (wrB s en false) else wrF s err ST_BAD_DESC
    else if other then logRingDiscard s fn off else s
  else
    let s := wr s r (BitVec.ofNat 32 (fieldWrite false r.fields old (clearBit v 0)))
    if bit v 0 then
      if status = ST_OK then start (wrB (wrF s err ST_OK) en true) else wrF s err status
    else s

/-- A vector a ring of `fn` can name (R106, Table 4.13). -/
def vectorOk (fn v : Nat) : Bool := decide (bitsOf v 21 16 ≤ if fn = 0 then 62 else 6)

/-- An enabled submission ring names completion ring `c` (R112). -/
def cqNamed (s : State) (fn c : Nat) : Bool :=
  (List.range (sqCount fn)).any (fun q => flag s (SQ_CFG.ENABLE fn q) && decide (rdF s (SQ_CFG.CQ fn q) = c))

def writeSqCfg (fn q v : Nat) (s : State) : State :=
  writeRingCfg fn (.SQ_CFG fn q) (SQ_CFG.ENABLE fn q) (SQ_CFG.ERR fn q) true (sqEnableStatus s fn q v)
    (startSq fn q) (stopSq fn q) true v s

def writeCqCfg (fn c v : Nat) (s : State) : State :=
  writeRingCfg fn (.CQ_CFG fn c) (CQ_CFG.ENABLE fn c) (CQ_CFG.ERR fn c) (vectorOk fn v) (cqEnableStatus s fn (some c) v)
    (startCq fn c) id (!(cqNamed s fn c)) v s

def writeEqCfg (fn v : Nat) (s : State) : State :=
  writeRingCfg fn (.EQ_CFG fn) (EQ_CFG.ENABLE fn) (EQ_CFG.ERR fn) (vectorOk fn v) (cqEnableStatus s fn none v)
    (startEq fn) id true v s

/-- A CFG write of a ring: kind 0 submission, 1 completion, 2 event; a ring the function does not have is reserved. -/
def writeRing (fn kind idx v : Nat) (s : State) : State :=
  if exists? s fn = false ∨ justReset s fn = true then s
  else if kind = 0 then (if idx < sqCount fn then writeSqCfg fn idx v s else s)
  else if kind = 1 then (if idx < cqCount fn then writeCqCfg fn idx v s else s)
  else writeEqCfg fn v s

/-- Every ring of the function is disabled, its pointers return to 0 and its setup registers to their reset values (R56). -/
def resetRings (fn : Nat) (s : State) : State :=
  let s := { s with regs := Sparse.clear s.regs ((fn + 1) * 2 ^ 32) ((fn + 1) * 2 ^ 32 + 0xC00) }
  let h := { s.host with sq := Sparse.clear s.host.sq (fn * 64) (fn * 64 + 64), cq := Sparse.clear s.host.cq (fn * 32) (fn * 32 + 32) }
  let waits := fun (k : Nat × Nat × Nat) => decide (k.1 = fn) && h.retries.any (fun r => decide ((r.1, r.2.1, r.2.2.1) = k))
  readsOver waits { s with host := { h with eq := Sparse.erase h.eq fn, retries := h.retries.filter (fun r => r.1 ≠ fn) } }

/-! ### The meanings -/

def execSqTailDoorbell (t fn q gen idx : Nat) (s : State) : Host.Outcome State Fault Refusal := act t (onBar fn (sqTailDoorbell fn q gen idx)) s
def execCqHeadDoorbell (t fn c gen idx : Nat) (s : State) : Host.Outcome State Fault Refusal := act t (onBar fn (cqHeadDoorbell fn c gen idx)) s
def execEqHeadDoorbell (t fn gen idx : Nat) (s : State) : Host.Outcome State Fault Refusal := act t (onBar fn (eqHeadDoorbell fn gen idx)) s
def execDescriptorFetch (t fn q : Nat) (ds : List Desc) (s : State) : Host.Outcome State Fault Refusal := act t (descriptorFetch fn q ds) s
def execNop (t : Nat) (s : State) : Host.Outcome State Fault Refusal := act t dispatchNop s
def execTimestamp (t : Nat) (s : State) : Host.Outcome State Fault Refusal := act t (dispatch OP_TIMESTAMP checkTimestamp runTimestamp) s
def execWaitValue (t : Nat) (s : State) : Host.Outcome State Fault Refusal := act t (dispatch OP_WAIT_VALUE checkWaitValue runWaitValue) s
def execWaitValueEval (t : Nat) (s : State) : Host.Outcome State Fault Refusal := act t evalWaits s
def execWriteValue (t : Nat) (s : State) : Host.Outcome State Fault Refusal := act t (dispatch OP_WRITE_VALUE checkWriteValue runWriteValue) s
def execCopy (t : Nat) (s : State) : Host.Outcome State Fault Refusal := act t (dispatch OP_COPY checkCopy runCopy) s
def execMsixModTimeout (t fn c : Nat) (events : Bool) (s : State) : Host.Outcome State Fault Refusal :=
  act t (if events then eqModTimeout fn else cqModTimeout fn c) s
def execAtsInvalidation (t tag : Nat) (s : State) : Host.Outcome State Fault Refusal := act t (atsInvalidation tag) s
def execMsixVectorUnmask (t fn v : Nat) (s : State) : Host.Outcome State Fault Refusal := act t (onBar fn (vectorUnmask fn v)) s
def execRingEnable (t fn kind idx : Nat) (v : Word) (s : State) : Host.Outcome State Fault Refusal :=
  act t (onBar fn (writeRing fn kind idx (setBit v.toNat 0))) s
def execRingDisable (t fn kind idx : Nat) (v : Word) (s : State) : Host.Outcome State Fault Refusal :=
  act t (onBar fn (writeRing fn kind idx (clearBit v.toNat 0))) s

end Sys2Proof.Machine
end

