-- ==== Sys2Proof/Machine/Layers.lean ====
section
/-! DEFINITION. Layer pipes: flips, surface shapes, coefficient memory and pipe faults (R172 to R182, R188, R203). -/

namespace Sys2Proof.Machine

/-! ### FLIP (R176, R177) -/

def checkFlip (s : State) (k : Taken) : Nat :=
  let p := u8 k.d 24
  let s0 := u64 k.d 32
  let s1 := u64 k.d 40
  let x := nextShape s p
  let n0 := if p < 96 then x.pitch0 * x.h else 1
  let two := decide (p < 96) && twoPlanes x.format
  let own := (hostSpace s0 || reaches s k.fn s0 n0)
    && (hostSpace s1 || (if two then reaches s k.fn s1 (x.pitch1 * chromaH x) else decide (s1 = 0) || reaches s k.fn s1 1))
  checkDesc s k [unitOwn s k.fn K_PIPE p, (!own, ST_NOT_OWNER)]
    (decide (p < 96 ∧ s0 % 256 = 0 ∧ s1 % 256 = 0) && !(hostSpace s0) && !(hostSpace s1) && decide (twoPlanes x.format = true ↔ s1 ≠ 0))
    [(decide (p < 96) && pipeRetired s p, ST_RETIRED), (safe s, ST_SAFE_STATE)]

/-- A source or measurement time later than its acceptance is replaced by it and counted (R36). -/
def clampTime (fn t accept : Nat) (s : State) : Nat × State :=
  if accept < t then (accept, incF s (INST_SRC_CLAMP.COUNT fn)) else (t, s)

def setPend (s : State) (p : Nat) (f : Option Flip) : State :=
  wrB (setPipe s p { getPipe s p with pend := f }) (LYR_STATUS.FLIP_PEND p) f.isSome

/-- The flip takes the pending slot; a flip it replaces completes with ST_OK (R177). -/
def runFlip (k : Taken) (s : State) : State :=
  let p := u8 k.d 24
  let (ts, s) := clampTime k.fn (u64 k.d 48) k.stamp s
  let s := match (getPipe s p).pend with
    | some o => complete s o.fn o.q o.id ST_OK
    | none => s
  setPend s p (some { fn := k.fn, q := k.q, id := k.id, surf0 := u64 k.d 32, surf1 := u64 k.d 40, tsrc := ts, target := u32 k.d 28, stamp := now s })

/-- A pending flip is discarded and completes with a status (R181). -/
def discardFlip (p st : Nat) (s : State) : State :=
  match (getPipe s p).pend with
  | some f => complete (setPend s p none) f.fn f.q f.id st
  | none => s

/-- A pending flip is discarded without completion (R181). -/
def dropFlip (p : Nat) (s : State) : State := if (getPipe s p).pend.isSome then setPend s p none else s

/-! ### At a commit point (R174, R178, R195) -/

/-- A shape put in force. -/
def View.putShape (v : View) (p : Nat) (x : Shape) : View :=
  let fmt := (v.reg (.LYR_FMT p)).toNat
  let fmt := setBits (setBits fmt 15 14 (x.fmt / 16384)) 7 0 (x.fmt % 256)
  ((v.put (.LYR_FMT p) (BitVec.ofNat 32 fmt)).put (.LYR_SRC p) x.src).put (.LYR_PITCH p) x.pitch

/-- The shadow registers of a pipe become active; a change of shape waits for the next flip (R174). -/
def applyPipe (s : State) (v : View) (p : Nat) : View :=
  let keep := v.shape p
  let v := (pipeShadow p).foldl (fun v r => v.put r (rd s r)) v
  v.putShape p keep

/-- The waiting shape after a committed change: none if it equals the shape in force (R174). -/
def setWaiting (s : State) (p : Nat) (x : Shape) : State :=
  let w := if x = View.shape s.dsp.active p then none else some x
  wrB (setPipe s p { getPipe s p with waiting := w }) (LYR_STATUS.SHAPE_PEND p) w.isSome

/-- The pending flip's target has come (R178). -/
def flipDue (f : Flip) (frame t : Nat) : Bool := decide (f.stamp < t ∧ 0 ≤ signed 32 (frame + 2 ^ 32 - f.target))

/-- A pending flip commits: surfaces, T_src and waiting shape; a flip whose planes left the slice is discarded, and one whose lease is
ending is left for its end (R178, R181, Table 3.8). -/
def commitFlip (frame p : Nat) (s : State) : State :=
  match (getPipe s p).pend with
  | none => s
  | some f =>
    if flipDue f frame (now s) = false ∨ pipeRetired s p = true ∨ (getLease s K_PIPE p).state = .revoking then s
    else
      let x := nextShape s p
      if planesInside s f.fn x f.surf0 f.surf1 = false then discardFlip p ST_NOT_OWNER s
      else
        let s := setActive s (View.putShape s.dsp.active p x)
        let s := wrB (setPend s p none) (LYR_STATUS.SHAPE_PEND p) false
        let s := setPipe s p { getPipe s p with surf0 := f.surf0, surf1 := f.surf1, owner := f.fn, waiting := none }
        let s := wr64 (wrF s (LYR_TARGET.TARGET p) f.target) (.LYR_TSRC_LO p) (.LYR_TSRC_HI p) f.tsrc
        complete s f.fn f.q f.id ST_OK

def getBank (x : Pipe) (b : Nat) : BadBank := if b = 0 then x.bank0 else x.bank1
def setBank (x : Pipe) (b : Nat) (y : BadBank) : Pipe := if b = 0 then { x with bank0 := y } else { x with bank1 := y }

/-- The bank in use of a scaler pipe is marked bad. -/
def bankBad (s : State) (p : Nat) : Bool := decide (p < 48) && (getBank (getPipe s p) (aF s (LYR_COEF_SEL.BANK p))).bad

/-- A pipe of a head at the head's commit point: its class, its flip, k of the frame, and a frame without fault pixels but those of a bad
bank (R174, R178, R195, R203). -/
def pipeAtCommit (frame p : Nat) (s : State) : State :=
  let s := setActive s (View.put s.dsp.active (.LYR_FCLASS p) (rd s (.LYR_FCLASS p)))
  let s := commitFlip frame p (setPipe s p { getPipe s p with faults := [], badFrame := bankBad s p })
  wrF s (LYR_STATUS.RP_K p) (reprojK s p (frame % 2 ^ 32))

/-! ### Coefficient memory (R188) -/

/-- The commit that holds a pipe's shadow state is pending (R223, R225). -/
def pipePending (s : State) (p : Nat) : Bool :=
  let heads := (View.pipeHead s.dsp.active p).toList ++ (if flag s (LYR_HEAD.ENABLE p) then [rdF s (LYR_HEAD.HEAD p)] else [])
  s.dsp.commits.any (fun c => heads.any (fun h => c.heads.contains h))

/-- A half of a coefficient word is the sign extension of a 10-bit value. -/
def coefOk (h : Nat) : Bool := decide (-512 ≤ signed 16 h ∧ signed 16 h ≤ 511)

/-- A write of LYR_n_COEF_DATA: one word at WORD, which then advances (R188). -/
def coefWrite (p : Nat) (v : Word) (s : State) : State :=
  if 48 ≤ p then s
  else
    let bank := rdF s (LYR_COEF_ADDR.BANK p)
    let k := rdF s (LYR_COEF_ADDR.WORD p)
    let b := getBank (getPipe s p) bank
    let inUse := decide (aF s (LYR_COEF_SEL.BANK p) = bank) && !b.bad
    let named := pipePending s p && decide (rdF s (LYR_COEF_SEL.BANK p) = bank ∧ aF s (LYR_COEF_SEL.BANK p) ≠ bank)
    if inUse || named || !(coefOk (v.toNat % 65536)) || !(coefOk (v.toNat / 65536)) then logDiscard s (Reg.LYR_COEF_DATA p).key
    else
      let w := if b.bad then setBit b.written k else 0
      let b := if b.bad = true ∧ popCount 768 w = 768 then { bad := false, written := 0 } else { b with written := w }
      let s := setPipe s p (setBank (getPipe s p) bank b)
      let s := { s with dsp := { s.dsp with coef := Sparse.set (coefWordInit k) s.dsp.coef (coefKey p bank k) v } }
      wrF s (LYR_COEF_ADDR.WORD p) (if k = 767 then 0 else k + 1)

/-! ### Contributions with source time 0 (R203, R248) -/

/-- The captures of the device changed one by one. -/
def mapCaptures (f : Capture → Capture) (s : State) : State := { s with dsp := { s.dsp with captures := s.dsp.captures.map f } }

/-- The capture runs on the frame that its head scans (R200, R201). -/
def capturing (s : State) (h : Nat) (c : Capture) : Bool :=
  decide (c.head = h ∧ c.frame = frameOf s (groupOf h) % 2 ^ 32) && c.unit.isSome

/-- In the tile row being scanned, the tiles that `meets` names get a contributor of class `cls` with source time 0; their choice is
formed anew, and a capture of the frame takes that source time (R37, R44). -/
def addStale (h cls : Nat) (meets : Nat → Bool) (s : State) : State :=
  let x := getHead s h
  let cols := (List.range x.rowSrcs.length).filter meets
  if cls = 0 ∨ cols = [] then s
  else
    let srcs := (List.range x.rowSrcs.length).map (fun i => if meets i then (cls, 0) :: x.rowSrcs.getD i [] else x.rowSrcs.getD i [])
    let s := setHead s h { x with rowSrcs := srcs, chosen := srcs.map (chooseClass s x.rowAt x.rowUncert) }
    mapCaptures (fun c => if capturing s h c then { c with tsrc := some 0 } else c) s

/-- A fault row of a pipe carries its class's stale treatment on its head and on the clones of that, also where the fault comes after the
row's stamp (R203, R215). -/
def staleRow (p : Nat) (s : State) : State :=
  match View.pipeHead s.dsp.active p with
  | none => s
  | some h0 =>
    forEach ((List.range 12).filter (fun h => sourceOf s h = h0)) (fun h s =>
      let q := pipeView s p
      let sc := scene s h
      let row := (getHead s h).row
      if q.faultRow row then addStale h q.cls (fun col => q.meets (tilePixelsOf sc row col)) s else s) s

/-! ### Pipe faults (R203, Table 7.6) -/

/-- A parity error of coefficient memory reports no fault: a direct pipe has none, and a bank marked bad stays so (Table 7.6). -/
def parityMoot (s : State) (p : Nat) : Bool :=
  decide (48 ≤ p) || (getBank (getPipe s p) (aF s (LYR_COEF_SEL.BANK p))).bad

/-- A pipe fault: row 0 fetch data late from a line on, which admission rules out while the memory is healthy (R456), row 1 an ECC or MMU
error from a pixel to the end of the last line affected, row 2 a parity error in the bank in use.  One of a pipe that is not enabled
matters only where it is retired. -/
def pipeFault (p row line col last : Nat) (s : State) : State :=
  if 96 ≤ p ∨ (2 ≤ row ∧ parityMoot s p = true) ∨ (row = 0 ∧ memHealthy s = true) then s
  else if (View.pipeHead s.dsp.active p).isNone then
    reportIdle { id := 0x0C, kind := U_PIPE, unit := p, detail := min row 2 } s
  else
    let l := getLease s K_PIPE p
    let h := aF s (LYR_HEAD.HEAD p)
    let x := getPipe s p
    let x : Pipe :=
      if row = 0 then { x with faults := { line := line, col := 0, last := vact s.dsp.active h } :: x.faults }
      else if row = 1 then { x with faults := { line := line, col := col, last := max line last } :: x.faults }
      else { setBank x (aF s (LYR_COEF_SEL.BANK p)) { bad := true, written := 0 } with faults := { line := 0, col := 0, last := vact s.dsp.active h } :: x.faults }
    let inst := if l.state = .held then l.holder else 0
    staleRow p (reportFault { id := 0x0C, kind := U_PIPE, unit := p, inst := inst, detail := min row 2 } (setPipe s p x))

def execFlip (t : Nat) (s : State) : Host.Outcome State Fault Refusal := act t (dispatch OP_FLIP checkFlip runFlip) s
def execCoefDataWrite (t p : Nat) (v : Word) (s : State) : Host.Outcome State Fault Refusal := act t (onBar0 (coefWrite p v)) s
def execPipeFault (t p row line col last : Nat) (s : State) : Host.Outcome State Fault Refusal := actIn 6 t (pipeFault p row line col last) s

end Sys2Proof.Machine
end

