-- ==== Sys2Proof/Machine/Output.lean ====
section
/-! DEFINITION. What a head sends: stages 5 to 7 of R19, the transition and safe-state patterns, the out-of-service card, the raster, and
the stream of the link with its DSC encoding and test CRCs (R205, R214, R217, R218, R231, R232, R270, R271, R275, R292, R410). -/

namespace Sys2Proof.Machine

/-! ### Regions -/

def getRegion (s : State) (h r : Nat) : Region := Sparse.get {} s.art.regions (h * 16 + r)
def setRegion (s : State) (h r : Nat) (x : Region) : State := { s with art := { s.art with regions := Sparse.set {} s.art.regions (h * 16 + r) x } }
def getSink (s : State) (h : Nat) : Sink := Sparse.get {} s.art.sinks h
def setSink (s : State) (h : Nat) (x : Sink) : State := { s with art := { s.art with sinks := Sparse.set {} s.art.sinks h x } }

/-- The regions of a head (Table 10.8). -/
def regionsOf (s : State) (h : Nat) : List Nat := (List.range 16).filter (fun r => rdF s (ART_R_SIZE.W h r) ≠ 0)

def regionTsrc (s : State) (h r : Nat) : Nat := rd64 s (.ART_R_TSRC_LO h r) (.ART_R_TSRC_HI h r)

/-- The plate of the store that a region shows. -/
def regionPlate (s : State) (h r : Nat) : Option Nat := (getRegion s h r).plates[rdF s (ART_R_SEL.PLATE h r)]?

def BLACK : Rgb := (0, 0, 0)

/-- The F7 colour of Table 2.5. -/
def f7Colour (s : State) : Rgb := rgbOf (rdF s ART_F7_COLOUR.RGB)

/-- The region of the head that an active pixel lies in. -/
def regionOfPixel (s : State) (h x y : Nat) : Option Nat :=
  (regionsOf s h).find? (fun r => decide (rdF s (ART_R_POS.X h r) ≤ x ∧ x < rdF s (ART_R_POS.X h r) + rdF s (ART_R_SIZE.W h r)
    ∧ rdF s (ART_R_POS.Y h r) ≤ y ∧ y < rdF s (ART_R_POS.Y h r) + rdF s (ART_R_SIZE.H h r)))

/-- A pixel of the plate that a region shows (R262, R270). -/
def platePixel (s : State) (h r x y : Nat) : Rgb :=
  match (regionPlate s h r).bind (fun p => s.art.plates[p]?) with
  | some q => rgbOf (readNum s (q.addr + 4 * ((y - rdF s (ART_R_POS.Y h r)) * q.w + (x - rdF s (ART_R_POS.X h r)))) 4)
  | none => BLACK

/-- What a region shows at a line of the frame (R270, row 0x02 of Table 10.5). -/
def contentAt (g : Region) (y : Nat) : Content :=
  match g.guardFrom with
  | some l => if l ≤ y then .guard else g.content
  | none => g.content

/-- The transition pattern (R232). -/
def transitionPixel (s : State) (h x y : Nat) : Rgb :=
  if (regionOfPixel s h x y).isSome then regionPixel (f7Colour s) .guard BLACK x y else BLACK

/-- The head sends the transition pattern on line `y` of this frame: in TRANSITION, or after fault 0x0D or 0x0E (Table 11.3). -/
def inPattern (s : State) (h y : Nat) : Bool :=
  let x := getHead s h
  decide (headState s h = TRANSITION) || x.patternNow || (match x.patternFrom with | some l => decide (l ≤ y) | none => false)

/-- The stream after stage 5 at an active pixel of the tile row scanned last (R19, R232, R292). -/
def stage5 (s : State) (h x y : Nat) : Rgb :=
  if (getHead s h).safePattern then regionPixel (f7Colour s) .guard BLACK x y
  else if inPattern s h y then transitionPixel s h x y
  else match regionOfPixel s h x y with
    | some r => regionPixel (f7Colour s) (contentAt (getRegion s h r) y) (platePixel s h r x y) x y
    | none => stage4 s h (scene s h) x y

/-! ### The out-of-service card (R410) -/

def hexDigit (d : Nat) : Nat := if d < 10 then 48 + d else 55 + d

/-- `n` hex digits of a number, the highest first. -/
def hexText (n v : Nat) : List Nat := (List.range n).map (fun i => hexDigit (bitsOf v (4 * (n - 1 - i) + 3) (4 * (n - 1 - i))))

def codes (t : String) : List Nat := t.toList.map Char.toNat

/-- The serial's text: ASCII bytes, ended by 0. -/
def serialText (s : State) : List Nat :=
  ((List.range 16).map (fun i => bitsOf (rd s (.ID_SERIAL (i / 4))).toNat (8 * (i % 4) + 7) (8 * (i % 4)))).takeWhile (fun c => decide (c ≠ 0))

/-- The three lines of the card. -/
def cardLines (s : State) : List (Nat × List Nat) :=
  [(128, codes "OUT OF SERVICE"), (224, serialText s), (320, codes "REASON 0x" ++ hexText 2 (rdF s BOOT_REASON.REASON))]

/-- A pixel of the card: white where a glyph of the boot ROM has its bit set. -/
def cardPixel (s : State) (x y : Nat) : Rgb :=
  match (cardLines s).find? (fun l => decide (l.1 ≤ y ∧ y < l.1 + 64)) with
  | none => BLACK
  | some l =>
    if x < 128 then BLACK
    else match l.2[(x - 128) / 32]? with
      | some c => if Config.romGlyph c (y - l.1) ((x - 128) % 32) then (1023, 1023, 1023) else BLACK
      | none => BLACK

/-! ### Stage 6: signatures (R271, R273) -/

/-- The signature of a region over the stream after stage 5. -/
def regionSig (s : State) (h r : Nat) : Nat :=
  let x0 := rdF s (ART_R_POS.X h r)
  let y0 := rdF s (ART_R_POS.Y h r)
  let w := max 1 (rdF s (ART_R_SIZE.W h r))
  crc32c ((List.range (w * rdF s (ART_R_SIZE.H h r))).flatMap (fun i => wordBytes (pixelWord (stage5 s h (x0 + i % w) (y0 + i / w)))))

/-- The frame of a head ends: the signatures of the regions that are still to be compared stand. -/
def endSignatures (h : Nat) (s : State) : State :=
  forEach (regionsOf s h) (fun r s =>
    let x := getRegion s h r
    if x.due.isSome = true ∧ x.ended = none then setRegion s h r { x with ended := some (regionSig s h r) } else s) s

/-! ### The raster (R205, R214) -/

/-- A slot of a line: the active pixel's column, whose it is in a pair, and the levels of horizontal and vertical sync. -/
structure Slot where
  pixel : Option (Nat × Nat)
  hsync : Bool
  vsync : Bool
deriving DecidableEq, Repr

/-- The vertical blank and the vertical sync of a frame line. -/
def blankLine (v : View) (h l : Nat) : Bool := decide (l < vtotal v h - vact v h)
def vsyncLine (v : View) (h l : Nat) : Bool :=
  decide (v.fld (HD_VSYNC.VSYNC_START (v.lead h)) ≤ l ∧ l < v.fld (HD_VSYNC.VSYNC_START (v.lead h)) + v.fld (HD_VSYNC.VSYNC_W (v.lead h)))

/-- Slot `j` of line `l` of the sink's frame that port `h` drives: for a pair the active slots of both heads, with twice the blank and
twice the horizontal sync. -/
def slot (v : View) (h l j : Nat) : Slot :=
  let k := if v.flag (HD_CTRL.PAIR h) then 2 else 1
  let from_ := k * (hact v h + v.fld (HD_HSYNC.HSYNC_START h))
  let inH := decide (from_ ≤ j ∧ j < from_ + k * v.fld (HD_HSYNC.HSYNC_W h))
  { pixel := if blankLine v h l = false ∧ j < k * hact v h then some (h + j / hact v h, j % hact v h) else none
    hsync := inH == v.flag (HD_HSYNC.HPOL h), vsync := vsyncLine v h l == v.flag (HD_VSYNC.VPOL h) }

/-! ### The stream that the link carries (R217, R218, R231, R232) -/

/-- What the main link of a port carries: nothing, training patterns, the idle pattern, or video. -/
inductive LinkOut where
  | nothing | training | idle | video
deriving DecidableEq, Repr

/-- In TRANSITION the link is idle from C until it trains, and again until video starts at the next commit point; in LINK_FAIL and
LINK_LOST it carries nothing but a training under way; and nothing before the DisplayPort domain is good (R221, R385, Table 8.5 step 5,
Table 8.6). -/
def linkOut (s : State) (h : Nat) : LinkOut :=
  let l := View.lead s.dsp.active h
  let st := headState s h
  if headOn s.dsp.active h = false ∨ st = OFF ∨ domainGood s (7 + groupOf h) = false then .nothing
  else if (getHead s l).training then .training
  else if st = RUN then .video
  else if st = TRANSITION then .idle
  else .nothing

/-- What the MSA of the stream declares: the encoding is RGB; bits per component and range (R217). -/
def msa (v : View) (h : Nat) : Nat × Bool := (if v.flag (HD_OUT.BPC (v.lead h)) then 10 else 8, v.flag (HD_OUT.RANGE (v.lead h)))

/-- A pixel after stage 7's conversion, at active column `x` and line `y` of the tile row scanned last. -/
def outPixel (s : State) (h x y : Nat) : Rgb :=
  let p := if flag s BOOT_STATUS.SEEDLING then cardPixel s x y else stage5 s h x y
  let m := msa s.dsp.active h
  let o := outputComp m.2 (decide (m.1 = 10))
  (o p.1, o p.2.1, o p.2.2)

/-- A pixel that head `h` sends, before DSC; none while its link carries no video. -/
def sentPixel (s : State) (h x y : Nat) : Option Rgb :=
  let v : View := s.dsp.active
  if linkOut s h ≠ .video ∨ hact v h ≤ x ∨ vact v h ≤ y then none else some (outPixel s h x y)

/-- An active line of the sink that port `h` drives: the line of `h`, then for a pair that of the odd head (R214). -/
def portLine (s : State) (h y : Nat) : List Rgb :=
  (portHeads s h).flatMap (fun i => (List.range (hact s.dsp.active i)).map (fun x => outPixel s i x y))

/-- How the port's DSC encoder is set (R218). -/
def dscSet (v : View) (h width : Nat) : DscSet :=
  { bpc := (msa v h).1, bpp16 := v.fld (HD_OUT.DSC_BPP16 h), width := width / 2 ^ v.fld (HD_OUT.SLICES h), lines := v.fld (HD_OUT.SLICE_H h) }

/-- A line of the stream: the slices encoded one by one with the encoder's states, anew at the first line of a slice; the states after
it, the line as a conforming decoder shows it, and the bits that the link carries for it (R218). -/
def encodeLine (v : View) (h y : Nat) (coders : List Nat) (line : List Rgb) : List Nat × List Rgb × List (List Bool) :=
  let set := dscSet v h line.length
  let outs := (List.range (2 ^ v.fld (HD_OUT.SLICES h))).map (fun i =>
    Config.dscLine set (if y % max 1 set.lines = 0 then 0 else coders.getD i 0) ((line.drop (i * set.width)).take set.width))
  (outs.map (·.1), outs.flatMap (·.2.1), outs.map (·.2.2))

/-- The test CRCs after a line, component by component (R275). -/
def crcLine (bits : Nat) (line : List Rgb) (crcs : List (BitVec 16)) : List (BitVec 16) :=
  [line.map (·.1), line.map (·.2.1), line.map (·.2.2)].mapIdx (fun i vs => vs.foldl (Config.testCrc bits) (crcs.getD i Config.testCrcInit))

/-- A line leaves the port: the encoder and the test CRCs take it. -/
def sendLine (s : State) (h y : Nat) (x : Head) : Head :=
  let v : View := s.dsp.active
  let line := portLine s h y
  if v.flag (HD_OUT.DSC_EN h) then
    let e := encodeLine v h y x.coders line
    { x with coders := e.1, crcs := crcLine (msa v h).1 e.2.1 x.crcs }
  else { x with crcs := crcLine (msa v h).1 line x.crcs }

/-- The lines of the tile row scanned last leave port `h`, if its link carries video (R275). -/
def sendRow (h : Nat) (s : State) : State :=
  match (getHead s h).unsent with
  | none => s
  | some row =>
    let lines := ((List.range 32).map (· + row * 32)).filter (fun y => decide (y < vact s.dsp.active h))
    setHead s h (lines.foldl (fun x y => sendLine s h y x) { getHead s h with unsent := none })

/-- Tile row `row` of head `h` begins: what its port has not sent yet leaves, and the row is the port's next. -/
def rowBegins (h row : Nat) (s : State) : State :=
  let l := View.lead s.dsp.active h
  if linkOut s l ≠ .video ∨ (getHead s l).unsent = some row then s
  else
    let s := sendRow l s
    setHead s l { getHead s l with unsent := some row }

/-- The frame of port `h` ends: in RUN, its CRCs are the predictions for it, and those of the last four frames are kept (R275). -/
def frameSent (h : Nat) (s : State) : State :=
  if linkOut s h ≠ .video ∨ portIdle s h = true then s
  else
    let s := sendRow h s
    let x := getHead s h
    setHead s h { x with crcs := [], coders := [], predictions := ((frameOf s (groupOf h), x.crcs) :: x.predictions).take 4 }

/-! ### AUX transactions (R216) -/

/-- A transaction completes: within eight tries, one that neither defers nor times out is acknowledged. -/
def auxDone (replies : List AuxReply) : Bool :=
  decide ((replies.take 8).find? (fun r => decide (r ≠ .defer ∧ r ≠ .timeout)) = some .ack)

/-! ### Loss of a link (R221) -/

/-- The readback of a head stops: no read is under way, and streaks and the previous count are gone (R276). -/
def stopReading (h : Nat) (s : State) : State := setSink s h { getSink s h with streak := (0, 0), hasPrev := false, reading := false, runFrames := 0 }

/-- The link of a port that has trained is lost: its heads go to LINK_LOST, and training begins with the configuration that trained last.
The readback stops (R221, R276). -/
def linkLost (h : Nat) (s : State) : State :=
  if headState s h ≠ RUN ∧ (getHead s h).trained = false then s
  else
    let s := stopReading h (setHead s h { getHead s h with training := true, trained := false, lastFirst := true })
    forEach (portHeads s h) (fun i s =>
      let old := headState s i
      if old = OFF then s
      else
        let s := setHeadState (setHead s i { getHead s i with transAt := none }) i LINK_LOST
        let s := wrF (clearLink i s) (HD_STATUS.FAIL_REASON i) 7
        if old = LINK_LOST then s else headEventOf s 6 i 0 0xFF) s

end Sys2Proof.Machine
end

