-- ==== Sys2Proof/Machine/Artichoke.lean ====
section
/-! DEFINITION. The Artichoke layers: the safety page, regions, signatures, sink CRC readback and reactions (chapter 10). -/

namespace Sys2Proof.Machine

/-! ### The safety page (R264, R265) -/

def safetyInst (s : State) : Nat := rdF s ART_SAFETY.INST

/-- Where the safety page lies. -/
def safetyPage (s : State) : Nat := rdF s (INST_SLICE.BASE (safetyInst s)) * CHUNK + rdF s ART_SAFETY.PAGE_OFS * 4096

/-- Shallot reads and writes the page (R264). -/
def pageLive (s : State) : Bool :=
  let n := safetyInst s
  let st := instState s n
  decide (n ≠ 0 ∧ (st = CREATED ∨ st = ENABLED ∨ st = PARKED)) && inSlice s n (safetyPage s) 4096 && !(safe s)

def writePage (off : Nat) (bs : List Byte) (s : State) : State := if pageLive s then writeMem s (safetyPage s + off) bs else s

def pageNum (s : State) (off n : Nat) : Nat := readNum s (safetyPage s + off) n

/-- Where the slot of command `k` lies (Table 10.2). -/
def slotOff (k : Nat) : Nat := 0x40 + (k - 1) % 48 * 64

/-- Bit r set where a predicate of the regions holds. -/
def regionBits (s : State) (h : Nat) (f : Nat → Bool) : Nat := ((regionsOf s h).filter f).foldl setBit 0

/-- The head status block (Table 10.4). -/
def writeStatusBlock (h : Nat) (s : State) : State :=
  writePage (0xC40 + h * 64) (toBytes 64 (at32 0 (getSink s h).checked + at8 4 (rdF s (ART_HD_STATUS.SINK h)) + at8 5 (rdF s (ART_HD_STATUS.LAST_FAULT h))
    + at16 8 (rdF s (ART_HD_STATUS.GUARD h)) + at16 10 (rdF s (ART_HD_STALE.STALE h)) + at32 16 (rdF s (ART_HD_SIG_MISMATCH.COUNT h))
    + at32 20 (rdF s (ART_HD_SINK_MISMATCH.COUNT h)) + at64 24 (now s))) s

/-- GUARD of a head follows its regions; a change writes the head's block (R268). -/
def syncGuard (h : Nat) (s : State) : State :=
  let v := regionBits s h (fun r => let x := getRegion s h r; x.sigGuard || x.plateGuard.isSome || x.sinkGuard)
  if v = rdF s (ART_HD_STATUS.GUARD h) then s else writeStatusBlock h (wrF s (ART_HD_STATUS.GUARD h) v)

/-! ### Commands (R265 to R267) -/

/-- A command slot's check word: CRC-32C of bytes 0–59 with bytes 1 and 24–31 taken as 0 (Table 10.3). -/
def slotCrc (d : Desc) : Nat := crc32c ((List.range 60).map (fun i => if i = 1 ∨ (24 ≤ i ∧ i ≤ 31) then 0 else u8 d i))

/-- The slot's form: reserved bytes, check word, head, region, plate and its CRC (R266). -/
def slotBad (s : State) (d : Desc) : Bool :=
  let h := u8 d 4
  let r := u8 d 5
  let region := decide (h < 12 ∧ r < 16 ∧ rdF s (ART_R_SIZE.W h r) ≠ 0)
  let x := getRegion s h r
  let plate : Bool :=
    if u8 d 0 = 1 then (match x.plates[u8 d 6]? with
      | some p => (match s.art.plates[p]? with | some q => decide (q.crc = u32 d 16) | none => false)
      | none => false)
    else decide (u8 d 6 = 0 ∧ u32 d 16 = 0)
  !region || !plate || decide ((u8 d 0 ≠ 1 ∧ u8 d 0 ≠ 2) ∨ u8 d 7 ≠ 0 ∨ u32 d 20 ≠ 0 ∨ bytesAt d 32 28 ≠ 0 ∨ u32 d 60 ≠ slotCrc d)
  || decide (min (u64 d 8) s.art.pollAt < regionTsrc s h r)

/-- The status of a command (R266). -/
def slotStatus (s : State) (d : Desc) : Nat :=
  pickStatus [(decide (u16 d 2 ≠ instGen s (safetyInst s)), ST_STALE_GEN), (slotBad s d, ST_BAD_DESC), (decide (u8 d 4 < 12) && (getHead s (u8 d 4)).retiredLive, ST_RETIRED)]

/-- The published command `k` is consumed: its RESULT is written, and an accepted one waits for its commit point (R265 to
R268). -/
def consume (k : Nat) (s : State) : State :=
  let d : Desc := BitVec.ofNat 512 (pageNum s (slotOff k) 64)
  let st := slotStatus s d
  let s := { s with art := { s.art with todo := s.art.todo.tail } }
  let s := writePage (slotOff k + 1) (toBytes 1 st) s
  let s := if st ≠ ST_OK then writePage (slotOff k + 24) (toBytes 8 0) s
    else
      let (ts, s) := clampTime (safetyInst s) (u64 d 8) s.art.pollAt s
      let c : ArtCmd := { k := k, poll := s.art.pollAt, head := u8 d 4, region := u8 d 5, plate := if u8 d 0 = 1 then some (u8 d 6) else none, tsrc := ts }
      { s with art := { s.art with cmds := s.art.cmds ++ [c] } }
  if s.art.todo = [] then writePage 8 (toBytes 8 k) s else s

/-- Commands with a reserved OP at the front are refused at once. -/
def skipReservedOps (fuel : Nat) (s : State) : State :=
  match fuel, s.art.todo with
  | 0, _ => s
  | _, [] => s
  | n + 1, k :: _ =>
    let op := pageNum s (slotOff k) 1
    if op = 1 ∨ op = 2 then s else skipReservedOps n (consume k s)

/-- A poll point (R265). -/
def safetyPoll (s : State) : State :=
  if pageLive s = false then { s with art := { s.art with todo := [] } }
  else
    let p := pageNum s 0 8
    let a := pageNum s 8 8
    let s := { s with art := { s.art with todo := [], pollAt := now s } }
    if p = a then s
    else if a < p ∧ p ≤ a + 48 then skipReservedOps 49 { s with art := { s.art with todo := (List.range (p - a)).map (· + a + 1) } }
    else
      let s := writePage 8 (toBytes 8 p) s
      if p < a then s
      else
        let n := satAdd32 (pageNum s 16 4) 1
        wrF (writePage 16 (toBytes 4 n) s) ART_OVERRUN.COUNT n

/-- The command at the front of the poll under way is consumed if it has this OP. -/
def artCommand (op : Nat) (s : State) : State :=
  match s.art.todo with
  | [] => s
  | k :: _ => if pageLive s = true ∧ pageNum s (slotOff k) 1 = op then skipReservedOps 49 (consume k s) else s

/-! ### Reactions (R277) -/

/-- An Artichoke fault with its LAST_FAULT (Table 10.5). -/
def artFault (h r code : Nat) (counted : Bool) (s : State) : State :=
  let s := wrF s (ART_HD_STATUS.LAST_FAULT h) code
  reportFault { id := 0x0F, kind := U_HEAD, unit := h, inst := safetyInst s, detail := code, counted := counted, sub := some (h * 16 + r) } s

/-- A plate is found bad: every region that shows it is to be guarded, with one fault each (rows 0x02 and 0x03). -/
def platePlaces (s : State) (p : Nat) : List (Nat × Nat) :=
  (List.range 12).flatMap (fun h => ((regionsOf s h).filter (fun r => regionPlate s h r = some p)).map (fun r => (h, r)))

def plateFaultAt (code p : Nat) (k : Nat × Nat) (s : State) : State :=
  artFault k.1 k.2 code false (setRegion s k.1 k.2 { getRegion s k.1 k.2 with plateDue := some p, plateOk := false })

def markPlate (p : Nat) (bad : Bool) (s : State) : State :=
  { s with art := { s.art with plates := s.art.plates.mapIdx (fun i q => if i = p then { q with bad := bad } else q) } }

/-- Row 0x02: an uncorrectable error on a plate read at scan of a region, at active line `line`. -/
def plateScanFault (h r line : Nat) (s : State) : State :=
  match regionPlate s h r with
  | none => s
  | some p => plateFaultAt 2 p (h, r) (markPlate p true (setRegion s h r { getRegion s h r with guardFrom := some line }))

/-- The bytes of a plate in the store, and their CRC (R262). -/
def plateCrc (s : State) (q : Plate) : Nat := crc32c ((readMem s q.addr (4 * q.w * q.h)).map (·.toNat))

/-- The 10 s check of every plate (R262, row 0x03). -/
def plateCrcCheck (s : State) : State :=
  forEach (List.range s.art.plates.length) (fun p s =>
    match s.art.plates[p]? with
    | none => s
    | some q =>
      let s := touch s q.addr (4 * q.w * q.h)
      if plateCrc s q = q.crc then s
      else forEach (platePlaces s p) (plateFaultAt 3 p) (markPlate p true s)) s

/-- The regions that are guarded, or due to be, for a plate. -/
def plateGuarded (s : State) (p : Nat) : List (Nat × Nat) :=
  ((List.range 12).flatMap (fun h => (List.range 16).map (fun r => (h, r)))).filter (fun k =>
    let x := getRegion s k.1 k.2
    decide (x.plateGuard = some p ∨ x.plateDue = some p))

/-- A plate has been rewritten from flash and verified: the guards it caused end at the next commit point (Table 10.5).  After
two failed flash reads the affected regions stay guarded until module reset (Table 11.4). -/
def plateRewrite (p : Nat) (ok : Bool) (s : State) : State :=
  match s.art.plates[p]? with
  | none => s
  | some q =>
    if q.bad = false then s
    else if ok = false then forEach (plateGuarded s p) (fun k s => setRegion s k.1 k.2 { getRegion s k.1 k.2 with plateLost := true }) s
    else
      let words := match (activeBlob s).shallot.plates[p]? with | some b => b.words | none => []
      let s := writeMem s q.addr (words.flatMap (toBytes 4))
      let s := { s with mem := freshWords s.mem (q.addr / 64 * 64) (ceilDiv (q.addr % 64 + 4 * q.w * q.h) 64 * 64) }
      if plateCrc s q ≠ q.crc then s
      else
        forEach (plateGuarded s p) (fun k s =>
          let x := getRegion s k.1 k.2
          setRegion s k.1 k.2 { x with plateOk := !x.plateLost }) (markPlate p false s)

/-! ### Regions in a frame (R269 to R273) -/

/-- The head's frame shows the transition or the safe-state pattern over its regions. -/
def patternFrame (s : State) (h : Nat) : Bool :=
  decide (headState s h = TRANSITION) || (getHead s h).patternNow || (getHead s h).safePattern

/-- The signature expected of a region that shows a content of its plate in effect (R272). -/
def expectedSig (s : State) (h r : Nat) (c : Content) : Nat :=
  let x := getRegion s h r
  match c with
  | .guard => x.guardRef
  | .hatched => x.hatchedRefs.getD (rdF s (ART_R_SEL.PLATE h r)) 0
  | .plate => match regionPlate s h r with
    | some p => (match s.art.plates[p]? with | some q => q.crc | none => 0)
    | none => 0

/-- The F7 check of a region at its first line: its content for the frame is chosen, and with it the signature to expect; a region that
the safety tenant has not chosen since the load is stale (R263, R269, R270, R272). -/
def f7Check (uncert h r : Nat) (s : State) : State :=
  if 12 ≤ h ∨ (regionsOf s h).contains r = false then s
  else
    let st := rdF s TIME_STATUS.STATE
    let age := (now s - regionTsrc s h r) + (if st = 1 then uncert else 0)
    let stale := !(getRegion s h r).chosen || decide (st = 0 ∨ rdF s ART_F7_LIMIT.LIMIT_US * 1000 ≤ age)
    let guarded := bit (rdF s (ART_HD_STATUS.GUARD h)) r
    let c : Content := if guarded = true ∨ patternFrame s h = true then .guard else if stale then .hatched else .plate
    let s := setRegion s h r { getRegion s h r with content := c, stale := stale, guardFrom := none, due := some (frameOf s (groupOf h), expectedSig s h r c), ended := none }
    wrF s (ART_HD_STALE.STALE h) (regionBits s h (fun r => (getRegion s h r).stale))

/-- A frame with a mismatch counts once for the head. -/
def countMismatch (h n : Nat) (s : State) : State :=
  let k := getSink s h
  if k.mismatchFrame = some n then s else incF (setSink s h { k with mismatchFrame := some n }) (ART_HD_SIG_MISMATCH.COUNT h)

/-- A frame's region differs from the expected one: a fault, once for an episode of guarding (row 0x01). -/
def regionMismatch (h r n : Nat) (s : State) : State :=
  let s := countMismatch h n s
  let x := getRegion s h r
  if x.sigGuard then setRegion s h r { x with matched := 0 }
  else if x.sigDue.isSome then s
  else artFault h r 1 true (setRegion s h r { x with sigDue := some (now s), matched := 0 })

/-- A frame's region is as expected: the eighth guarded one in a row ends a guard (row 0x01). -/
def regionMatch (h r : Nat) (s : State) : State :=
  let x := getRegion s h r
  if x.sigGuard = false ∨ x.content ≠ .guard then s
  else if x.matched = 7 then setRegion s h r { x with sigGuard := false, matched := 0 }
  else setRegion s h r { x with matched := x.matched + 1 }

/-- The signature of a region is compared one line after it ends.  `upset`: what errors of the datapath, as distinct from those of the
plate store, have done to it, 0 for none (R273, row 0x01). -/
def signatureCompare (h r upset : Nat) (s : State) : State :=
  if 12 ≤ h then s
  else
    let x := getRegion s h r
    match x.due with
    | none => s
    | some (n, e) =>
      let s := setSink (setRegion s h r { x with due := none }) h { getSink s h with checked := n }
      let g := (x.ended.getD (regionSig s h r) ^^^ upset) % 2 ^ 32
      let s := wrF s (ART_R_SIG.SIG h r) g
      writeStatusBlock h (syncGuard h (if g = e then regionMatch h r s else regionMismatch h r n s))

/-! ### Sink CRC readback (R274 to R276) -/

/-- SINK of a head; a change is logged (Table 11.8, machine 0x04). -/
def setSinkState (h v : Nat) (s : State) : State :=
  let old := rdF s (ART_HD_STATUS.SINK h)
  let s := wrF s (ART_HD_STATUS.SINK h) v
  if old = v then s else writeStatusBlock h (logState s .art 4 h old v)

def setSinkGuard (h : Nat) (b : Bool) (s : State) : State :=
  syncGuard h (forEach (regionsOf s h) (fun r s => setRegion s h r { getRegion s h r with sinkGuard := b }) s)

/-- The capability test after a successful training: TEST_SINK_MISC is read, and where its bit 5 is set, TEST_SINK_START is written
(R274). -/
def sinkTest (h : Nat) (supported : Bool) (s : State) : State :=
  let cfg := rdF s (ART_HD_CFG.SINK_CRC h)
  let s := stopReading h s
  if cfg = 0 then setSinkState h 0 (setSinkGuard h false s)
  else
    let s := send s (.aux h 0x246 1)
    if supported then setSinkState h 2 (setSinkGuard h false (send s (.auxWrite h 0x270 [1])))
    else
      let s := setSinkState h 1 s
      if cfg = 2 then writeStatusBlock h (setSinkGuard h true (artFault h 0 7 true s)) else setSinkGuard h false s

/-- A read is judged: 0 match, 1 frozen, 2 mismatch, 3 no response (R276). -/
def judgeRead (h o : Nat) (s : State) : State :=
  let k := getSink s h
  if o = 0 then setSinkState h 2 (setSink s h { k with streak := (0, 0) })
  else
    let n := (if k.streak.1 = o then k.streak.2 else 0) + 1
    let s := if o = 3 then s else incF s (ART_HD_SINK_MISMATCH.COUNT h)
    if n < 3 then setSink s h { k with streak := (o, n) }
    else
      let s := setSink s h { k with streak := (0, 0) }
      let s := setSinkState h (if o = 1 then 4 else if o = 2 then 3 else 5) s
      linkLost h (artFault h 0 (if o = 1 then 5 else if o = 2 then 4 else 6) true s)

/-- The three CRCs are those of one of the three frames completed last before the read started (R276). -/
def crcsMatch (s : State) (h : Nat) (crcs : List Nat) : Bool :=
  let n := (getSink s h).readFrame
  (getHead s h).predictions.any (fun p => decide (n ≤ p.1 + 3 ∧ p.1 < n ∧ p.2 = crcs.map (BitVec.ofNat 16)))

/-- A sink CRC read ends: the replies to it, and where one of them completes it, the three CRCs and TEST_CRC_COUNT (R276). -/
def sinkReadResult (h : Nat) (replies : List AuxReply) (cr cg cb count : Nat) (s : State) : State :=
  let k := getSink s h
  if 12 ≤ h ∨ k.reading = false then s
  else
    let s := setSink s h { k with reading := false }
    if auxDone replies = false then judgeRead h 3 s
    else
      let prev := rdF s (ART_HD_STATUS.LAST_COUNT h)
      let s := wrF (wrF s (ART_HD_SINK_RG.CRC_R h) cr) (ART_HD_SINK_RG.CRC_G h) cg
      let s := wrF (wrF s (ART_HD_SINK_B.CRC_B h) cb) (ART_HD_STATUS.LAST_COUNT h) count
      if k.hasPrev = false then setSink s h { getSink s h with hasPrev := true }
      else judgeRead h (if count % 16 = prev then 1 else if crcsMatch s h [cr, cg, cb] then 0 else 2) s

/-- The readback at the commit point of frame `frame`: a read still under way is no response, and every PERIOD-th RUN frame starts one
(R276). -/
def sinkAtCommit (h frame : Nat) (s : State) : State :=
  if rdF s (ART_HD_STATUS.SINK h) < 2 ∨ headState s h ≠ RUN ∨ safe s = true then stopReading h s
  else
    let k := getSink s h
    let s := if k.reading then judgeRead h 3 (setSink s h { k with reading := false }) else s
    if headState s h ≠ RUN then s
    else
      let k := getSink s h
      let n := k.runFrames + 1
      if n % (rdF s (ART_HD_CFG.PERIOD_M1 h) + 1) = 0 then send (setSink s h { k with runFrames := n, reading := true, readFrame := frame }) (.aux h 0x240 7)
      else setSink s h { k with runFrames := n }

/-! ### At a commit point (R268, R277) -/

/-- An accepted command takes effect: APPLIED is written (R263, R268). -/
def applyCmd (c : ArtCmd) (s : State) : State :=
  let s := match c.plate with
    | some p => wrF s (ART_R_SEL.PLATE c.head c.region) p
    | none => s
  let s := wr64 s (.ART_R_TSRC_LO c.head c.region) (.ART_R_TSRC_HI c.head c.region) c.tsrc
  writePage (slotOff c.k + 24) (toBytes 8 (now s)) (setRegion s c.head c.region { getRegion s c.head c.region with chosen := true })

/-- Guards begin and end at a commit point (Table 10.5). -/
def guardAtCommit (h r : Nat) (s : State) : State :=
  let x := getRegion s h r
  let due : Bool := match x.sigDue with | some d => lineElapsed s h (now s - d) | none => false
  let x := if due then { x with sigDue := none, sigGuard := true, matched := 0 } else x
  let x := if x.plateOk then { x with plateGuard := none, plateDue := none, plateOk := false }
    else match x.plateDue with
      | some p => { x with plateGuard := some p, plateDue := none }
      | none => x
  setRegion s h r x

/-- Artichoke at the commit point of a head's frame `frame`. -/
def artAtCommit (frame h : Nat) (s : State) : State :=
  let mine := s.art.cmds.filter (fun c => decide (c.head = h ∧ c.poll < now s))
  let s := { s with art := { s.art with cmds := s.art.cmds.filter (fun c => !(decide (c.head = h ∧ c.poll < now s))) } }
  let s := syncGuard h (forEach (regionsOf s h) (guardAtCommit h) (forEach mine applyCmd s))
  sinkAtCommit h frame (if mine = [] then s else writeStatusBlock h s)

/-! ### Loading the Shallot section (R261 to R263, R272) -/

/-- The words of a region's pixels in raster order, for a plate's words and a content. -/
def regionWords (colour : Rgb) (c : Content) (b : BlobRegion) (words : List Nat) : List Nat :=
  (List.range (b.w * b.h)).map (fun i =>
    let v := words.getD i 0
    pixelWord (regionPixel colour c (rgbOf v) (b.x + i % b.w) (b.y + i / b.w)))

def sigOf (ws : List Nat) : Nat := crc32c (ws.flatMap wordBytes)

/-- Regions of one head do not overlap. -/
def blobOverlap (a b : BlobRegion) : Bool :=
  decide (a.head = b.head ∧ a.region ≠ b.region ∧ a.x < b.x + b.w ∧ b.x < a.x + a.w ∧ a.y < b.y + b.h ∧ b.y < a.y + a.h)

def blobRegionOk (sec : ShallotSection) (b : BlobRegion) : Bool :=
  decide (b.head < 12 ∧ b.region < 16 ∧ 8 ≤ b.w ∧ b.w ≤ 1024 ∧ 8 ≤ b.h ∧ b.h ≤ 512 ∧ b.w * b.h ≤ 262144 ∧ 1 ≤ b.plates.length ∧ b.plates.length ≤ 16
    ∧ b.initial < b.plates.length) && b.plates.all (fun p => match sec.plates[p]? with | some q => decide (q.w = b.w ∧ q.h = b.h) | none => false)
  && sec.regions.all (fun a => !(blobOverlap a b)) && decide (((sec.regions.filter (fun a => decide (a.head = b.head))).map (fun a => a.w * a.h)).sum ≤ 524288
    ∧ (sec.regions.filter (fun a => decide (a.head = b.head ∧ a.region = b.region))).length = 1)

/-- The Shallot section stays within its limits (R261, R284, R359, Table 10.1). -/
def sectionOk (s : State) (sec : ShallotSection) : Bool :=
  sec.regions.all (blobRegionOk sec)
  && decide (sec.plates.length ≤ 1024 ∧ (sec.plates.map (fun p => 4 * p.w * p.h)).sum ≤ 0x4000000 ∧ sec.inst ≤ 256 ∧ sec.pageOfs < 16384
    ∧ sec.alertMask ≤ 127 ∧ 1 ≤ sec.limitUs ∧ sec.limitUs < 2 ^ 24 ∧ (sec.mgrWdMs = 0 ∨ (100 ≤ sec.mgrWdMs ∧ sec.mgrWdMs ≤ 60000)))
  && sec.heads.all (fun h => decide (h.1 ≤ 2 ∧ h.2 ≤ 7))
  && (List.range sec.storeSize).all (fun i => chunkData s (sec.storeBase + i) && eccOn s ((sec.storeBase + i) / 512))
  && sec.plates.all (fun p => decide (p.offset + 4 * p.w * p.h ≤ sec.storeSize * CHUNK ∧ p.words.length = p.w * p.h) && decide (sigOf p.words = p.crc))

/-- The plates are expanded into the store. -/
def loadPlates (sec : ShallotSection) (s : State) : State :=
  let s := { s with mem := { s.mem with plateStore := some (sec.storeBase, sec.storeSize) } }
  let s := forEach sec.plates (fun p s => writeMem s (sec.storeBase * CHUNK + p.offset) (p.words.flatMap (toBytes 4))) s
  { s with art := { s.art with plates := sec.plates.map (fun p => { addr := sec.storeBase * CHUNK + p.offset, w := p.w, h := p.h, crc := p.crc }) } }

def loadRegion (sec : ShallotSection) (b : BlobRegion) (s : State) : State :=
  let colour := rgbOf sec.colour
  let words := fun p => match sec.plates[p]? with | some q => q.words | none => []
  let s := wr s (.ART_R_POS b.head b.region) (BitVec.ofNat 32 (b.y * 65536 + b.x))
  let s := wr s (.ART_R_SIZE b.head b.region) (BitVec.ofNat 32 (b.h * 65536 + b.w))
  let s := wr s (.ART_R_SEL b.head b.region) (BitVec.ofNat 32 (b.initial * 16 + (b.plates.length - 1)))
  setRegion s b.head b.region { plates := b.plates, guardRef := sigOf (regionWords colour .guard b []), hatchedRefs := b.plates.map (fun p => sigOf (regionWords colour .hatched b (words p))) }

/-- Shallot loads the section: its registers, plates, regions and references (R258, R263, R272, R279). -/
def loadSection (sec : ShallotSection) (s : State) : State :=
  let s := wr s .ART_SAFETY (BitVec.ofNat 32 (sec.pageOfs * 65536 + sec.inst))
  let s := wrF (wrF s ART_F7_LIMIT.LIMIT_US sec.limitUs) ART_F7_COLOUR.RGB sec.colour
  let s := wrF (wrF s SHL_MGR_WD.PERIOD_MS sec.mgrWdMs) SHL_ALERT_MASK.MASK sec.alertMask
  let s := forEach (List.range 12) (fun h s =>
    let c := sec.heads.getD h (0, 0)
    let n := (sec.regions.filter (fun b => decide (b.head = h))).length
    wrF (wrF (wrF s (ART_HD_CFG.SINK_CRC h) c.1) (ART_HD_CFG.PERIOD_M1 h) c.2) (ART_HD_CFG.REGIONS h) n) s
  forEach sec.regions (loadRegion sec) (loadPlates sec s)

/-! ### The meanings -/

def execSafetyPagePoll (t : Nat) (s : State) : Host.Outcome State Fault Refusal := act t safetyPoll s
def execSelect (t : Nat) (s : State) : Host.Outcome State Fault Refusal := act t (artCommand 1) s
def execRefresh (t : Nat) (s : State) : Host.Outcome State Fault Refusal := act t (artCommand 2) s
def execRegionSignatureCompare (t h r upset : Nat) (s : State) : Host.Outcome State Fault Refusal := actIn 6 t (signatureCompare h r upset) s
def execSinkCrcReadResult (t h : Nat) (replies : List AuxReply) (cr cg cb count : Nat) (s : State) : Host.Outcome State Fault Refusal :=
  actIn 6 t (sinkReadResult h replies cr cg cb count) s

end Sys2Proof.Machine
end

