-- ==== Sys2Proof/Machine/Audio32.lean ====
section
/-! DEFINITION. Fennel's arithmetic: binary32 with round to nearest even, denormal results flushed to zero (R302), and the
equal-power law of a route fade (R310). -/

namespace Sys2Proof.Machine

def fOne : Nat := 0x3F800000
def fNan : Nat := 0x7FC00000

/-- A product of encodings. -/
def fMul (a b : Nat) : Nat :=
  if isNan a || isNan b then fNan
  else if isInf a || isInf b then
    (if a % 2 ^ 31 = 0 ∨ b % 2 ^ 31 = 0 then fNan else if fNeg a = fNeg b then 0x7F800000 else 0xFF800000)
  else f32Ftz ((ofF32 a).mul (ofF32 b))

/-- An exact sum, rounded; one of two zeros is negative where both are. -/
def sumFtz (a b : Flt) : Nat := if a.mant = 0 ∧ b.mant = 0 then f32Ftz ⟨a.neg && b.neg, 0, 0⟩ else f32Ftz (a.add b)

/-- A fused multiply-add a × b + c, rounded once. -/
def fFma (a b c : Nat) : Nat :=
  if isNan a || isNan b || isNan c then fNan
  else if isInf a || isInf b then
    let p := fMul a b
    if isNan p || (isInf c && decide (p ≠ c)) then fNan else p
  else if isInf c then c
  else sumFtz ((ofF32 a).mul (ofF32 b)) (ofF32 c)

def fAdd (a b : Nat) : Nat := fFma a fOne b
def fSub (a b : Nat) : Nat := fAdd a (fNegate b)

/-- A value over a whole number, rounded. -/
def fDivNat (a n : Nat) : Nat :=
  if isNan a || isInf a then a
  else
    let f := ofF32 a
    let m := f.mant * 2 ^ 64
    f32Ftz ⟨f.neg, 2 * (m / n) + (if m % n = 0 then 0 else 1), f.exp - 65⟩

def fOfNat (n : Nat) : Nat := f32Ftz ⟨false, n, 0⟩

/-- A Q2.14 code (R308). -/
def fOfCode (c : Nat) : Nat := f32Ftz ⟨false, c, -14⟩

/-- A signed sample over 2^k. -/
def fOfInt (i : Int) (k : Nat) : Nat := f32Ftz (Flt.ofInt i (-(k : Int)))

/-- A ramp's value at its sample: G0 + (G1 − G0) × n / N (R311). -/
def rampValue (g0 g1 n len : Nat) : Nat :=
  if len ≤ n then g1 else fAdd g0 (fDivNat (fMul (fSub g1 g0) (fOfNat n)) len)

/-- cos of an angle in units of 2^-60, in the same units: the terms of its series from the `k`-th on. -/
def cosTerms : Nat → Nat → Int → Int → Int
  | 0, _, _, _ => 0
  | fuel + 1, k, a2, t => t + cosTerms fuel (k + 1) a2 (-(t * a2) / ((2 * k + 1) * (2 * k + 2) * 2 ^ 60 : Nat))

def cosFix (a : Nat) : Int := cosTerms 24 0 ((a * a / 2 ^ 60 : Nat) : Int) (2 ^ 60)

/-- A finite non-negative value in units of 2^-40. -/
def toFix40 (v : Nat) : Nat :=
  let f := ofF32 v
  if 0 ≤ f.exp + 40 then f.mant * 2 ^ (f.exp + 40).toNat else f.mant / 2 ^ (-(f.exp + 40)).toNat

/-- xp_gain at sample `n` of `len` (R310): equal gains are kept, and after the fade the target; within it the gain lies within
2^-20 of sqrt(g0² c² + g1² s²), where `o` says where. -/
def xpGain (g0 g1 n len o : Nat) : Nat :=
  if g0 = g1 ∨ len ≤ n then g1
  else
    let c := cosFix (13176794 * n * 2 ^ 38 / len)
    let c2 := ((2 ^ 60 + c) / 2).toNat
    let a := toFix40 g0
    let b := toFix40 g1
    let r := Nat.sqrt ((a * a * c2 + b * b * (2 ^ 60 - c2)) / 2 ^ 60)
    f32Ftz ⟨false, r + o % (2 ^ 21 + 1) - 2 ^ 20, -40⟩

/-- A bus sample as a signed 24-bit value, and whether it was clamped (R317); none for a NaN. -/
def toS24 (v : Nat) : Option (Int × Bool) :=
  if isNan v then none
  else if isInf v then some (if fNeg v then (-8388608, true) else (8388607, true))
  else
    let f := (ofF32 v).mul ⟨false, 8388608, 0⟩
    -- at or below −1.0 and at or above 1.0 − 2^−23 lie the ends of the range
    let lo := decide (f.at (min f.exp 0) < -8388608 * 2 ^ (-(min f.exp 0)).toNat)
    let hi := decide (8388607 * 2 ^ (-(min f.exp 0)).toNat < f.at (min f.exp 0))
    if lo then some (-8388608, true) else if hi then some (8388607, true) else some (f.toIntRne, false)

end Sys2Proof.Machine
end

