-- ==== Sys2Proof/Machine/Fennel.lean ====
section
/-! DEFINITION. Fennel: buffers, routes, gains, equalisers, the engine's sample periods, TDM ports and DisplayPort audio
(chapter 12). -/

namespace Sys2Proof.Machine

def getChan (s : State) (a : Nat) : Channel := Sparse.get {} s.aud.chans a
def setChan (s : State) (a : Nat) (x : Channel) : State := { s with aud := { s.aud with chans := Sparse.set {} s.aud.chans a x } }
def getBus (s : State) (b : Nat) : Bus := Sparse.get {} s.aud.buses b
def setBus (s : State) (b : Nat) (x : Bus) : State := { s with aud := { s.aud with buses := Sparse.set {} s.aud.buses b x } }
def getPort (s : State) (p : Nat) : TdmPort := Sparse.get {} s.aud.ports p
def setPort (s : State) (p : Nat) (x : TdmPort) : State := { s with aud := { s.aud with ports := Sparse.set {} s.aud.ports p x } }

/-- Engine sample periods in 1 ms (R301). -/
def perMs (s : State) : Nat := if flag s AUD_CFG.RATE then 96 else 48

/-- A register that a block boundary takes is about to be written: its value before this stamp is kept (R301). -/
def keepBefore (r : Reg) (s : State) : State :=
  if s.aud.before.any (fun p => decide (p.1 = r.key ∧ p.2.1 = now s)) then s
  else { s with aud := { s.aud with before := Sparse.place (Sparse.erase s.aud.before r.key) r.key (now s, rd s r) } }

/-- What a block boundary takes from a register: the value of every write with an earlier stamp (R301). -/
def rdBefore (s : State) (r : Reg) : Word :=
  match s.aud.before.find? (fun p => decide (p.1 = r.key)) with
  | some (_, t, w) => if t = now s then w else rd s r
  | none => rd s r

def rdFBefore (s : State) (f : Fld) : Nat := bitsOf (rdBefore s f.reg).toNat f.hi f.lo

/-- A register was written at this very stamp. -/
def writtenNow (s : State) (r : Reg) : Bool := s.aud.before.any (fun p => decide (p.1 = r.key ∧ p.2.1 = now s))

/-- The stamp of a gain write still to be taken once a boundary has taken those before it. -/
def gainLeft (s : State) (r : Reg) : Option Nat := if writtenNow s r then some (now s) else none

/-- The event with this stamp lies before the boundary at hand (R301). -/
def isBefore (s : State) (at_ : Option Nat) : Bool := match at_ with | some t => decide (t < now s) | none => false

/-- Channel states (Table 12.4) and port states (Table 12.6). -/
def CH_IDLE : Nat := 0
def CH_PLAYING : Nat := 1
def CH_SILENCING : Nat := 2
def PT_OFF : Nat := 0
def PT_SYNCING : Nat := 1
def PT_RUN : Nat := 2
def PT_RESYNC : Nat := 3
def PT_RETIRED : Nat := 4

def chanState (s : State) (a : Nat) : Nat := rdF s (AUD_A_STATUS.STATE a)
def setChanState (s : State) (a st : Nat) : State := wrF s (AUD_A_STATUS.STATE a) st

/-- Buffers of a channel that have not ended. -/
def liveBufs (x : Channel) : List AudioBuf := x.bufs.filter (fun b => b.lastAt.isNone)

/-- QUEUED follows the queue. -/
def syncQueue (a : Nat) (s : State) : State := wrF s (AUD_A_STATUS.QUEUED a) (liveBufs (getChan s a)).length

def setBufs (a : Nat) (bs : List AudioBuf) (s : State) : State := syncQueue a (setChan s a { getChan s a with bufs := bs })

/-! ### AUDIO_BUFFER (R304, R306) -/

/-- The buffer takes its place in the queue; `data` is what a host-space buffer holds (R304, R306). -/
def runAudio (data : List Byte) (k : Taken) (s : State) : State :=
  let a := u8 k.d 24
  let after := if now s < dNotBefore k.d then some (dNotBefore k.d) else none
  let b : AudioBuf := { fn := k.fn, q := k.q, id := k.id, addr := u64 k.d 32, len := dLen k.d, data := data, stamp := now s, after := after, ripe := after.isNone && decide (chanState s a = CH_PLAYING) }
  let s := if hostSpace b.addr then send s (.hostRead k.fn (pasidOf s k.fn k.d) (hostAddr b.addr) b.len) else s
  setBufs a ((getChan s a).bufs ++ [b]) s

/-! ### Silence (R313) -/

/-- A buffer's status with one more that applies: the lowest but ST_OK (R14). -/
def lowerStatus (old new : Nat) : Nat := if old = ST_OK then new else min old new

/-- A reset (`st` none) or a lease end of the holder of a channel: its queue is discarded, all but what plays, and K will fall
to 0. -/
def silence (st : Option Nat) (a : Nat) (s : State) : State :=
  let x := getChan s a
  let plays := fun (b : AudioBuf) => b.started && !(tdmSourced s a)
  let gone := (liveBufs x).filter (fun b => !(plays b))
  let keep := x.bufs.filter (fun b => plays b || b.lastAt.isSome)
  let first : Bool := decide (chanState s a ≠ CH_SILENCING)
  let s := setBufs a (match st with
    | some st => if first then keep.map (fun b => if b.lastAt.isNone then { b with status := lowerStatus b.status st, revoked := true } else b) else keep
    | none => keep) s
  let s := match st with
    | some st => forEach gone (fun b s => complete s b.fn b.q b.id st) s
    | none => s
  if tdmSourced s a = true ∨ chanState s a = CH_SILENCING then s
  else setChanState (setChan s a { getChan s a with silAt := some (now s) }) a CH_SILENCING

/-- The ramp has ended: the buffer that still plays is discarded, at a lease end with the status it was given, and the channel is
IDLE with K = 0. -/
def silenced (a : Nat) (s : State) : State :=
  let x := getChan s a
  let cut := (liveBufs x).filter (fun b => b.started)
  let s := setChanState (setBufs a (x.bufs.filter (fun b => !(b.started) || b.lastAt.isSome)) s) a CH_IDLE
  forEach (cut.filter (fun b => b.revoked)) (fun b s => complete s b.fn b.q b.id b.status) s

/-! ### At a block boundary (R301, R306, R309, R311, R313, R316, R318, R320) -/

/-- A buffer starts: its format is read, and K returns to 1 (R305, R313). -/
def startBuf (s : State) (a : Nat) (b : AudioBuf) : AudioBuf := { b with started := true, fmt := rdF s (AUD_A_CFG.FMT a) }

/-- The first buffer that has not ended is changed by `f`. -/
def onFirst (f : AudioBuf → AudioBuf) : List AudioBuf → List AudioBuf
  | [] => []
  | b :: bs => if b.lastAt.isNone then f b :: bs else b :: onFirst f bs

/-- Buffers that this boundary lets start (R306). -/
def ripen (t : Nat) (b : AudioBuf) : AudioBuf :=
  let due := match b.after with | none => true | some w => decide (w ≤ t)
  { b with ripe := b.ripe || (decide (b.stamp < t) && due) }

def rowOf (s : State) (a : Nat) : List Nat := (List.range 32).map (fun b => fOfCode (rdFBefore s (AUD_A_XP.GAIN a b)))

/-- The route gain of a channel to a bus at its fade's sample; `o` is the open part of the law (R310). -/
def routeGain (x : Channel) (b o : Nat) : Nat := xpGain (x.xp0.getD b 0) (x.xp1.getD b 0) x.fadeN x.fadeLen o

def fading (x : Channel) : Bool := decide (x.fadeN < x.fadeLen)

/-- The fade that a GO asked for starts (R309, R310). -/
def startFade (a : Nat) (s : State) : State :=
  let x := getChan s a
  if flag s (AUD_A_RCTL.PEND a) = false ∨ now s ≤ x.goAt then s
  else
    let from0 := (List.range 32).map (fun b => routeGain x b (Config.freeNat (s.free + b)))
    let s := { s with free := s.free + 32 }
    let s := setChan s a { x with goAt := x.goLast, xp0 := from0, xp1 := rowOf s a, fadeN := 0, fadeLen := rdFBefore s (AUD_A_RCTL.RAMP_MS a) * perMs s }
    wrB (wrB s (AUD_A_RCTL.PEND a) (decide (now s ≤ x.goLast))) (AUD_A_RCTL.FADING a) true

def Ramp.value (r : Ramp) : Nat := rampValue r.g0 r.g1 r.n r.len
def Ramp.tick (r : Ramp) : Ramp := if r.n < r.len then { r with n := r.n + 1 } else r
def Ramp.to (r : Ramp) (g len : Nat) : Ramp := { g0 := r.value, g1 := g, n := 0, len := len }

def boundaryChan (a : Nat) (s : State) : State :=
  let s := startFade a s
  let x := getChan s a
  let x := if isBefore s x.gainAt then { x with gain := x.gain.to (fOfCode (rdFBefore s (AUD_A_GAIN.GAIN a))) (rdFBefore s (AUD_A_GAIN.RAMP_MS a) * perMs s), gainAt := gainLeft s (.AUD_A_GAIN a) } else x
  let x := if isBefore s x.silAt then { x with k := x.k.to 0 (5 * perMs s), silAt := none } else x
  let bs := x.bufs.map (ripen (now s))
  let go : Bool := match liveBufs { x with bufs := bs } with
    | b :: _ => b.ripe && !b.started && decide (chanState s a ≠ CH_SILENCING)
    | [] => false
  if go then setChanState (setBufs a (onFirst (startBuf s a) bs) (setChan s a { x with k := {} })) a CH_PLAYING
  else setBufs a bs (setChan s a x)

/-- A coefficient word; module reset passes the signal through (R315). -/
def eqReset (w : Nat) : Nat := if w % 5 = 0 then fOne else 0
def eqWord (f : Fennel) (b bank w : Nat) : Nat := Sparse.get (eqReset w) f.coef (b * 64 + bank * 32 + w)

/-- |a| < |b| and |a| ≤ |b| of finite encodings. -/
def fAbsLt (a b : Nat) : Bool := decide (a % 2 ^ 31 < b % 2 ^ 31)

/-- A section passes the check of a swap (R316). -/
def sectionStable (f : Fennel) (b bank k : Nat) : Bool :=
  let c := fun i => eqWord f b bank (5 * k + i)
  let one : Flt := ⟨false, 1, 0⟩
  let a2 := ofF32 (c 4)
  let a1 := ofF32 (c 3)
  let sum := one.add a2
  let e := min a1.exp sum.exp
  decide (c 0 % 2 ^ 31 ≤ 0x41800000 ∧ c 1 % 2 ^ 31 ≤ 0x41800000 ∧ c 2 % 2 ^ 31 ≤ 0x41800000)
  && fAbsLt (c 4) fOne && decide (((a1.at e).natAbs : Int) < sum.at e)

def boundaryBus (b : Nat) (s : State) : State :=
  let x := getBus s b
  let s := if isBefore s x.gainAt then setBus s b { x with gain := x.gain.to (fOfCode (rdFBefore s (AUD_B_GAIN.GAIN b))) (rdFBefore s (AUD_B_GAIN.RAMP_MS b) * perMs s), gainAt := gainLeft s (.AUD_B_GAIN b) } else s
  if flag s (AUD_B_EQ.PEND b) = true ∧ x.swapAt < now s then
    let bank := 1 - rdF s (AUD_B_EQ.BANK b)
    let s := wrB s (AUD_B_EQ.PEND b) false
    if (List.range 6).all (sectionStable s.aud b bank) then wrF (wrF s (AUD_B_EQ.BANK b) bank) (AUD_B_EQ.RESULT b) ST_OK
    else wrF s (AUD_B_EQ.RESULT b) ST_BAD_DESC
  else s

/-- The map registers (R318). -/
def mapRegs : List Reg :=
  (List.range 4).flatMap (fun p => (List.range 4).map (fun k => .AUD_T_TXMAP p k)) ++ (List.range 12).flatMap (fun h => (List.range 2).map (fun k => .AUD_HD_MAP h k))

def boundaryMaps (s : State) : State :=
  { s with aud := { s.aud with maps := mapRegs.foldl (fun m r => Sparse.set r.reset m r.key (rdBefore s r)) s.aud.maps } }

/-- The port works: EN is 1, or it was cleared and the frame boundary at which the port stops has not come (R325). -/
def portOn (s : State) (p : Nat) : Bool := flag s (AUD_T_CFG.EN p) || (getPort s p).stopping

/-- An engine block boundary (R301). -/
def blockBoundary (s : State) : State :=
  let s := wr64 s .AUD_BLOCK_TIME_LO .AUD_BLOCK_TIME_HI (now s)
  let s := boundaryMaps { s with aud := { s.aud with sample := 0 } }
  let s := forEach (List.range 32) boundaryBus (forEach (List.range 64) boundaryChan s)
  forEach (List.range 4) (fun p s =>
    let x := getPort s p
    if x.begun = false ∧ x.enAt < now s ∧ portOn s p = true ∧ flag s (AUD_T_CFG.MASTER p) = true then setPort s p { x with begun := true } else s) s

/-! ### TDM ports (R319 to R325) -/

def portState (s : State) (p : Nat) : Nat := rdF s (AUD_T_STATUS.STATE p)

/-- A level that crosses a clock domain is the true one at the granularity of frames; the registers follow it. -/
def syncLevels (p : Nat) (s : State) : State :=
  let x := getPort s p
  wrF (wrF s (AUD_T_STATUS.TX_LEVEL p) x.tx.length) (AUD_T_STATUS.RX_LEVEL p) x.rx.length

def setFlow (p : Nat) (tx rx : Bool) (s : State) : State := wrB (wrB s (AUD_T_STATUS.FLOW_TX p) tx) (AUD_T_STATUS.FLOW_RX p) rx

def idleFrame : List Nat := List.replicate 16 0

/-- RUN is entered: 32 idle items in the TX FIFO, an empty RX FIFO (R321). -/
def enterRun (p : Nat) (s : State) : State :=
  let s := wrF s (AUD_T_STATUS.STATE p) PT_RUN
  syncLevels p (setPort s p { begun := (getPort s p).begun, enAt := (getPort s p).enAt, stopping := (getPort s p).stopping, tx := List.replicate 32 idleFrame, seen := true })

/-- Both FIFOs are flushed and both pins low (R324). -/
def resync (p : Nat) (s : State) : State :=
  let s := setFlow p false false (wrF s (AUD_T_STATUS.STATE p) PT_RESYNC)
  syncLevels p (setPort s p { stopping := (getPort s p).stopping })

/-- The port stops: outputs and FLOW pins low (R325). -/
def stopPort (p : Nat) (s : State) : State :=
  let s := setFlow p false false (wrF s (AUD_T_STATUS.STATE p) PT_OFF)
  syncLevels p (setPort s p {})

/-- A retired port: its FIFOs are empty and its FLOW pins high (R324). -/
def retirePort (p : Nat) (s : State) : State :=
  let s := setFlow p true true (wrF s (AUD_T_STATUS.STATE p) PT_RETIRED)
  syncLevels p (setPort s p {})

/-- EN becomes 1; a port that has not stopped yet does so first (R320, R325). -/
def startPort (p : Nat) (s : State) : State :=
  if portState s p = PT_RETIRED ∨ (getPort s p).stopping = true then s
  else
    let s := setPort s p { enAt := now s }
    if flag s (AUD_T_CFG.MASTER p) then setFlow p false false (enterRun p s)
    else syncLevels p (wrF s (AUD_T_STATUS.STATE p) PT_SYNCING)

/-- A write of AUD_Tp_CFG (R320, R325): fields other than EN only while EN is 0. -/
def writeTdmCfg (p v : Nat) (s : State) : State :=
  let old := (rd s (.AUD_T_CFG p)).toNat
  let en := bit old 31
  if 4 ≤ p then s
  else if en = true ∧ bitsOf v 30 28 ≠ bitsOf old 30 28 then logDiscard s (Reg.AUD_T_CFG p).key
  else
    let s := writeFields s (.AUD_T_CFG p) v
    if bit v 31 = en then s
    else if bit v 31 then startPort p s
    else if portState s p = PT_RUN then setPort s p { getPort s p with stopping := true }
    else if portState s p = PT_RETIRED then s else stopPort p s

def slaveOn (s : State) (p : Nat) : Bool :=
  portOn s p && !(flag s (AUD_T_CFG.MASTER p)) && decide (p < 4 ∧ portState s p ≠ PT_RETIRED ∧ portState s p ≠ PT_OFF)

/-- Fault 0x13: a port that takes its clocks from a peer resynchronises (R324); one that is retired reports it (R288). -/
def portFault (p : Nat) (s : State) : State :=
  let f : FaultRep := { id := 0x13, kind := U_TDM, unit := p }
  if slaveOn s p then resync p (reportFault f s) else if p < 4 then reportIdle f s else s

/-- A frame sync from the peer, `clocks` bit clocks after the one before it, if the port has seen one since it began to synchronise
(R320, R324). -/
def tdmFrameSync (p clocks : Nat) (s : State) : State :=
  let x := getPort s p
  if slaveOn s p = false then s
  else if x.seen = true ∧ clocks % 512 ≠ 0 then portFault p s
  else if portState s p = PT_RUN then s
  else if x.seen = true ∧ clocks = 512 then enterRun p s
  else setPort s p { x with seen := true }

/-- FLOW pins of a slave at the first bit clock of a frame position: low but in RUN (R323, R324). -/
def flowPins (p : Nat) (s : State) : State :=
  if flag s (AUD_T_CFG.MASTER p) then s
  else
    let x := getPort s p
    let tx := flag s (AUD_T_STATUS.FLOW_TX p)
    let rx := flag s (AUD_T_STATUS.FLOW_RX p)
    let tx := if x.tx.length ≤ rdF s (AUD_T_WM.TX_ASSERT p) then true else if rdF s (AUD_T_WM.TX_RELEASE p) ≤ x.tx.length then false else tx
    let rx := if rdF s (AUD_T_WM.RX_ASSERT p) ≤ x.rx.length then true else if x.rx.length ≤ rdF s (AUD_T_WM.RX_RELEASE p) then false else rx
    let run := decide (portState s p = PT_RUN)
    let tx := tx && flag s (AUD_T_CFG.TX_EN p) && run
    let rx := rx && flag s (AUD_T_CFG.RX_EN p) && run
    setFlow p tx rx (setPort s p { x with lowFor := if tx || rx then 0 else x.lowFor + 1 })

/-- Bit `k` of a frame's 512: each slot its 24 bits, the most significant first, and 8 zeros (R319). -/
def tdmBit (slots : List Nat) (k : Nat) : Bool := decide (k % 32 < 24) && bit (slots.getD (k / 32) 0) (23 - k % 32)

/-- The 512 bit clocks of a frame from its frame sync on, as a port drives them: frame sync, which a slave leaves to its peer, and
SDOUT.  Frame sync is high for one bit clock, and slot 0 begins on the next; the last bit of slot 15 falls to the next sync (R319). -/
def tdmWave (master : Bool) (slots : List Nat) : List (Bool × Bool) :=
  (List.range 512).map (fun k => (master && decide (k = 0), decide (0 < k) && tdmBit slots (k - 1)))

/-- The slots that the bits carry which were sampled at the bit clocks of a frame from its frame sync on (R319). -/
def tdmSlots (bits : List Bool) : List Nat :=
  (List.range 16).map (fun j => (List.range 24).foldl (fun n i => 2 * n + (bits.getD (32 * j + i + 1) false).toNat) 0)

def sendFrame (p : Nat) (f : List Nat) (s : State) : State := send s (.tdm p (tdmWave (flag s (AUD_T_CFG.MASTER p)) f))

/-- The port sends the idle item and counts it (R322). -/
def sendIdle (p : Nat) (s : State) : State := sendFrame p idleFrame (incF s (AUD_T_IDLE.TX p))

/-- The frame that leaves the port: in RUN the oldest of its FIFO, else the idle item (R322). -/
def tdmSend (p : Nat) (s : State) : State :=
  let x := getPort s p
  if flag s (AUD_T_CFG.TX_EN p) = false then s
  else if portState s p ≠ PT_RUN then sendIdle p s
  else match x.tx with
    | f :: rest => sendFrame p f (setPort s p { x with tx := rest })
    | [] => sendIdle p s

/-- The frame that arrives. -/
def tdmReceive (p : Nat) (bits : List Bool) (s : State) : State :=
  let x := getPort s p
  if flag s (AUD_T_CFG.RX_EN p) = false ∨ portState s p ≠ PT_RUN then s
  else if x.rx.length < 64 then setPort s p { x with rx := x.rx ++ [tdmSlots bits] }
  else incF s (AUD_T_DROP.RX p)

/-- A frame position counts for the port blocks in RUN (R325), and for the reports of R324. -/
def countPosition (p : Nat) (held : Bool) (s : State) : State :=
  let x := getPort s p
  let run := decide (portState s p = PT_RUN)
  let s := if run = true ∧ x.frames % perMs s = 0 then wr64 s (.AUD_T_TIME_LO p) (.AUD_T_TIME_HI p) (now s) else s
  let s := if run = true ∧ held = true then incF s (AUD_T_HOLDS.COUNT p) else s
  setPort s p { x with frames := x.frames + run.toNat, missing := if held = true ∧ 4 < x.lowFor then x.missing + 1 else 0 }

/-- A frame boundary at which a port that EN = 0 stops comes to rest; with EN set again it starts anew (R325). -/
def frameStop (p : Nat) (s : State) : State :=
  let s := stopPort p s
  if flag s (AUD_T_CFG.EN p) then startPort p s else s

/-- A frame position of a port: `held` when the peer of a slave gives it no frame sync; `bits` are those sampled (R319 to R325). -/
def tdmFrame (p : Nat) (held : Bool) (bits : List Bool) (s : State) : State :=
  let st := portState s p
  let x := getPort s p
  let master := flag s (AUD_T_CFG.MASTER p)
  let held := held && !master
  if 4 ≤ p then s
  else if x.stopping then frameStop p s
  else if st = PT_OFF ∨ st = PT_RETIRED ∨ (master = true ∧ x.begun = false) then s
  else
    let s := countPosition p held (flowPins p s)
    syncLevels p (if held then s else tdmReceive p bits (tdmSend p s))

def tdmBclkLoss (p : Nat) (s : State) : State := portFault p s

/-- Two consecutive frame positions without a frame sync, 4 or more after both pins went low (R324). -/
def tdmSyncMissing (p : Nat) (s : State) : State :=
  if slaveOn s p = true ∧ 2 ≤ (getPort s p).missing then portFault p s else s

/-! ### A sample period (R302, R305, R307, R310 to R314, R317, R318, R321, R327) -/

/-- The DTIME of the sample at hand (R301). -/
def sampleTime (s : State) : Nat := rd64 s .AUD_BLOCK_TIME_LO .AUD_BLOCK_TIME_HI + s.aud.sample * 1000000 / perMs s

/-- A buffer sample as binary32 (Table 12.2). -/
def convertSample (fmt v : Nat) : Nat :=
  if fmt = 0 then fOfInt (signed 16 v) 15
  else if fmt = 1 then fOfInt (signed 24 (v / 256)) 23
  else if isNan v then 0 else if 0x41800000 < v % 2 ^ 31 then (if fNeg v then 0xC1800000 else 0x41800000) else v

/-- The sample of a buffer that is playing, and the buffer after it (R305, R307); the flag tells of a sample played as 0. -/
def takeSample (s : State) (b : AudioBuf) : Nat × Bool × AudioBuf :=
  let z := sampleSize b.fmt
  let off := b.pos * z
  let bad := if hostSpace b.addr then (if b.data.length < off + z then b.cut else none)
    else if reaches s b.fn (b.addr + off) z = false ∨ poisonedRange s (b.addr + off) z = true then some ST_FAULT_TRANSIENT else none
  let b := match bad with
    | some st => if b.dead then b else { b with dead := true, status := lowerStatus b.status st }
    | none => b
  let v := if hostSpace b.addr then ofBytes ((List.range z).map (fun i => b.data.getD (off + i) 0)) else readNum s (b.addr + off) z
  let zero := b.dead || b.late
  let b := { b with pos := b.pos + 1, late := false, lastAt := if b.len ≤ off + z then some (sampleTime s) else none }
  (if zero then 0 else convertSample b.fmt v, zero, b)

/-- The read of the next sample of a buffer in device memory: an MMU fault where its slice is gone (R368). -/
def readSample (b : AudioBuf) (s : State) : State :=
  let z := sampleSize b.fmt
  if hostSpace b.addr = true ∨ b.dead = true then s
  else if reaches s b.fn (b.addr + b.pos * z) z then touch s (b.addr + b.pos * z) z else incF s MEM_MMU_FAULT.COUNT

/-- The source of a channel from its buffers (R306, R307). -/
def playChan (a : Nat) (s : State) : Nat × State :=
  let x := getChan s a
  match liveBufs x with
  | [] => (0, s)
  | b :: _ =>
    if b.started = false ∧ (b.ripe = false ∨ chanState s a ≠ CH_PLAYING) then (0, s)
    else
      let b := if b.started then b else startBuf s a b
      let (v, zero, b') := takeSample s b
      let s := setBufs a (onFirst (fun _ => b') x.bufs) (readSample b s)
      let s := if zero then incF s (AUD_A_UNDERRUN.COUNT a) else s
      let s := if liveBufs (getChan s a) = [] ∧ chanState s a = CH_PLAYING then setChanState s a CH_IDLE else s
      (v, s)

/-- The frame that the engine takes from a port's RX FIFO (R321, R322). -/
def takeRx (p : Nat) (s : State) : List Nat × State :=
  let x := getPort s p
  let st := portState s p
  if portOn s p = false ∨ flag s (AUD_T_CFG.RX_EN p) = false ∨ st = PT_RETIRED ∨ st = PT_OFF then (idleFrame, s)
  else
    let x := if 32 ≤ x.rx.length then { x with rxGo := true } else x
    match x.rxGo, x.rx with
    | true, f :: rest => (f, setPort s p { x with rx := rest })
    | _, _ => (idleFrame, incF (setPort s p x) (AUD_T_IDLE.RX p))

/-- Stages 1 and 2 of a channel (Table 12.1), and its state after the sample. -/
def channelSample (rx : List (List Nat)) (a : Nat) (s : State) : Nat × State :=
  let x := getChan s a
  if tdmSourced s a then
    let v := fOfInt (signed 24 ((rx.getD (rdF s (AUD_A_CFG.PORT a)) []).getD (rdF s (AUD_A_CFG.SLOT a)) 0)) 23
    (fMul v x.gain.value, s)
  else
    let (v, s) := playChan a s
    (fMul (fMul v x.k.value) x.gain.value, s)

/-- Each element of a list with a state threaded through. -/
def mapState {α β : Type} (f : α → State → β × State) : List α → State → List β × State
  | [], s => ([], s)
  | a :: as, s =>
    let (b, s) := f a s
    let (bs, s) := mapState f as s
    (b :: bs, s)

/-- A bus sum, added in ascending channel order (R302). -/
def busSum (s : State) (vs : List Nat) (b : Nat) : Nat :=
  let ps := (vs.zip (List.range 64)).map (fun k => fMul k.1 (routeGain (getChan s k.2) b (Config.freeNat (s.free + k.2 * 32 + b))))
  match ps with
  | [] => 0
  | p :: rest => rest.foldl fAdd p

/-- One biquad section (R314): its output and its history after. -/
def biquad (c : Nat → Nat) (x0 : Nat) (h : Nat × Nat × Nat × Nat) : Nat × (Nat × Nat × Nat × Nat) :=
  let (x1, x2, y1, y2) := h
  let acc := fMul (c 0) x0
  let acc := fFma (c 1) x1 acc
  let acc := fFma (c 2) x2 acc
  let acc := fFma (fNegate (c 3)) y1 acc
  let acc := fFma (fNegate (c 4)) y2 acc
  (acc, (x0, x1, acc, y1))

/-- Six sections in series. -/
def equalise (f : Fennel) (b bank : Nat) : Nat → Nat → List (Nat × Nat × Nat × Nat) → Nat × List (Nat × Nat × Nat × Nat)
  | _, x, [] => (x, [])
  | k, x, h :: hs =>
    let (y, h') := biquad (fun i => eqWord f b bank (5 * k + i)) x h
    let (z, hs') := equalise f b bank (k + 1) y hs
    (z, h' :: hs')

/-- Stages 3 to 6 of a bus: its 24-bit output (Table 12.1, R317); the output of a NaN is open. -/
def busSample (sums : List Nat) (b : Nat) (s : State) : Nat × State :=
  let x := getBus s b
  let (y, hist) := equalise s.aud b (rdF s (AUD_B_EQ.BANK b)) 0 (sums.getD b 0) x.hist
  let s := setBus s b { x with hist := hist, gain := x.gain.tick }
  match toS24 (fMul y x.gain.value) with
  | some (v, cut) => (unsigned 24 v, if cut then incF s (AUD_B_CLIP.COUNT b) else s)
  | none => (Config.freeNat (s.free + 2048 + b) % 2 ^ 24, s)

/-- What a map entry carries: byte `j` of the registers in effect (R318). -/
def mapped24 (s : State) (outs : List Nat) (r : Reg) (j : Nat) : Nat :=
  let w := bitsOf (Sparse.get r.reset s.aud.maps r.key).toNat (8 * j + 7) (8 * j)
  if bit w 7 then outs.getD (w % 32) 0 else 0

/-- The frames of the four ports for the bus outputs of a sample period (Table 12.1). -/
def portFrames (s : State) (outs : List Nat) : List (List Nat) :=
  (List.range 4).map (fun p => (List.range 16).map (fun j => mapped24 s outs (.AUD_T_TXMAP p (j / 4)) (j % 4)))

/-- What the engine puts into the TX FIFOs in a sample period: the frames of the sample 2,000,000 ns before (R326). -/
def lateFrames (s : State) : List (List Nat) :=
  match s.aud.late.find? (fun e => decide (e.1 + 2000000 ≤ sampleTime s)) with
  | some e => e.2
  | none => []

/-- The frames of this sample period join those on their way to the ports (R326). -/
def keepFrames (outs : List Nat) (s : State) : State :=
  { s with aud := { s.aud with late := (s.aud.late.filter (fun e => decide (sampleTime s < e.1 + 2000000))) ++ [(sampleTime s, portFrames s outs)] } }

/-- The engine's frame enters a port's TX FIFO (R321, R322), a master's from frame 0 on (R320, R326). -/
def putTx (frames : List (List Nat)) (p : Nat) (s : State) : State :=
  let x := getPort s p
  let st := portState s p
  if portOn s p = false ∨ flag s (AUD_T_CFG.TX_EN p) = false ∨ st = PT_OFF ∨ st = PT_RETIRED
    ∨ (flag s (AUD_T_CFG.MASTER p) = true ∧ x.begun = false) then s
  else if 64 ≤ x.tx.length then incF s (AUD_T_DROP.TX p)
  else setPort s p { x with tx := x.tx ++ [frames.getD p idleFrame] }

/-- A head's audio (R327): only in RUN, and on a pair only by the even head. -/
def headAudio (outs : List Nat) (h : Nat) (s : State) : State :=
  if flag s (AUD_HD_CFG.EN h) = false ∨ headState s h ≠ RUN ∨ View.lead s.dsp.active h ≠ h then s
  else
    let eight := flag s (AUD_HD_CFG.CH8 h)
    send s (.dpAudio h (if eight then 0x13 else 0) ((List.range (if eight then 8 else 2)).map (fun c => mapped24 s outs (.AUD_HD_MAP h (c / 4)) (c % 4))))

/-- Ramps and fades of a channel move on by one sample (R310, R311, R313). -/
def tickChan (a : Nat) (s : State) : State :=
  let x := getChan s a
  let k := x.k.tick
  let n := if fading x then x.fadeN + 1 else x.fadeN
  let s := setChan s a { x with gain := x.gain.tick, k := k, fadeN := n }
  let s := if fading x = true ∧ n = x.fadeLen then wrB s (AUD_A_RCTL.FADING a) false else s
  if chanState s a = CH_SILENCING ∧ x.silAt = none ∧ k.len ≤ k.n then silenced a s else s

/-- A sample period of the engine (R302, R321). -/
def samplePeriod (s : State) : State :=
  let (rx, s) := mapState takeRx (List.range 4) s
  let (vs, s) := mapState (channelSample rx) (List.range 64) s
  let sums := (List.range 32).map (busSum s vs)
  let (outs, s) := mapState (busSample sums) (List.range 32) s
  let s := forEach (List.range 12) (headAudio outs) (keepFrames outs (forEach (List.range 4) (putTx (lateFrames s)) s))
  let s := forEach (List.range 64) tickChan s
  let s := forEach (List.range 4) syncLevels s
  { s with free := s.free + 2080, aud := { s.aud with sample := s.aud.sample + 1 } }

/-! ### Ends of buffers (R306, R307) -/

/-- The oldest buffer that has played its last sample completes, at the time of that sample. -/
def audioComplete (a : Nat) (s : State) : State :=
  match (getChan s a).bufs.find? (fun b => b.lastAt.isSome) with
  | some b => completeAt (setBufs a ((getChan s a).bufs.erase b) s) b.fn b.q b.id b.status (b.lastAt.getD 0)
  | none => s

/-- The next sample of the buffer that plays, or that starts with the next sample period, has not arrived. -/
def underrun (a : Nat) (s : State) : State :=
  match liveBufs (getChan s a) with
  | b :: _ =>
    if b.started = true ∨ (b.ripe = true ∧ chanState s a = CH_PLAYING) then setBufs a (onFirst (fun b => { b with late := true, status := lowerStatus b.status ST_TIMEOUT }) (getChan s a).bufs) s else s
  | [] => s

/-- A host read of the buffer `id` has failed for good after the bytes `good`: what follows them is played as 0, and the buffer
completes with the status of Table 4.12 (R109, R307). -/
def audioReadFailed (id : Nat) (good : List Byte) (st : Nat) (s : State) : State :=
  { s with aud := { s.aud with chans := s.aud.chans.map (fun c => (c.1, { c.2 with bufs := c.2.bufs.map (fun b => if b.id = id then { b with data := good, cut := some st } else b) })) } }

/-! ### Register writes with a row of their own (R309, R311, R315, R316, R318) -/

/-- AUD_An_RCTL with GO (R309). -/
def routeGo (a v : Nat) (s : State) : State :=
  if 64 ≤ a then s
  else if admitted (Reg.fields (.AUD_A_RCTL a)) v = false then logDiscard s (Reg.AUD_A_RCTL a).key
  else
    let s := writeFields (keepBefore (.AUD_A_RCTL a) s) (.AUD_A_RCTL a) v
    let x := getChan s a
    if bit v 31 then wrB (setChan s a { x with goAt := if flag s (AUD_A_RCTL.PEND a) then x.goAt else now s, goLast := now s }) (AUD_A_RCTL.PEND a) true else s

/-- A write of a channel's (`bus` false) or a bus's gain (R311). -/
def gainWrite (bus : Bool) (n v : Nat) (s : State) : State :=
  let r : Reg := if bus then .AUD_B_GAIN n else .AUD_A_GAIN n
  if (if bus then 32 else 64) ≤ n then s
  else if admitted r.fields v = false then logDiscard s r.key
  else
    let s := writeFields (keepBefore r s) r v
    let first := fun (o : Option Nat) => some (o.getD (now s))
    if bus then setBus s n { getBus s n with gainAt := first (getBus s n).gainAt } else setChan s n { getChan s n with gainAt := first (getChan s n).gainAt }

/-- NaN, an infinity or a denormal value. -/
def badCoef (v : Nat) : Bool := isNan v || isInf v || decide (0 < v % 2 ^ 31 ∧ v % 2 ^ 31 < 0x00800000)

/-- A write of AUD_EQ_DATA (R315). -/
def eqDataWrite (v : Nat) (s : State) : State :=
  let b := rdF s AUD_EQ_ADDR.BUS
  let bank := rdF s AUD_EQ_ADDR.BANK
  let w := rdF s AUD_EQ_ADDR.WORD
  let inUse := decide (rdF s (AUD_B_EQ.BANK b) = bank)
  if badCoef v = true ∨ inUse = true ∨ flag s (AUD_B_EQ.PEND b) = true then logDiscard s (Reg.AUD_EQ_DATA).key
  else
    let s := { s with aud := { s.aud with coef := Sparse.set (eqReset w) s.aud.coef (b * 64 + bank * 32 + w) (v % 2 ^ 32) } }
    wrF s AUD_EQ_ADDR.WORD (if w = 29 then 0 else w + 1)

/-- AUD_Bb_EQ.SWAP (R316). -/
def eqSwap (b : Nat) (s : State) : State :=
  if 32 ≤ b then s
  else if flag s (AUD_B_EQ.PEND b) then logDiscard s (Reg.AUD_B_EQ b).key else wrB (setBus s b { getBus s b with swapAt := now s }) (AUD_B_EQ.PEND b) true

/-- A write of a map register, which takes effect at the next block boundary (R318). -/
def mapWrite (head : Bool) (n k v : Nat) (s : State) : State :=
  if head then (if n < 12 ∧ k < 2 then writeFields (keepBefore (.AUD_HD_MAP n k) s) (.AUD_HD_MAP n k) v else s)
  else if n < 4 ∧ k < 4 then writeFields (keepBefore (.AUD_T_TXMAP n k) s) (.AUD_T_TXMAP n k) v else s

/-! ### The meanings -/

def execBlockBoundary (t : Nat) (s : State) : Host.Outcome State Fault Refusal := actIn 12 t blockBoundary s
def execAudioBuffer (t : Nat) (data : List Byte) (s : State) : Host.Outcome State Fault Refusal := act t (dispatch OP_AUDIO_BUFFER checkAudio (runAudio data)) s
def execAudioBufferComplete (t a : Nat) (s : State) : Host.Outcome State Fault Refusal := actIn 12 t (audioComplete a) s
def execBufferUnderrun (t a : Nat) (s : State) : Host.Outcome State Fault Refusal := actIn 12 t (underrun a) s
def execRouteGo (t a : Nat) (v : Word) (s : State) : Host.Outcome State Fault Refusal := act t (onBar0 (routeGo a v.toNat)) s
def execGainWrite (t : Nat) (bus : Bool) (n : Nat) (v : Word) (s : State) : Host.Outcome State Fault Refusal := act t (onBar0 (gainWrite bus n v.toNat)) s
def execEqDataWrite (t : Nat) (v : Word) (s : State) : Host.Outcome State Fault Refusal := act t (onBar0 (eqDataWrite v.toNat)) s
def execEqSwap (t b : Nat) (s : State) : Host.Outcome State Fault Refusal := act t (onBar0 (eqSwap b)) s
def execMapWrite (t : Nat) (head : Bool) (n k : Nat) (v : Word) (s : State) : Host.Outcome State Fault Refusal := act t (onBar0 (mapWrite head n k v.toNat)) s
def execTdmPortEnable (t p : Nat) (v : Word) (s : State) : Host.Outcome State Fault Refusal := act t (onBar0 (writeTdmCfg p v.toNat)) s
def execTdmPortDisable (t p : Nat) (v : Word) (s : State) : Host.Outcome State Fault Refusal := act t (onBar0 (writeTdmCfg p v.toNat)) s
def execTdmFrameSync (t p clocks : Nat) (s : State) : Host.Outcome State Fault Refusal := actIn 12 t (tdmFrameSync p clocks) s
def execTdmFrame (t p : Nat) (held : Bool) (bits : List Bool) (s : State) : Host.Outcome State Fault Refusal := actIn 12 t (tdmFrame p held bits) s
def execTdmBclkLoss (t p : Nat) (s : State) : Host.Outcome State Fault Refusal := actIn 12 t (tdmBclkLoss p) s
def execTdmFrameSyncMissing (t p : Nat) (s : State) : Host.Outcome State Fault Refusal := actIn 12 t (tdmSyncMissing p) s

end Sys2Proof.Machine
end

