-- ==== Sys2Proof/Machine/TimeUnit.lean ====
section
/-! DEFINITION. The time unit: discipline, its states and TIME_TAI_OFFSET (R22 to R31, R48, R458). -/

namespace Sys2Proof.Machine

def TS_FREE : Nat := 0
def TS_HOLDOVER : Nat := 1
def TS_LOCKED : Nat := 2
def SRC_NONE : Nat := 0
def SRC_PTP : Nat := 1
def SRC_HOUSE : Nat := 2

/-- TIME_INC's bounds: nominal ± 700 ppm (R24). -/
def INC_MIN : Nat := 0x138480000
def INC_MAX : Nat := 0x138B80000
def INC_NOMINAL : Nat := 0x138800000
/-- The cap of the phase term: 200 ppm of nominal (R27). -/
def PHASE_CAP : Nat := 0x100000

/-- A value held to the bounds of R24. -/
def clampInc (v : Int) : Nat := (max (INC_MIN : Int) (min (INC_MAX : Int) v)).toNat

/-- TIME_TAI_OFFSET as a signed number (R25). -/
def taiOffset (s : State) : Int := signed 64 (rd64 s .TIME_TAI_OFFSET_LO .TIME_TAI_OFFSET_HI)
def setTaiOffset (s : State) (v : Int) : State :=
  wrB (wr64 s .TIME_TAI_OFFSET_LO .TIME_TAI_OFFSET_HI (unsigned 64 v)) TIME_STATUS.OFFSET_VALID true

/-- TIME_UNCERT as it reads now (R31). -/
def uncert (s : State) : Nat :=
  let st := rdF s TIME_STATUS.STATE
  if st = TS_LOCKED then
    if rdF s TIME_STATUS.SOURCE_ACTIVE = SRC_HOUSE then (rd s .TIME_EPOCH_ACC).toNat
    else min (s.time.offsets.foldl max 0 + 100) 0xFFFFFFFF
  else if st = TS_HOLDOVER then
    let d := now s - s.time.uncSince
    min (s.time.uncBase + (if s.time.uncSlow then d / 10000000 else 2 * (d / 1000000))) 0xFFFFFFFF
  else 0xFFFFFFFF

/-- HOLDOVER_S as it reads now (R30). -/
def holdoverS (s : State) : Nat :=
  if rdF s TIME_STATUS.STATE = TS_HOLDOVER then min ((now s - s.time.holdEntry) / 10 ^ 9) 0xFFFF else 0

/-- TIME_STATUS.STATE and SOURCE_ACTIVE change: a STATE log entry of machine 0x01 and a time event to the manager (R29,
R30).  The spec gives the event's payload no layout; it is an open value. -/
def setTimeState (s : State) (st src : Nat) : State :=
  let old := rdF s TIME_STATUS.STATE + 4 * rdF s TIME_STATUS.SOURCE_ACTIVE
  if old = st + 4 * src then s
  else
    let s := wrF (wrF s TIME_STATUS.STATE st) TIME_STATUS.SOURCE_ACTIVE src
    let s := logState s .time 0x01 0 old (st + 4 * src)
    spend (postEvent s 0 EV_TIME 0 0 (fresh s))

/-- A growth of TIME_UNCERT begins from its value at this moment (R30). -/
def uncertFrom (s : State) (slow : Bool) : State :=
  { s with time := { s.time with uncBase := uncert s, uncSince := now s, uncSlow := slow } }

/-- TIME_INC keeps the last frequency estimate without phase term (R31). -/
def dropPhase (s : State) : State := { s with time := { s.time with inc := s.time.freq } }

/-- The holdover timer starts from 0, or stops (R30). -/
def startTimer (s : State) : State := { s with time := { s.time with holdTimer := some (now s) } }
def stopTimer (s : State) : State := { s with time := { s.time with holdTimer := none } }

/-- LOCKED is left for HOLDOVER (Table 2.2, R30): with house sync active where it is the fallback and locked. -/
def enterHoldover (s : State) (house : Bool) : State :=
  let s := dropPhase (uncertFrom s house)
  let s := { s with time := { s.time with holdEntry := now s } }
  if house then setTimeState s TS_HOLDOVER SRC_HOUSE
  else setTimeState (startTimer s) TS_HOLDOVER SRC_NONE

/-- House sync takes over as the fallback in HOLDOVER (R30). -/
def houseTakesOver (s : State) : State := setTimeState (stopTimer (uncertFrom s true)) TS_HOLDOVER SRC_HOUSE

/-- HOLDOVER without a source, PTP absent: no Sync since its loss (R30). -/
def holdsAlone (s : State) : Bool :=
  decide (rdF s TIME_CTRL.SRC = 3 ∧ rdF s TIME_STATUS.STATE = TS_HOLDOVER ∧ rdF s TIME_STATUS.SOURCE_ACTIVE = SRC_NONE ∧ s.time.lastSync = none)

/-- The PTP source is lost: by announce timeout or four missing Sync messages (Table 2.2); house sync that locked while Syncs came
takes over (R30). -/
def ptpLost (s : State) : State :=
  let s := { s with time := { s.time with ptpLocked := false, syncGood := 0, lastSync := none, syncOpen := false } }
  if rdF s TIME_STATUS.STATE = TS_LOCKED ∧ rdF s TIME_STATUS.SOURCE_ACTIVE = SRC_PTP
  then enterHoldover s (decide (rdF s TIME_CTRL.SRC = 3) && s.time.houseLocked)
  else if holdsAlone s = true ∧ s.time.houseLocked = true then houseTakesOver s else s

/-- PTP is the selected source, alone or with the fallback. -/
def ptpSelected (s : State) : Bool := decide (rdF s TIME_CTRL.SRC = 1 ∨ rdF s TIME_CTRL.SRC = 3)
/-- House sync disciplines DTIME, alone or as the fallback. -/
def houseSelected (s : State) : Bool := decide (rdF s TIME_CTRL.SRC = 2 ∨ rdF s TIME_CTRL.SRC = 3)

/-- Lexicographic order of comparison data sets, lower is better. -/
def rankLe : List Nat → List Nat → Bool
  | [], _ => true
  | _ :: _, [] => false
  | a :: as, b :: bs => decide (a < b) || (decide (a = b) && rankLe as bs)

/-- The best master among those heard and qualified (Table 2.1). -/
def bestMaster : List PtpMaster → Option PtpMaster
  | [] => none
  | m :: rest =>
    match m.qualified, bestMaster rest with
    | true, none => some m
    | true, some b => if rankLe m.rank b.rank then some m else some b
    | false, b => b

/-- The selected master follows the masters heard.  A change of it opens the count afresh; the Syncs expected of the new one count
as missing from t_last on until it sends one (R458; DEDUCED, log entry 189). -/
def selectMaster (s : State) : State :=
  let b := (bestMaster s.time.masters).map (·.ident)
  if b = s.time.master then s
  else { s with time := { s.time with master := b, syncOpen := false, syncGood := 0 } }

/-- Announce and Sync intervals of 2^log seconds, in ns. -/
def logInterval (l : Int) : Nat := if 0 ≤ l then 10 ^ 9 * 2 ^ l.toNat else 10 ^ 9 / 2 ^ (-l).toNat

/-- A PTP Announce message (R26, Table 2.1). -/
def ptpAnnounce (ident : Nat) (rank : List Nat) (domain : Nat) (logSync logAnnounce : Int) (ptpScale : Bool) (s : State) : State :=
  if ptpSelected s = false ∨ domain ≠ rdF s TIME_CTRL.PTP_DOMAIN then s
  else
    let m : PtpMaster := { ident, rank, logSync, logAnnounce, lastAnnounce := now s, qualified := ptpScale && decide (-4 ≤ logSync ∧ logSync ≤ 1) }
    selectMaster { s with time := { s.time with masters := m :: s.time.masters.filter (fun x => x.ident ≠ ident) } }

/-- The announce receipt timeout of 3 announce intervals of a master has passed (Table 2.1). -/
def announceDue (t : Nat) (m : PtpMaster) : Bool := decide (m.lastAnnounce + 3 * logInterval m.logAnnounce ≤ t)

/-- Masters whose announce receipt timeout has passed are heard no more; where the selected one is among them, PTP is lost
(Table 2.1, Table 2.2). -/
def ptpAnnounceTimeout (s : State) : State :=
  let dead := s.time.masters.filter (announceDue (now s))
  let lost := dead.any (fun m => decide (some m.ident = s.time.master))
  let s := { s with time := { s.time with masters := s.time.masters.filter (fun m => !(announceDue (now s) m)) } }
  if dead.isEmpty then s else selectMaster (if lost then ptpLost s else s)

/-- The servo sets TIME_INC to a frequency estimate plus a phase term (R27).  The spec gives neither computation: both are
open values, the sum within the bounds of R24, the phase term capped and against the sign of the phase error left after a step.
In HOLDOVER there is no phase term (R31), and house sync keeps TIME_INC where it is active (Table 2.2; log entry 191). -/
def servo (err : Int) (s : State) : State :=
  if rdF s TIME_STATUS.SOURCE_ACTIVE = SRC_HOUSE then s
  else
    let f := clampInc ((INC_MIN : Int) + (fresh s % (INC_MAX - INC_MIN + 1) : Nat))
    let s := spend s
    let p : Int := if err = 0 ∨ rdF s TIME_STATUS.STATE = TS_HOLDOVER then 0 else (fresh s % (PHASE_CAP + 1) : Nat)
    let s := spend s
    { s with time := { s.time with freq := f, inc := clampInc (if err < 0 then (f : Int) + p else (f : Int) - p) } }

/-- A delay request goes out, by the delay mechanism of the profile (Table 2.1; when, is log entry 192). -/
def requestDelay (s : State) : State :=
  send s (.ptpDelay (decide (rdF s TIME_CTRL.PTP_PROFILE = 1)) (rdF s TIME_CTRL.PTP_DOMAIN))

/-- PTP steps TIME_TAI_OFFSET by `-err`, counts it, sets OFFSET_STEP and logs the step (R25, Table 11.8). -/
def stepOffset (err : Int) (s : State) : State :=
  let s := setTaiOffset s (taiOffset s - err)
  let s := raiseF (incF s TIME_STEP_COUNT.STEPS) TIME_STATUS.OFFSET_STEP
  writeLog s 0 .time 0x07 0 (unsigned 64 (-err) % 2 ^ 32) (some (unsigned 64 (-err) / 2 ^ 32))

/-- A Sync message of the selected master whose origin time, with its correction, is `origin` ns of TAI (R25, R27, R458).  Its
interval is measured from the Sync before it, also where one to three expected ones are missing between them (DESIGN CHOICE, log
entry 188). -/
def ptpSync (ident domain : Nat) (origin : Int) (s : State) : State :=
  if ptpSelected s = false ∨ domain ≠ rdF s TIME_CTRL.PTP_DOMAIN ∨ s.time.master ≠ some ident then s
  else
    let t := now s
    let first := !s.time.offsetSet
    let s := if first then { setTaiOffset s (origin + s.time.pathDelay - t) with time := { s.time with offsetSet := true } } else s
    let err := (t : Int) + taiOffset s - (origin + s.time.pathDelay)
    let s := if 1000000 ≤ err.natAbs then stepOffset err s else s
    let left := if 1000000 ≤ err.natAbs then 0 else err
    let measured := s.time.syncOpen && !first
    let good := if measured = true ∧ err.natAbs < 1000 then s.time.syncGood + 1 else 0
    let offs := if measured then (err.natAbs :: s.time.offsets).take 16 else s.time.offsets
    let interval := match s.time.masters.find? (fun m => decide (m.ident = ident)) with
      | some m => logInterval m.logSync
      | none => s.time.syncInterval
    let s := { s with time := { s.time with lastSync := some t, syncOpen := true, lastOrigin := origin, syncGood := good, offsets := offs, syncInterval := interval } }
    let s := requestDelay (servo left s)
    if 16 ≤ good then
      let s := { s with time := { s.time with ptpLocked := true } }
      if rdF s TIME_STATUS.STATE = TS_LOCKED ∧ rdF s TIME_STATUS.SOURCE_ACTIVE = SRC_PTP then s
      else setTimeState (stopTimer s) TS_LOCKED SRC_PTP
    else s

/-- The end of the window of the fourth missing Sync: t_last + 4.5 × I (R458). -/
def ptpSyncLoss (s : State) : State :=
  match s.time.lastSync with
  | some l => if 2 * now s < 2 * l + 9 * s.time.syncInterval then s else ptpLost s
  | none => s

/-- A delay response in a domain: request sent at `egress`, received by `ident` at `peerRx` and answered at `peerTx`; a response
of another domain is ignored, and so is one of the default profile that is not the selected master's (Table 2.1). -/
def ptpDelayResponse (ident domain egress : Nat) (peerRx peerTx : Int) (s : State) : State :=
  if ptpSelected s = false ∨ domain ≠ rdF s TIME_CTRL.PTP_DOMAIN then s
  else if rdF s TIME_CTRL.PTP_PROFILE = 0 then
    match s.time.lastSync, decide (s.time.master = some ident ∧ s.time.syncOpen = true) with
    | none, _ | _, false => s
    | some t2, true => { s with time := { s.time with pathDelay := ((t2 : Int) - s.time.lastOrigin + (peerRx - egress)) / 2 } }
  else { s with time := { s.time with pathDelay := ((now s : Int) - egress - (peerTx - peerRx)) / 2 } }

/-- A measured interval of `k` periods lies within ±500 ppm of the configured one, in 1/16 ns (Table 2.2). -/
def within500ppm (d16 k period : Nat) : Bool :=
  decide ((d16 - k * period) * 1000000 ≤ 500 * k * period ∧ (k * period - d16) * 1000000 ≤ 500 * k * period)

/-- House sync is lost to the time unit (Table 2.2, R30); where it was locked, the next point only opens the count (R458). -/
def houseLost (s : State) : State :=
  let s := if s.time.houseLocked then { s with time := { s.time with lastRef := none, refMissing := 0 } } else s
  let s := { s with time := { s.time with houseLocked := false, refGood := 0 } }
  if rdF s TIME_STATUS.STATE = TS_LOCKED ∧ rdF s TIME_STATUS.SOURCE_ACTIVE = SRC_HOUSE then enterHoldover s false
  else if rdF s TIME_STATUS.STATE = TS_HOLDOVER ∧ rdF s TIME_STATUS.SOURCE_ACTIVE = SRC_HOUSE then
    setTimeState (startTimer (dropPhase (uncertFrom s false))) TS_HOLDOVER SRC_NONE
  else s

/-- House sync meets its lock condition (Table 2.2, R30). -/
def houseLock (s : State) : State :=
  let s := { s with time := { s.time with houseLocked := true } }
  if rdF s TIME_CTRL.SRC = 2 then
    (if rdF s TIME_STATUS.STATE = TS_LOCKED then s else setTimeState (stopTimer s) TS_LOCKED SRC_HOUSE)
  else if holdsAlone s then houseTakesOver s
  else s

/-- House sync steers TIME_INC so that the measured period matches the configured one (R28); the estimate is open. -/
def houseSteer (s : State) : State :=
  let f := clampInc ((INC_MIN : Int) + (fresh s % (INC_MAX - INC_MIN + 1) : Nat))
  let s := spend s
  let active := decide (rdF s TIME_CTRL.SRC = 2) || decide (rdF s TIME_STATUS.SOURCE_ACTIVE = SRC_HOUSE)
  if active then { s with time := { s.time with freq := f, inc := f } } else s

/-- A SYNC_IN reference point as the time unit takes it (R28, R29, R458).  OFFSET_VALID is looked at here alone: a write of the
offset after 32 good periods locks at the next reference point (DESIGN CHOICE, log entry 190). -/
def timeReference (s : State) : State :=
  if houseSelected s = false then s
  else
    let t := now s
    match s.time.lastRef with
    | none => { s with time := { s.time with lastRef := some t, refGood := 0, refMissing := 0 } }
    | some l =>
      let k := s.time.refMissing + 1
      let ok := within500ppm (16 * (t - l)) k (rd s .TIME_SYNC_PERIOD).toNat
      let good := if ok = true ∧ k = 1 then s.time.refGood + 1 else 0
      let s := { s with time := { s.time with lastRef := some t, refGood := good, refMissing := 0 } }
      if ok then
        let s := houseSteer s
        if 32 ≤ good ∧ flag s TIME_STATUS.OFFSET_VALID = true then houseLock s else s
      else houseLost s

/-- The window of the next expected reference point closes without one (R458). -/
def timeReferenceMissing (s : State) : State :=
  if houseSelected s = false then s
  else match s.time.lastRef with
    | none => s
    | some l =>
      let k := s.time.refMissing + 1
      if 32 * (now s - l) < (2 * k + 1) * (rd s .TIME_SYNC_PERIOD).toNat then s
      else
        let s := { s with time := { s.time with refMissing := k, refGood := 0 } }
        if 2 ≤ k then houseLost { s with time := { s.time with lastRef := none, refMissing := 0 } } else s

/-- The holdover timer reaches HOLDOVER_MAX seconds (R30, Table 2.2). -/
def holdoverExpiry (s : State) : State :=
  match s.time.holdTimer with
  | some h =>
    if rdF s TIME_STATUS.STATE = TS_HOLDOVER ∧ h + rdF s TIME_CTRL.HOLDOVER_MAX * 10 ^ 9 ≤ now s
    then setTimeState (stopTimer s) TS_FREE SRC_NONE else s
  | none => s

/-- Discipline starts afresh from FREE (R30). -/
def restartDiscipline (s : State) : State :=
  let s := { s with time := { s.time with masters := [], master := none, lastSync := none, syncOpen := false, syncGood := 0, offsetSet := false, offsets := [], ptpLocked := false, lastRef := none, refGood := 0, refMissing := 0, houseLocked := false } }
  setTimeState (stopTimer s) TS_FREE SRC_NONE

/-- A write of TIME_CTRL (Table 2.9, R29, R457). -/
def writeTimeCtrl (v : Nat) (s : State) : State :=
  if admitted (Reg.fields .TIME_CTRL) v = false then logDiscard s (Reg.key .TIME_CTRL)
  else
    let src := rdF s TIME_CTRL.SRC
    let s := writeFields s .TIME_CTRL v
    if rdF s TIME_CTRL.SRC = src then s else restartDiscipline s

/-- A write of TIME_TAI_OFFSET_LO is held until the high word is written (Table 2.7). -/
def writeTaiLo (v : Nat) (s : State) : State := { s with time := { s.time with heldLo := some (BitVec.ofNat 32 v) } }

/-- A write of TIME_TAI_OFFSET_HI applies the offset, or is discarded with the held word while a PTP source is selected
(R25, Table 2.7). -/
def writeTaiHi (v : Nat) (s : State) : State :=
  let lo := (s.time.heldLo.getD (rd s .TIME_TAI_OFFSET_LO)).toNat
  let s := { s with time := { s.time with heldLo := none } }
  if ptpSelected s then logDiscard s (Reg.key .TIME_TAI_OFFSET_HI)
  else setTaiOffset s (signed 64 (lo + v % 2 ^ 32 * 2 ^ 32))

/-! ### The clock (R22, R23) -/

/-- One FCLK cycle: the accumulator takes TIME_INC once module reset has released it. -/
def clockTick (s : State) : State :=
  if s.time.run then
    let a := s.time.acc + s.time.inc
    { s with time := { s.time with acc := a, stamp := a / 2 ^ 32 } }
  else s

def execPtpSync (t ident domain : Nat) (origin : Int) (s : State) : Host.Outcome State Fault Refusal :=
  act t (ptpSync ident domain origin) s
def execPtpAnnounce (t ident : Nat) (rank : List Nat) (domain : Nat) (logSync logAnnounce : Int) (ptpScale : Bool)
    (s : State) : Host.Outcome State Fault Refusal :=
  act t (ptpAnnounce ident rank domain logSync logAnnounce ptpScale) s
def execPtpAnnounceTimeout (t : Nat) (s : State) : Host.Outcome State Fault Refusal := act t ptpAnnounceTimeout s
def execPtpSyncLoss (t : Nat) (s : State) : Host.Outcome State Fault Refusal := act t ptpSyncLoss s
def execPtpDelayResponse (t ident domain egress : Nat) (peerRx peerTx : Int) (s : State) : Host.Outcome State Fault Refusal :=
  act t (ptpDelayResponse ident domain egress peerRx peerTx) s
def execHoldoverExpiry (t : Nat) (s : State) : Host.Outcome State Fault Refusal := act t holdoverExpiry s
def execTimeSrcWrite (t : Nat) (v : Word) (s : State) : Host.Outcome State Fault Refusal := act t (onBar0 (writeTimeCtrl v.toNat)) s
def execTaiOffsetLoWrite (t : Nat) (v : Word) (s : State) : Host.Outcome State Fault Refusal := act t (onBar0 (writeTaiLo v.toNat)) s
def execTaiOffsetHiWrite (t : Nat) (v : Word) (s : State) : Host.Outcome State Fault Refusal := act t (onBar0 (writeTaiHi v.toNat)) s

end Sys2Proof.Machine
end

