-- ==== Sys2Proof/Machine/Values.lean ====
section
/-! DEFINITION. The value plane: records, field descriptors, the latch, and fonts (chapter 9). -/

namespace Sys2Proof.Machine

/-! ### VALUE_POST (R237, R238) -/

def checkValuePost (s : State) (k : Taken) : Nat :=
  checkDesc s k [unitOwn s k.fn K_FIELDS (u16 k.d 24 / 64)] (decide (u8 k.d 26 ≤ 4)) [(safe s, ST_SAFE_STATE)]

/-- A record is stored, unless the field holds a newer one (R238). -/
def storeRecord (f : Nat) (r : VRecord) (s : State) : State :=
  let x := getField s f
  let prev := match x.record with
    | some o => if o.stamp < r.stamp then some o else x.prev
    | none => none
  setField s f { x with record := some r, prev := prev, lost := false }

def olderThanHeld (x : Field) (meas : Nat) : Bool := match x.record with | some o => decide (meas < o.meas) | none => false

def runValuePost (k : Taken) (s : State) : State :=
  let f := u16 k.d 24
  let (meas, s) := clampTime k.fn (u64 k.d 40) (now s) s
  if olderThanHeld (getField s f) meas then complete (incF s VAL_OLD_REJECT.COUNT) k.fn k.q k.id ST_BAD_DESC
  else complete (storeRecord f { value := u64 k.d 32, meas := meas, quality := u8 k.d 26, stamp := now s } (touch s (VALUE_STORE + 32 * f) 32)) k.fn k.q k.id ST_OK

/-- The records of a group return to EMPTY (R243). -/
def clearGroup (g : Nat) (s : State) : State :=
  forEach ((List.range 64).map (· + 64 * g)) (fun f s =>
    let x := getField s f
    if x.record.isSome = true ∨ x.lost = true then setField s f { x with record := none, prev := none, lost := false } else s) s

/-! ### The latch (R246, R248) -/

/-- The record the store held before `t`. -/
def heldBefore (x : Field) (t : Nat) : Option VRecord :=
  match x.record with
  | some r => if r.stamp < t then some r else x.prev
  | none => none

/-- The field's tiles in the row being scanned get a contributor of its class with source time 0 (R248). -/
def staleField (f : Nat) (s : State) : State :=
  let d := (getField s f).active
  forEach ((List.range 12).filter (fun h => sourceOf s h = fdHead d)) (fun h s =>
    let sc := scene s h
    let row := (getHead s h).row
    match fieldRect sc.font d sc.w sc.h with
    | none => s
    | some (x0, y0, x1, y1) => addStale h (fdClass d) (fun col => decide (x0 < col * 32 + 32 ∧ col * 32 < x1 ∧ y0 < row * 32 + 32 ∧ row * 32 < y1)) s) s

/-- The latch point of a field in the frame being scanned; `ecc`: the read of its record met an uncorrectable error, and the field shows
as INVALID, with source time 0 in every tile row of it still to be sent (R246, R248). -/
def latchField (f : Nat) (ecc : Bool) (s : State) : State :=
  let x := getField s f
  if fdEnable x.active = false then s
  else if ecc = true ∨ x.lost = true then staleField f (setField s f { x with latched := .bad })
  else setField s f { x with latched := .held (heldBefore x (now s)) }

/-! ### Field descriptors (R240 to R242) -/

/-- The descriptor in VAL_FDESC_D0–D7. -/
def fdescWords (s : State) : Rec32 :=
  BitVec.ofNat 256 (((List.range 8).map (fun i => at32 (4 * i) (rd s (.VAL_FDESC_D i)).toNat)).sum)

/-- No reserved value (Table 9.2), FCLASS 7 apart. -/
def fdescGood (d : Rec32) : Bool :=
  decide (u8 d 0 < 32 ∧ fdClass d ≤ 7 ∧ fdHead d ≤ 11 ∧ fdFont d ≤ 7 ∧ 1 ≤ fdCells d ∧ fdCells d ≤ 16 ∧ fdDec d ≤ 9 ∧ fdScale d ≤ 9
    ∧ fdTable d ≤ 63 ∧ fdFg d < 2 ^ 30 ∧ fdBg d < 2 ^ 30 ∧ fdQ d < 2 ^ 30 ∧ u64 d 24 = 0)
  && (if fdKind d then decide (fdDec d = 0 ∧ fdScale d = 0) else decide (fdTable d = 0))

/-- A class that R242 refuses. -/
def classRefused (s : State) (f : Nat) (d : Rec32) : Bool :=
  decide (fdClass d = 7) || (locked s && decide (fdClass d ≠ rdF s (VAL_GRP_CLASS.CLASS (f / 64))))

def fdescStatus (s : State) (f : Nat) (d : Rec32) : Nat :=
  pickStatus [(classRefused s f d, ST_NOT_OWNER), (!(fdescGood d) || !(flag s VAL_FONT_LOAD.LOADED), ST_BAD_DESC)]

/-- A head has a pending commit. -/
def headPending (s : State) (h : Nat) : Bool := s.dsp.commits.any (fun c => c.heads.contains h)

/-- The shadow state of a field belongs to a pending commit (R225, R241). -/
def fieldPending (s : State) (x : Field) (d : Rec32) : Bool :=
  headPending s (fdHead d) || (fdEnable x.active && headPending s (fdHead x.active)) || (fdEnable x.shadow && headPending s (fdHead x.shadow))

/-- VAL_FDESC_CTRL with GO (R241). -/
def fdescWrite (f : Nat) (s : State) : State :=
  let f := f % 65536
  let d := fdescWords s
  let x := getField s f
  if fieldPending s x d then wrF (logDiscard s (Reg.VAL_FDESC_CTRL).key) VAL_FDESC_CTRL.RESULT ST_NO_SPACE
  else
    let st := fdescStatus s f d
    let s := wrF (wrF s VAL_FDESC_CTRL.FIELD f) VAL_FDESC_CTRL.RESULT st
    if st = ST_OK then setField s f { x with shadow := d } else s

/-- VAL_FDESC_CTRL with READ (R241). -/
def fdescRead (f : Nat) (s : State) : State :=
  let f := f % 65536
  let d := (getField s f).shadow
  forEach (List.range 8) (fun i s => wr s (.VAL_FDESC_D i) (BitVec.ofNat 32 (u32 d (4 * i)))) (wrF s VAL_FDESC_CTRL.FIELD f)

/-- What a commit of the heads `hs` makes of a field: its new active descriptor (R223, R241). -/
def fieldAfter (hs : List Nat) (x : Field) : Rec32 :=
  let moving := fdEnable x.active && decide (fdHead x.active ≠ fdHead x.shadow)
  let oldIn := fdEnable x.active && hs.contains (fdHead x.active)
  if hs.contains (fdHead x.shadow) ∧ (moving = false ∨ oldIn = true) then x.shadow
  else if moving = true ∧ oldIn = true then BitVec.ofNat 256 (x.active.toNat - 1)
  else x.active

/-- A field that a commit of `hs` would enable is still active on another head (R223). -/
def fieldBlocked (hs : List Nat) (x : Field) : Bool :=
  fdEnable x.shadow && hs.contains (fdHead x.shadow) && fdEnable x.active && decide (fdHead x.active ≠ fdHead x.shadow) && !(hs.contains (fdHead x.active))

def applyFields (hs : List Nat) (s : State) : State :=
  { s with val := { s.val with fields := forFields s.val.fields } }
where
  forFields (m : Sparse Field) : Sparse Field :=
    (m.map (fun p => (p.1, { p.2 with active := fieldAfter hs p.2 }))).filter (fun p => decide (p.2 ≠ {}))

/-- Enabled fields of a head, and the most that meet one active line, for a set of descriptors and the fonts the head draws with
(R245, R254). -/
def fieldCounts (s : State) (h w ht : Nat) (ds : List Rec32) : Nat × Nat :=
  let mine := ds.filter (fun d => fdEnable d && decide (fdHead d = h))
  let rects := mine.filterMap (fun d => fieldRect (fontCopy s (getHead s h).font) d w ht)
  let tops := rects.map (fun r => (rects.filter (fun q => decide (q.2.1 ≤ r.2.1 ∧ r.2.1 < q.2.2.2))).length)
  (mine.length, tops.foldl max 0)

/-- VAL_HDn_COUNT of the heads of a group: a clone head draws and counts none (R244, R245). -/
def syncCounts (g : Nat) (s : State) : State :=
  let v : View := s.dsp.active
  forEach (headsOf g) (fun h s =>
    let (n, l) := if v.flag (HD_CTRL.CLONE h) then (0, 0) else fieldCounts s h (hact v h) (vact v h) (s.val.fields.map (fun p => p.2.active))
    wrF (wrF s (VAL_HD_COUNT.FIELDS h) n) (VAL_HD_COUNT.MAX_LINE h) (min l 256)) s

/-- A new frame of a head: no field has been latched. -/
def unlatch (h : Nat) (s : State) : State :=
  { s with val := { s.val with fields := clearLatch s.val.fields } }
where
  clearLatch (m : Sparse Field) : Sparse Field :=
    (m.map (fun p => (p.1, if fdHead p.2.active = h then { p.2 with latched := .no } else p.2))).filter (fun p => decide (p.2 ≠ {}))

/-! ### Fonts (R253, R254) -/

def FONT_SIZE : Nat := 0x100000

/-- The listed bytes of `pages` pages of memory from `a` on, by offset. -/
def regionBytes (m : Memory) (a pages : Nat) : Sparse Byte :=
  (List.range pages).flatMap (fun i =>
    let p := mapped m (a + i * 4096) / 4096
    (m.bytes.filter (fun b => b.1 / 4096 = p)).map (fun b => (b.1 % 4096 + i * 4096, b.2)))

/-- A byte of a state entry that R253 refuses. -/
def badStateByte (p : Nat × Byte) : Bool := decide (0xC0000 ≤ p.1 ∧ p.2.toNat ≠ 0 ∧ (p.2.toNat < 0x20 ∨ 0x7E < p.2.toNat))

/-- The chunks that a placement names all hold data, in regions with ECC on where the placement needs it (R352, R359). -/
def placeOk (s : State) (base size : Nat) (ecc : Bool) : Bool :=
  (List.range size).all (fun i => chunkData s (base + i) && (!ecc || eccOn s ((base + i) / 512)))

/-- A range of chunks that the device keeps for itself lies outside every slice, the plate store, which Shallot alone writes, and
the ranges in `others` (R6, R79, R253, R262). -/
def placeFree (s : State) (base size : Nat) (others : List (Option (Nat × Nat))) : Bool :=
  (List.range 257).all (fun n => !(overlap base size (rdF s (INST_SLICE.BASE n)) (rdF s (INST_SLICE.SIZE n)))) &&
  (s.mem.plateStore :: others).all (fun r => match r with | none => true | some x => !(overlap base size x.1 x.2))

/-- The font region can be placed at chunk `b`: one data chunk with ECC on, outside every slice and every other placed range
(R253, R352, R359). -/
def fontPlaceOk (s : State) (b : Nat) : Bool := placeOk s b 1 true && placeFree s b 1 [journalRange s]

/-- VAL_FONT_LOAD with GO: the region is placed where BASE is at this moment, if it can be (R253, R254, R359, Table 11.4). -/
def fontLoad (s : State) : State :=
  if locked s then writeLog s 0 .val 0x02 0 (Reg.VAL_FONT_LOAD).key
  else if rdF s VAL_FONT_LOAD.RESULT = 0xFF then logDiscard s (Reg.VAL_FONT_LOAD).key
  else
    let b := rdF s VAL_FONT_SRC.BASE
    if fontPlaceOk s b = false then logDiscard s (Reg.VAL_FONT_LOAD).key
    else
      let s := { s with mem := { s.mem with fontRegion := some b } }
      if s.val.rewriting then wrF s VAL_FONT_LOAD.RESULT ST_FAULT_TRANSIENT
      else
        let sizes := (List.range 8).map (fun k => (rdF s (VAL_FONT_CFG.CW k), rdF s (VAL_FONT_CFG.CH k)))
        wrF { s with val := { s.val with load := some { sizes := sizes, copied := none, passed := [] } } } VAL_FONT_LOAD.RESULT 0xFF

/-- The copy ends: it fails on a read error or a bad state entry, or waits for the heads to take it (R253, R254). -/
def fontCopyComplete (s : State) : State :=
  match s.val.load with
  | none => s
  | some l =>
    if l.copied.isSome then s
    else
      let a := (s.mem.fontRegion.getD 0) * CHUNK
      let s := touch s a FONT_SIZE
      let bs := regionBytes s.mem a 256
      let st := if bs.any badStateByte then ST_BAD_DESC else if poisonedRange s a FONT_SIZE then ST_FAULT_TRANSIENT else ST_OK
      if st ≠ ST_OK then wrF { s with val := { s.val with load := none } } VAL_FONT_LOAD.RESULT st
      else
        let c : FontCopy := { bytes := bs, sizes := l.sizes }
        let v := { s.val with load := some { l with copied := some (now s) } }
        { s with val := if v.inUse = 0 then { v with copyB := c } else { v with copyA := c } }

/-- A commit point of a group after the copy completed: its heads draw with the new copy, and the load ends once every group
has passed one (R254). -/
def fontsAtCommit (g : Nat) (s : State) : State :=
  match s.val.load with
  | none => s
  | some l =>
    match l.copied with
    | none => s
    | some t0 =>
      if now s ≤ t0 ∨ l.passed.contains g = true then s
      else
        let other := 1 - s.val.inUse
        let s := forEach (headsOf g) (fun h s => setHead s h { getHead s h with font := other }) s
        if l.passed.length = 2 then
          wrB (wrF { s with val := { s.val with load := none, inUse := other } } VAL_FONT_LOAD.RESULT ST_OK) VAL_FONT_LOAD.LOADED true
        else { s with val := { s.val with load := some { l with passed := g :: l.passed } } }

/-- The font region is rewritten from the setup blob in flash (Table 11.4). -/
def fontRewriteComplete (s : State) : State :=
  if s.val.rewriting = false then s
  else
    let s := { s with val := { s.val with rewriting := false } }
    match s.mem.fontRegion with
    | none => s
    | some b => writeMem s (b * CHUNK) ((activeBlob s).fonts.take FONT_SIZE)

def execFdescWrite (t f : Nat) (s : State) : Host.Outcome State Fault Refusal := act t (onBar0 (fdescWrite f)) s
def execFdescRead (t f : Nat) (s : State) : Host.Outcome State Fault Refusal := act t (onBar0 (fdescRead f)) s
def execFontLoad (t : Nat) (s : State) : Host.Outcome State Fault Refusal := act t (onBar0 fontLoad) s

end Sys2Proof.Machine
end

