-- ==== Sys2Proof/Machine/Writeback.lean ====
section
/-! DEFINITION. Writeback (R198 to R202) and the freshness stage of a tile row (R42 to R46). -/

namespace Sys2Proof.Machine

/-- LYR_WB_BUSY follows the units that capture. -/
def syncBusy (s : State) : State :=
  wrF s LYR_WB_BUSY.UNITS ((s.dsp.captures.filterMap (·.unit)).foldl setBit 0)

def checkCapture (s : State) (k : Taken) : Nat :=
  let h := u8 k.d 24
  let dest := u64 k.d 32
  let pitch := u32 k.d 40
  let v : View := s.dsp.active
  let owner := decide (k.fn = 0 ∨ (h < 12 ∧ rdF s (LYR_WB_HD.OWNER h) = k.fn))
  checkDesc s k [(decide (h < 12) && !owner, ST_NOT_OWNER), (!(hostSpace dest) && !(reaches s k.fn dest (dLen k.d)), ST_NOT_OWNER)]
    (!(hostSpace dest) && decide (h < 12 ∧ dest % 256 = 0 ∧ pitch % 256 = 0 ∧ hact v h * 4 ≤ pitch))
    [(safe s, ST_SAFE_STATE), (decide (h < 12 ∧ dLen k.d < pitch * vact v h + 64), ST_NO_SPACE)]

/-- The capture is armed (R200). -/
def runCapture (k : Taken) (s : State) : State :=
  let c : Capture := { fn := k.fn, q := k.q, id := k.id, gen := instGen s k.fn, head := u8 k.d 24, dest := u64 k.d 32, pitch := u32 k.d 40, target := u32 k.d 28, stamp := now s }
  { s with dsp := { s.dsp with captures := s.dsp.captures ++ [c] } }

def dropCapture (c : Capture) (s : State) : State := syncBusy { s with dsp := { s.dsp with captures := s.dsp.captures.filter (fun x => x.id ≠ c.id) } }

/-- The lowest free writeback unit. -/
def freeUnit (s : State) : Option Nat := (List.range 4).find? (fun u => !(s.dsp.captures.any (fun c => c.unit = some u)))

/-- Armed captures of the heads of a group start, in dispatch order (R200). -/
def startCaptures (g frame : Nat) (s : State) : State :=
  let v : View := s.dsp.active
  let due := s.dsp.captures.filter (fun c => decide (c.unit = none ∧ groupOf c.head = g ∧ c.stamp < now s ∧ 0 ≤ signed 32 (frame + 2 ^ 32 - c.target)
    ∧ now s < c.stamp + 1000000000 ∧ showsPattern s c.head = false) && headOn v c.head && !(headRetired s c.head))
  syncBusy (forEach due (fun c s =>
    match freeUnit s with
    | none => s
    | some u =>
      mapCaptures (fun x => if x.id = c.id then { x with unit := some u, fmt := rdF s (LYR_WB_HD.FORMAT c.head), frame := frame % 2 ^ 32, width := hact v c.head, height := vact v c.head } else x) s) s)

/-- A pixel in a capture format (R201). -/
def captureBytes (fmt : Nat) (p : Rgb) : List Byte :=
  let e := fun v => min 255 ((v + 2) / 4)
  if fmt = 0 then toBytes 4 (p.1 + p.2.1 * 2 ^ 10 + p.2.2 * 2 ^ 20 + 3 * 2 ^ 30)
  else if fmt = 1 then toBytes 4 (e p.1 + e p.2.1 * 256 + e p.2.2 * 65536 + 255 * 2 ^ 24)
  else toBytes 4 (e p.2.2 + e p.2.1 * 256 + e p.1 * 65536 + 255 * 2 ^ 24)

/-- The lines of the tile row scanned last are written by the captures of its head (R201). -/
def captureRow (h : Nat) (s : State) : State :=
  let cs := s.dsp.captures.filter (capturing s h)
  if cs.isEmpty then s
  else
    let sc := scene s h
    let row := (getHead s h).row
    forEach cs (fun c s =>
      forEach ((List.range 32).filter (fun i => row * 32 + i < c.height)) (fun i s =>
        let y := row * 32 + i
        writeFor c.fn (c.dest + y * c.pitch) ((List.range c.width).flatMap (fun x => captureBytes c.fmt (stage4 s h sc x y))) s) s) s

/-- The trailer of a capture (Table 7.5). -/
def trailer (c : Capture) : List Byte :=
  toBytes 64 (at64 0 (c.tsrc.getD c.tfirst) + at64 8 c.tfirst + at32 16 c.frame + at16 20 c.width + at16 22 c.height
    + at8 24 c.head + at8 25 c.fmt)

/-- A capture writes what is left of it and its trailer, and completes (R201). -/
def captureComplete (u : Nat) (s : State) : State :=
  match s.dsp.captures.find? (fun c => decide (c.unit = some u)) with
  | none => s
  | some c =>
    let s := captureRow c.head s
    let s := writeFor c.fn (c.dest + c.pitch * c.height) (trailer c) s
    complete (dropCapture c s) c.fn c.q c.id ST_OK

/-- Armed captures that have not started 1 s after dispatch time out (R200). -/
def captureTimeout (s : State) : State :=
  forEach (s.dsp.captures.filter (fun c => c.unit = none ∧ c.stamp + 1000000000 ≤ now s)) (fun c s =>
    complete (dropCapture c s) c.fn c.q c.id ST_TIMEOUT) s

/-- A capture stops: counted, rows already written stay (R202). -/
def abortCapture (c : Capture) (s : State) : State := incF (dropCapture c s) LYR_WB_ABORT.COUNT

def bufferOverflow (u : Nat) (s : State) : State :=
  match s.dsp.captures.find? (fun c => decide (c.unit = some u)) with
  | none => s
  | some c => complete (abortCapture c s) c.fn c.q c.id ST_TIMEOUT

/-- A reset of the capturing instance stops its captures, without completion (R202). -/
def stopCaptures (n : Nat) (s : State) : State :=
  forEach (s.dsp.captures.filter (fun c => c.fn = n)) (fun c s => if c.unit.isSome then abortCapture c s else dropCapture c s) s

/-! ### The freshness stage (R44) -/

/-- The smallest source time of a list, joined to one held already. -/
def minSrc (cs : List (Nat × Nat)) (o : Option Nat) : Option Nat :=
  cs.foldl (fun b k => match b with | none => some k.2 | some x => some (min x k.2)) o

/-- A tile row of a head is scanned: the row before it is captured and sent, then ages are formed and treatments chosen (R44). -/
def tileRowScan (uncert : Nat) (h row : Nat) (s : State) : State :=
  if 12 ≤ h ∨ headOn s.dsp.active h = false ∨ (getHead s h).retiredLive = true then s
  else
    let s := if row = 0 then s else captureRow h s
    let s := rowBegins h row s
    let sc := scene s h
    if sc.h ≤ row * 32 then s
    else
      let cs := (List.range (ceilDiv sc.w 32)).map (contributors s.dsp s.mem sc row)
      let chosen := cs.map (chooseClass s (now s) uncert)
      let s := setHead s h { getHead s h with row := row, chosen := chosen, rowAt := now s, rowUncert := uncert, rowSrcs := cs }
      mapCaptures (fun c => if capturing s h c then { c with tsrc := minSrc cs.flatten c.tsrc, tfirst := if row = 0 then now s else c.tfirst } else c) s

def execWbCapture (t : Nat) (s : State) : Host.Outcome State Fault Refusal := act t (dispatch OP_WB_CAPTURE checkCapture runCapture) s
def execWbCaptureTimeout (t : Nat) (s : State) : Host.Outcome State Fault Refusal := actIn 6 t captureTimeout s
def execWbBufferOverflow (t u : Nat) (s : State) : Host.Outcome State Fault Refusal := actIn 6 t (bufferOverflow u) s

end Sys2Proof.Machine
end

