-- ==== Sys2Proof/Machine/Heads.lean ====
section
/-! DEFINITION. Heads: commits and the commit point, transitions, bandwidth admission, link training and hot-plug, genlock, and
the freshness and F7 stamps of a scan (chapter 8, R44, R269). -/

namespace Sys2Proof.Machine

/-! ### Genlock (R211, R212, R458) -/

/-- Genlock states (Table 8.3). -/
def GL_FREE : Nat := 0
def GL_ACQUIRING : Nat := 1
def GL_LOCKED : Nat := 2
def GL_HOLDOVER : Nat := 3

def genlockState (s : State) (g : Nat) : Nat := rdF s (HDG_STATUS.STATE g)

/-- A group's genlock changes state: a log entry of machine 0x02 and a HEAD event whose UNIT is the group (R211, R235). -/
def setGenlock (g st : Nat) (s : State) : State :=
  let old := genlockState s g
  if old = st then s
  else
    let s := logState (wrF s (HDG_STATUS.STATE g) st) .hd 2 g old st
    let x := getGroup s g
    let x := if st = GL_FREE then { x with freqOff := 0, phaseOff := 0 } else if st = GL_HOLDOVER then { x with phaseOff := 0, holdEntry := now s } else x
    headEvent (setGroup s g { x with refGood := 0, refBad := 0 }) 0x0A g 0 0xFF st (frameOf s g) 0

/-- The nominal interval of references: MULT frame periods. -/
def refPeriod (s : State) (g : Nat) : Nat := (aF s (HDG_GENLOCK.MULT_M1 g) + 1) * framePeriod s g

/-- The phase error at a reference: how far the start of line 0 lies from PHASE cycles of F_g after it, to the nearest frame. -/
def phaseError (s : State) (g : Nat) : Int :=
  let v : View := s.dsp.active
  let ph : Int := signed 24 (aF s (HDG_GENLOCK.PHASE g))
  let phNs : Int := if ph < 0 then -(cyclesNs (v.fld (HDG_PLL.FRAC g)) ph.natAbs : Int) else cyclesNs (v.fld (HDG_PLL.FRAC g)) ph.natAbs
  let p : Int := max 1 (framePeriod s g)
  let d := (((getGroup s g).lineZero : Int) - (now s : Int) - phNs) % p
  if 2 * d < p then d else d - p

/-- F_g is steered: up to 500 ppm for frequency and up to 500 ppm more for phase; how much is open (R211). -/
def steer (g : Nat) (err : Int) (s : State) : State :=
  let m := aF s (HDG_PLL.FRAC g) / 2000
  let f : Int := (fresh s % (2 * m + 1) : Nat) - (m : Int)
  let s := spend s
  let p : Int := (fresh s % (m + 1) : Nat)
  let s := spend s
  setGroup s g { getGroup s g with freqOff := f, phaseOff := if err < 0 then -p else p }

/-- Whether a reference point at hand is valid for a group: the interval since the previous valid one is in range of one reference period;
none where it only opens the count (R211, R458). -/
def onTime (s : State) (g : Nat) : Option Bool :=
  let x := getGroup s g
  x.lastRef.map (fun l => within500ppm (now s - l) 1 (refPeriod s g))

/-- A valid reference (Table 8.3). -/
def validReference (g : Nat) (s : State) : State :=
  let err := phaseError s g
  let s := wr s (.HDG_PHASE_ERR g) (BitVec.ofNat 32 (unsigned 32 err))
  let st := genlockState s g
  let x := getGroup s g
  let good := if st = GL_ACQUIRING ∧ 100 ≤ err.natAbs then 0 else x.refGood + 1
  let s := setGroup s g { x with lastRef := some (now s), lastPoint := now s, refGood := good, refBad := 0, refMissing := 0 }
  if st = GL_ACQUIRING then
    let s := steer g err s
    if 16 ≤ good then setGenlock g GL_LOCKED s else s
  else if st = GL_LOCKED then
    let s := steer g err s
    if 1000 ≤ err.natAbs then setGenlock g GL_ACQUIRING s else s
  else if st = GL_HOLDOVER ∧ 32 ≤ good then setGenlock g GL_ACQUIRING s
  else s

/-- A missing or invalid reference ends a count of valid ones.  Two in a row are a loss, after which the next point only opens the
count; they end LOCKED (R458, Table 8.3). -/
def badReference (g : Nat) (s : State) : State :=
  let x := getGroup s g
  if x.refBad = 0 then setGroup s g { x with refGood := 0, refBad := 1 }
  else
    let s := setGroup s g { x with lastRef := none, refGood := 0, refBad := 0, refMissing := 0 }
    if genlockState s g = GL_LOCKED then setGenlock g GL_HOLDOVER s else s

/-- A reference point as a group takes it: valid, invalid, or the first, which only opens the count (R211, R458). -/
def groupReference (g : Nat) (s : State) : State :=
  if genlockOn s g = false then s
  else
    let x := getGroup s g
    match onTime s g with
    | none => setGroup s g { x with lastRef := some (now s), lastPoint := now s, refGood := 0, refBad := 0, refMissing := 0 }
    | some true => validReference g s
    | some false => badReference g (setGroup s g { x with lastPoint := now s, refMissing := 0 })

/-- The window of a group's next reference has closed without one (R458). -/
def groupMissing (g : Nat) (s : State) : State :=
  let x := getGroup s g
  let k := x.refMissing + 1
  if genlockOn s g = false ∨ x.lastRef = none ∨ 2 * (now s - x.lastPoint) < (2 * k + 1) * refPeriod s g then s
  else badReference g (setGroup s g { x with refMissing := k })

/-- Whether the reference point at hand is valid for the time unit or for a group. -/
def referenceValid (s : State) : Bool :=
  (houseSelected s && (match s.time.lastRef with
    | some l => within500ppm (16 * (now s - l)) (s.time.refMissing + 1) (rd s .TIME_SYNC_PERIOD).toNat
    | none => false))
  || (List.range 3).any (fun g => genlockOn s g && decide (onTime s g = some true))

/-- SYNC_OUT pulses from the given source (R213). -/
def syncOut (src : Nat) (s : State) : State :=
  if flag s HD_SYNC_OUT.EN = true ∧ rdF s HD_SYNC_OUT.SRC = src then
    send { s with dsp := { s.dsp with syncOutAt := some (now s) } } .syncOut
  else s

/-- A SYNC_IN reference point (R28, R210, R211). -/
def syncReference (s : State) : State :=
  let s := if referenceValid s then syncOut 3 s else s
  forEach [0, 1, 2] groupReference (timeReference s)

def syncReferenceMissing (s : State) : State := forEach [0, 1, 2] groupMissing (timeReferenceMissing s)

/-! ### Views (R223, R226) -/

/-- What a commit of the heads `hs` does to a pipe. -/
inductive PipeAction where
  | none | release | full
deriving DecidableEq, Repr

def pipeAction (s : State) (v : View) (hs : List Nat) (p : Nat) : PipeAction :=
  let old := v.pipeHead p
  let new := if flag s (LYR_HEAD.ENABLE p) then some (rdF s (LYR_HEAD.HEAD p)) else Option.none
  let has := fun (o : Option Nat) => match o with | some h => hs.contains h | Option.none => false
  match old, new with
  | some a, some b =>
    if a = b then (if hs.contains a then .full else .none)
    else if hs.contains b then .full else if hs.contains a then .release else .none
  | _, _ => if has old = true ∨ has new = true then .full else .none

/-- The registers of a head's own commit: its own, and its share of its group's (R222). -/
def commitRegsOf (h : Nat) : List Reg := headShadow h ++ [.HDG_PLL (groupOf h), .HDG_GENLOCK (groupOf h)]

/-- Active values with the shapes that wait. -/
def baseView (s : State) : View :=
  (List.range 96).foldl (fun v p => match (getPipe s p).waiting with | some x => View.putShape v p x | none => v) s.dsp.active

/-- A view with the shadow state of the heads `hs` of a group. -/
def viewWith (s : State) (hs : List Nat) (v : View) : View :=
  let w := (List.range 96).foldl (fun (w : View) p =>
    match pipeAction s v hs p with
    | .none => w
    | .release => w.put (.LYR_HEAD p) (BitVec.ofNat 32 (setBits (w.reg (.LYR_HEAD p)).toNat 31 31 0))
    | .full => (pipeShadow p).foldl (fun w r => w.put r (rd s r)) w) v
  hs.foldl (fun (w : View) h => (commitRegsOf h).foldl (fun w r => w.put r (rd s r)) w) w

/-- A pipe that the commit would enable is still active on another head (R223). -/
def pipeBlocked (s : State) (v : View) (hs : List Nat) (p : Nat) : Bool :=
  flag s (LYR_HEAD.ENABLE p) && hs.contains (rdF s (LYR_HEAD.HEAD p)) &&
  (match v.pipeHead p with
   | some a => decide (a ≠ rdF s (LYR_HEAD.HEAD p)) && !(hs.contains a)
   | none => false)

/-! ### Bandwidth (R233, R234) -/

def up256 (n : Nat) : Nat := ceilDiv n 256 * 256

/-- A pipe's demand in MB/s, rounded up (R233). -/
def View.pipeDemand (v : View) (h p : Nat) : Nat :=
  let x := v.shape p
  let f := x.format
  let cw := v.fld (LYR_CROP_WH.CROP_W p)
  let ch := v.fld (LYR_CROP_WH.CROP_H p)
  let dh := max 1 (v.fld (LYR_DST_WH.DST_H p))
  let b0 := if f = 0x20 then cw * 2 else up256 (cw * bpp0 f)
  let b1 := if twoPlanes f then up256 ((cw + 1) / 2 * bpp1 f) else 0
  let n := b0 * (2 * max dh ch) + b1 * (if is420 f then max (2 * dh) ch else 2 * max dh ch)
  ceilDiv (n * 24576 * v.fld (HDG_PLL.FRAC (groupOf h))) (2 * dh * 5 * 2 ^ 32 * (max 1 (htotal v h) * pdiv v h))

/-- A head's demand; a clone's and a retired head's is 0 (R233, R290). -/
def headDemand (s : State) (v : View) (h : Nat) : Nat :=
  if headOn v h = false ∨ v.flag (HD_CTRL.CLONE h) = true ∨ (getHead s h).retiredLive = true then 0
  else (((List.range 96).filter (fun p => v.pipeHead p = some h)).map (v.pipeDemand h)).sum

def allHeads : List Nat := List.range 12

def totalDemand (s : State) (v : View) : Nat := (allHeads.map (headDemand s v)).sum

/-- The demand of a head with every commit of `others` counted where it lowers it (R226). -/
def reducedDemand (s : State) (others : List Commit) (c : Commit) (w : View) (h : Nat) : Nat :=
  let d := headDemand s w h
  if c.heads.contains h then d else others.foldl (fun b o => min b (headDemand s (viewWith s o.heads w) h)) d

/-- HDn_BW and HD_BW_USED follow the active demand (R234). -/
def syncDemand (s : State) : State :=
  let v := baseView s
  let s := forEach allHeads (fun h s => wrF s (HD_BW.DEMAND h) (headDemand s v h)) s
  wrF s HD_BW_USED.MBPS (totalDemand s v)

/-! ### Checks (R206, R207, R214, R215, R218, R224, R245, R260) -/

/-- Table 8.1, for the head's own timing. -/
def timingOk (v : View) (h : Nat) : Bool :=
  let l := v.lead h
  let frac := v.fld (HDG_PLL.FRAC (groupOf h))
  let cycles := frameCycles v h * 2 ^ 32 * 1000000000
  decide (64 ≤ hact v h ∧ hact v h ≤ 4096 ∧ hact v h + 32 ≤ htotal v h ∧ htotal v h ≤ 8192
    ∧ 1 ≤ v.fld (HD_HSYNC.HSYNC_W l) ∧ v.fld (HD_HSYNC.HSYNC_W l) ≤ 1023 ∧ v.fld (HD_HSYNC.HSYNC_START l) + v.fld (HD_HSYNC.HSYNC_W l) ≤ htotal v h - hact v h
    ∧ 64 ≤ vact v h ∧ vact v h ≤ 4096 ∧ vact v h + 8 ≤ vtotal v h ∧ vtotal v h ≤ 8192
    ∧ 1 ≤ v.fld (HD_VSYNC.VSYNC_W l) ∧ v.fld (HD_VSYNC.VSYNC_START l) + v.fld (HD_VSYNC.VSYNC_W l) ≤ vtotal v h - vact v h
    ∧ 25000000 * 2 ^ 32 * pdiv v h ≤ 4915200000 * frac ∧ 4915200000 * frac ≤ 600000000 * 2 ^ 32 * pdiv v h
    ∧ 8333333 * (4915200000 * frac) ≤ cycles ∧ cycles ≤ 50000000 * (4915200000 * frac))

/-- Every enabled head of a group has the same frame period (R207). -/
def periodsEqual (v : View) (g : Nat) : Bool :=
  match ((headsOf g).filter (headOn v)).map (frameCycles v) with
  | [] => true
  | a :: as => as.all (fun b => decide (a = b))

/-- A member of a pair (R214). -/
def View.inPair (v : View) (h : Nat) : Bool := v.flag (HD_CTRL.PAIR (h / 2 * 2))

/-- A clone meets the conditions of R215. -/
def cloneOk (v : View) (h : Nat) : Bool :=
  let c := v.fld (HD_CTRL.CLONE_SRC h)
  decide (groupOf c = groupOf h) && !(v.flag (HD_CTRL.CLONE c)) && !(v.inPair c)
  && decide (v.reg (.HD_HTIM c) = v.reg (.HD_HTIM h) ∧ v.reg (.HD_HSYNC c) = v.reg (.HD_HSYNC h) ∧ v.reg (.HD_VTIM c) = v.reg (.HD_VTIM h)
      ∧ v.reg (.HD_VSYNC c) = v.reg (.HD_VSYNC h) ∧ v.fld (HD_CTRL.PDIV c) = v.fld (HD_CTRL.PDIV h))
  && (List.range 96).all (fun p => decide (v.pipeHead p ≠ some h))

/-- Pairs and clones of the group of a commit are whole in the view `v` that it makes of `old`: PAIR changes only with both heads, and a
pair uses DSC (R214, R215). -/
def pairCloneOk (old v : View) (hs : List Nat) (group : Bool) (g : Nat) : Bool :=
  ((headsOf g).filter (fun h => h % 2 = 0)).all (fun h =>
    (decide (v.flag (HD_CTRL.PAIR h) = old.flag (HD_CTRL.PAIR h)) || (group && hs.contains h && hs.contains (h + 1)))
    && (!(v.flag (HD_CTRL.PAIR h)) || v.flag (HD_OUT.DSC_EN h)))
  && ((headsOf g).filter (fun h => v.flag (HD_CTRL.CLONE h))).all (cloneOk v)

/-- DSC slices divide the picture (R218). -/
def dscOk (v : View) (h : Nat) : Bool :=
  let l := v.lead h
  if v.flag (HD_OUT.DSC_EN l) then
    decide (vact v h % (max 1 (v.fld (HD_OUT.SLICE_H l))) = 0 ∧ (hact v h * (if v.inPair h then 2 else 1)) % 2 ^ v.fld (HD_OUT.SLICES l) = 0)
  else true

/-- A pipe that will be enabled meets R185; `v` holds its new shape. -/
def pipeOk (v : View) (p : Nat) : Bool :=
  let x := v.shape p
  let f := x.format
  let cw := v.fld (LYR_CROP_WH.CROP_W p)
  let ch := v.fld (LYR_CROP_WH.CROP_H p)
  let dw := v.fld (LYR_DST_WH.DST_W p)
  let dh := v.fld (LYR_DST_WH.DST_H p)
  let step := fun a b => decide (4096 ≤ scalerStep a b ∧ scalerStep a b ≤ 262144)
  decide (v.fld (LYR_CROP_XY.CROP_X p) + cw ≤ x.w ∧ v.fld (LYR_CROP_XY.CROP_Y p) + ch ≤ x.h ∧ x.w * bpp0 f ≤ x.pitch0
    ∧ (if twoPlanes f = true then chromaW x * bpp1 f ≤ x.pitch1 else x.pitch1 = 0) ∧ (f = 0x20 → x.w % 2 = 0))
  && (if 48 ≤ p then decide (dw = cw ∧ dh = ch ∧ isYcc f = false) else step cw dw && step ch dh && decide (cw ≤ 8192))

/-- The regions of a head lie inside its active area (R260). -/
def regionsInside (s : State) (v : View) (h : Nat) : Bool :=
  (regionsOf s h).all (fun r => decide (rdF s (ART_R_POS.X h r) + rdF s (ART_R_SIZE.W h r) ≤ hact v h ∧ rdF s (ART_R_POS.Y h r) + rdF s (ART_R_SIZE.H h r) ≤ vact v h))

/-- The descriptors that would be active after a commit of `hs`, which applies only once every field that it moves in is released
(R223, R245). -/
def fieldsAfter (s : State) (hs : List Nat) : List Rec32 :=
  s.val.fields.map (fun p => if fieldBlocked hs p.2 then p.2.shadow else fieldAfter hs p.2)

def fieldsFit (s : State) (v : View) (hs : List Nat) (h : Nat) : Bool :=
  let (n, l) := if v.flag (HD_CTRL.CLONE h) then (0, 0) else fieldCounts s h (hact v h) (vact v h) (fieldsAfter s hs)
  decide (n ≤ 8192 ∧ l ≤ 256)

/-- The status of a GO of the heads `hs`, all of one group: of the enabled ones among them and of the odd heads that take their timing
from one of them (R214, R224, R229, R245, R260, R290). -/
def goStatus (s : State) (hs : List Nat) (group : Bool) : Nat :=
  let g := groupOf (hs.headD 0)
  let v := viewWith s hs (baseView s)
  let on := (headsOf g).filter (fun h => headOn v h && (hs.contains h || hs.contains (v.lead h)))
  let pllMoves := decide (v.fld (HDG_PLL.FRAC g) ≠ aF s (HDG_PLL.FRAC g))
  let mine := fun h => (List.range 96).filter (fun p => v.pipeHead p = some h)
  let many := hs.any (fun h => decide (16 < (mine h).length))
  pickStatus [
    (hs.any (fun h => (getHead s h).retiredLive), ST_RETIRED),
    (!(on.all (timingOk v)) || !(on.all (dscOk v)) || !(periodsEqual v g) || !(pairCloneOk (baseView s) v hs group g), ST_BAD_DESC),
    (pllMoves && !(group && ((headsOf g).filter (headOn v)).all hs.contains), ST_BAD_DESC),
    (hs.any (fun h => (mine h).any (fun p => !(pipeOk v p))), ST_BAD_DESC),
    (on.any (fun h => !(regionsInside s v h)), ST_BAD_DESC),
    (many, if group then ST_BAD_DESC else ST_NO_SPACE),
    ((hs ++ on).any (fun h => !(fieldsFit s v hs h)), ST_NO_SPACE)]

/-! ### Pending commits (R224, R225, R229) -/

/-- RESULT, PEND and DEFER_FRAMES of a commit. -/
def commitRegs (hs : List Nat) (cg : Option Nat) (f : State → Fld → Fld → Fld → State) (s : State) : State :=
  let s := forEach hs (fun h s => f s (HD_COMMIT.RESULT h) (HD_COMMIT.PEND h) (HD_COMMIT.DEFER_FRAMES h)) s
  match cg with
  | some k => f s (HDCG_STATUS.RESULT k) (HDCG_STATUS.PEND k) (HDCG_STATUS.DEFER_FRAMES k)
  | none => s

def setResult (hs : List Nat) (cg : Option Nat) (st : Nat) : State → State := commitRegs hs cg (fun s r _ _ => wrF s r st)
def setPending (hs : List Nat) (cg : Option Nat) (b : Bool) : State → State := commitRegs hs cg (fun s _ p _ => wrB s p b)
def setDefers (hs : List Nat) (cg : Option Nat) (n : Nat) : State → State := commitRegs hs cg (fun s _ _ d => wrF s d (min n 15))

def lowest (hs : List Nat) : Nat := hs.foldl min (hs.headD 0)

def commitEvent (kind st : Nat) (hs : List Nat) (cg : Option Nat) (s : State) : State := headEventOf s kind (lowest hs) st (cg.getD 0xFF)

/-- The heads `hs` become a pending commit, or the failure of their checks is their result (R224, R229). -/
def startCommit (hs : List Nat) (cg : Option Nat) (bad : Bool) (s : State) : State :=
  let st := if bad then ST_BAD_DESC else goStatus s hs cg.isSome
  if st ≠ ST_OK then commitEvent 2 st hs cg (setResult hs cg st s)
  else
    let s := { s with dsp := { s.dsp with commits := s.dsp.commits ++ [{ heads := hs, cgroup := cg, stamp := now s }] } }
    let s := setDefers hs cg 0 (setPending hs cg true s)
    forEach hs (fun h s => if flag s (HD_CTRL.ENABLE h) = true ∧ headOn s.dsp.active h = false then switchOn (7 + groupOf h) s else s) s

/-- The shadow state of the heads reloads from the active values (R225). -/
def reloadShadow (hs : List Nat) (s : State) : State :=
  let v : View := s.dsp.active
  let load := fun (r : Reg) (s : State) => wr s r (v.reg r)
  let s := forEach (List.range 96) (fun p s => if pipeAction s v hs p = .none then s else forEach (pipeShadow p) load s) s
  let s := forEach hs (fun h s => forEach (commitRegsOf h) load s) s
  { s with val := { s.val with fields := s.val.fields.map (fun p =>
      if (fdEnable p.2.active && hs.contains (fdHead p.2.active)) || (fdEnable p.2.shadow && hs.contains (fdHead p.2.shadow)) then (p.1, { p.2 with shadow := p.2.active }) else p) |>.filter (fun p => decide (p.2 ≠ {})) } }

/-- A pending commit is cancelled (R225). -/
def cancelCommit (c : Commit) (s : State) : State :=
  let s := { s with dsp := { s.dsp with commits := s.dsp.commits.erase c } }
  reloadShadow c.heads (setResult c.heads c.cgroup ST_OK (setPending c.heads c.cgroup false s))

/-- HDn_COMMIT.GO (R224). -/
def headGo (h : Nat) (s : State) : State :=
  if 12 ≤ h then s
  else if headPending s h then logDiscard s (Reg.HD_COMMIT h).key
  else startCommit [h] none false s

/-- HDn_COMMIT.CANCEL (R225); on a member of a commit group it acts on the group. -/
def headCancel (h : Nat) (s : State) : State :=
  match s.dsp.commits.find? (fun c => c.heads.contains h) with
  | some c => cancelCommit c s
  | none => s

def pendingGroup (s : State) (k : Nat) : Option Commit := s.dsp.commits.find? (fun c => decide (c.cgroup = some k))

/-- HD_CGk_CTRL.GO with a MASK (R229). -/
def groupGo (k mask : Nat) (s : State) : State :=
  if 4 ≤ k then s
  else match pendingGroup s k with
    | some c => commitEvent 2 ST_BAD_DESC c.heads (some k) (wrF s (HDCG_STATUS.RESULT k) ST_BAD_DESC)
    | none =>
      let s := wrF s (HDCG_CTRL.MASK k) mask
      let hs := allHeads.filter (bit mask)
      startCommit hs (some k) (decide (hs = []) || hs.any (fun h => decide (groupOf h ≠ groupOf (hs.headD 0))) || hs.any (headPending s)) s

/-- A write of MASK, which a pending commit group discards (Table 8.10). -/
def groupMask (k mask : Nat) (s : State) : State := if (pendingGroup s k).isSome then s else wrF s (HDCG_CTRL.MASK k) mask

def groupCancel (k : Nat) (s : State) : State :=
  match pendingGroup s k with
  | some c => cancelCommit c s
  | none => s

/-! ### Deciding at a commit point (R226, R227) -/

/-- The view so far, the heads whose commits have applied, what has been decided and what waits. -/
structure Decisions where
  view : View
  done : List Nat
  decided : List (Commit × Nat)
  waiting : List Commit

/-- A commit's check: none is WAIT (R226); where a refusal has several grounds, its status is the lowest (R14). -/
def judge (s : State) (d : Decisions) (c : Commit) : Option Nat :=
  let g := groupOf (c.heads.headD 0)
  let w := viewWith s c.heads d.view
  let on := (headsOf g).filter (headOn w)
  let others := s.dsp.commits.filter (fun o => !(decide (o = c)) && !(d.decided.any (fun k => decide (k.1 = o))))
  let budget := rdF s HD_BW_BUDGET.MBPS
  let exceeds := c.heads.any (fun h => decide (16000 < headDemand s w h)) || decide (budget < (allHeads.map (reducedDemand s others c w)).sum)
  if !(on.all (timingOk w)) || !(on.all (dscOk w)) || !(periodsEqual w g) || !(pairCloneOk d.view w c.heads c.cgroup.isSome g) then some ST_BAD_DESC
  else if c.heads.any (headRetired s) then some (if exceeds then ST_REFUSED_BW else ST_RETIRED)
  else if c.heads.any (fun h => decide (headState s h = TRANSITION)) then none
  else if (List.range 96).any (pipeBlocked s d.view c.heads)
      || s.val.fields.any (fun p => fieldBlocked c.heads p.2 && !(d.done.contains (fdHead p.2.active))) then none
  else if exceeds then some ST_REFUSED_BW
  else if totalDemand s w ≤ budget then some ST_OK
  else none

/-- One pass over the commits that wait. -/
def decidePass (s : State) : List Commit → Decisions → Decisions
  | [], d => d
  | c :: cs, d =>
    match judge s d c with
    | none => decidePass s cs { d with waiting := d.waiting ++ [c] }
    | some st =>
      let d := { d with decided := d.decided ++ [(c, st)] }
      decidePass s cs (if st = ST_OK then { d with view := viewWith s c.heads d.view, done := d.done ++ c.heads } else d)

/-- Passes until nothing more applies. -/
def decideAll (fuel : Nat) (s : State) (d : Decisions) : Decisions :=
  match fuel with
  | 0 => d
  | n + 1 =>
    let e := decidePass s d.waiting { d with waiting := [] }
    if e.done.length = d.done.length then e else decideAll n s e

/-- Commits in ascending order of their lowest head. -/
def byLowestHead (cs : List Commit) : List Commit := allHeads.flatMap (fun h => cs.filter (fun c => decide (lowest c.heads = h)))

def decideCommits (s : State) (g : Nat) : Decisions :=
  let mine := byLowestHead (s.dsp.commits.filter (fun c => decide (groupOf (c.heads.headD 0) = g ∧ c.stamp < now s)))
  decideAll (mine.length + 1) s { view := baseView s, done := [], decided := [], waiting := mine }

/-! ### Applying a commit; transitions (R230, R231) -/

/-- What a mode change is a change of, for a head in a view (R230). -/
def modeKey (v : View) (h : Nat) : List Nat :=
  let l := v.lead h
  [l, v.fld (HD_CTRL.PAIR l), v.fld (HD_CTRL.PDIV l), (v.reg (.HD_HTIM l)).toNat, (v.reg (.HD_HSYNC l)).toNat, (v.reg (.HD_VTIM l)).toNat,
   (v.reg (.HD_VSYNC l)).toNat, setBits (v.reg (.HD_OUT l)).toNat 30 30 0, (v.reg (.HD_LINK l)).toNat, v.fld (HDG_PLL.FRAC (groupOf h))]

/-- The link stops and STATE reads OFF (R230, R290). -/
def stopHead (h : Nat) (s : State) : State :=
  let s := clearLink h (wrF (setHeadState s h OFF) (HD_STATUS.TRANS_FRAMES h) 0)
  setHead s h { getHead s h with trained := false, training := false, transAt := none }

/-- A run of the training policy starts from step 1, once hot-plug is high, on the port that carries the link (R214, R220). -/
def startTraining (h : Nat) (s : State) : State :=
  setHead s h { getHead s h with training := flag s (HD_STATUS.HPD h) && decide (View.lead s.dsp.active h = h), lastFirst := false }

/-- Table 8.6 at C; training starts at once, or after the PLL has settled. -/
def startTransition (h frame : Nat) (pll : Bool) (s : State) : State :=
  let s := wrF (wrF (clearLink h (setHeadState s h TRANSITION)) (HD_STATUS.TRANS_FRAMES h) 1) (HD_STATUS.FAIL_REASON h) 0
  let s := setHead s h { getHead s h with trained := false, training := false, transAt := some frame }
  if pll then s else startTraining h s

/-- A commit applies on every one of its heads (R222, R223, R228, R230). -/
def applyCommit (frame : Nat) (c : Commit) (s : State) : State :=
  let g := groupOf (c.heads.headD 0)
  let old : View := s.dsp.active
  let acts := (List.range 96).filter (fun p => decide (pipeAction s old c.heads p ≠ .none))
  let full := acts.filter (fun p => decide (pipeAction s old c.heads p = .full))
  let v := acts.foldl (fun (w : View) p => if full.contains p then applyPipe s w p else w.put (.LYR_HEAD p) (BitVec.ofNat 32 (setBits (w.reg (.LYR_HEAD p)).toNat 31 31 0))) old
  let v := c.heads.foldl (fun (w : View) h => (commitRegsOf h).foldl (fun w r => w.put r (rd s r)) w) v
  let shapes := full.map (fun p => (p, shadowShape s p))
  let s := applyFields c.heads (forEach shapes (fun k s => setWaiting s k.1 k.2) (setActive s v))
  let pll := decide (v.fld (HDG_PLL.FRAC g) ≠ old.fld (HDG_PLL.FRAC g))
  let s := forEach (headsOf g) (fun h s =>
    if headOn v h = false then (if headOn old h then stopHead h s else s)
    else if headOn old h = false ∨ modeKey old h ≠ modeKey v h then startTransition h frame pll s else s) s
  let s := if genlockOn s g = false then setGenlock g GL_FREE s
    else if pll = true ∨ genlockState s g = GL_FREE then
      let s := setGenlock g GL_ACQUIRING s
      setGroup s g { getGroup s g with lastRef := none, lastPoint := 0, refGood := 0, refBad := 0, refMissing := 0 }
    else s
  if pll then wrF (setGroup s g { getGroup s g with retune := some (now s), freqOff := 0, phaseOff := 0 }) CLK_STATUS.PIX_LOCK (clearBit (rdF s CLK_STATUS.PIX_LOCK) g) else s

/-- A decided commit: RESULT, its end, its effect and its event (R226). -/
def finishCommit (frame : Nat) (k : Commit × Nat) (s : State) : State :=
  let (c, st) := k
  let s := { s with dsp := { s.dsp with commits := s.dsp.commits.filter (fun x => x.heads ≠ c.heads) } }
  let s := setResult c.heads c.cgroup st (setPending c.heads c.cgroup false s)
  if st = ST_OK then commitEvent 1 st c.heads c.cgroup (applyCommit frame c s) else commitEvent 2 st c.heads c.cgroup s

/-- A commit that waits is deferred for the frame (R227). -/
def deferCommit (c : Commit) (s : State) : State :=
  let n := c.defers + 1
  let s := { s with dsp := { s.dsp with commits := s.dsp.commits.map (fun x => if x.heads = c.heads then { x with defers := n } else x) } }
  let s := setDefers c.heads c.cgroup n s
  if n = 8 then commitEvent 3 ST_DEFERRED c.heads c.cgroup (setResult c.heads c.cgroup ST_DEFERRED s) else s

/-- A head's transition, or its way back from a failed link, at a commit point (Table 8.5 step 5, Table 8.6, R235); `trained`: the
link that it uses has trained. -/
def progress (frame : Nat) (trained : Bool) (h : Nat) (s : State) : State :=
  let st := headState s h
  if trained = true ∧ (st = TRANSITION ∨ st = LINK_FAIL ∨ st = LINK_LOST) then
    let s := setHead (setHeadState s h RUN) h { getHead s h with trained := false, transAt := none, unsent := none, crcs := [], coders := [] }
    headEventOf s (if st = TRANSITION then 4 else 7) h 0 0xFF
  else if st = TRANSITION then
    let k := frame - (getHead s h).transAt.getD frame
    if k < 6 then wrF s (HD_STATUS.TRANS_FRAMES h) (k + 1)
    else
      let l := View.lead s.dsp.active h
      let s := setHead s h { getHead s h with transAt := none }
      let s := if l ≠ h then wrF s (HD_STATUS.FAIL_REASON h) (rdF s (HD_STATUS.FAIL_REASON l))
        else if rdF s (HD_STATUS.FAIL_REASON h) ≠ 0 then s
        else if flag s (HD_STATUS.HPD h) then spend (wrF s (HD_STATUS.FAIL_REASON h) (2 + fresh s % 5))
        else wrF s (HD_STATUS.FAIL_REASON h) 1
      headEventOf (setHeadState s h LINK_FAIL) 5 h 0 0xFF
  else s

/-- What a head keeps for a frame that begins: nothing scanned, patterns of Table 11.3 and of safe state, retirement (R290, R292). -/
def beginFrame (h : Nat) (s : State) : State :=
  let x := getHead s h
  setHead s h { x with row := 0, chosen := [], rowSrcs := [], patternNow := x.patternNext, patternNext := false, patternFrom := none, safePattern := safe s }

/-- A retired head stops from its next commit point on (R290). -/
def retireAtCommit (h : Nat) (s : State) : State :=
  let x := getHead s h
  if headRetired s h = x.retiredLive then s
  else
    let s := setHead s h { x with retiredLive := headRetired s h }
    if headRetired s h then stopHead h s else s

/-- A commit that waits enables a head of the group: its DisplayPort domain is on from the GO (R385). -/
def enableWaits (s : State) (g : Nat) : Bool :=
  s.dsp.commits.any (fun c => c.heads.any (fun h => decide (groupOf h = g) && flag s (HD_CTRL.ENABLE h)))

/-- The commit point of a group (R208, R226 to R231, R174, R178, R200, R254, R268, R277). -/
def commitPoint (g : Nat) (s : State) : State :=
  if 3 ≤ g ∨ (getGroup s g).retune.isSome = true then s
  else
    let hs := headsOf g
    let s := forEach hs (fun h s => endSignatures h (frameSent h (captureRow h s))) s
    let frame := (frameOf s g + 1) % 2 ^ 64
    let s := wr64 s (.HDG_FRAME_LO g) (.HDG_FRAME_HI g) frame
    let s := setGroup s g { getGroup s g with commitAt := now s, lineZero := now s }
    let s := forEach hs retireAtCommit s
    let trained := hs.map (fun h => (getHead s (View.lead s.dsp.active h)).trained)
    let s := forEach (hs.zip trained) (fun k s => progress frame k.2 k.1 s) s
    let d := decideCommits s g
    let s := forEach d.waiting deferCommit (forEach d.decided (finishCommit frame) s)
    let pipes := (List.range 96).filter (fun p => match View.pipeHead s.dsp.active p with | some h => hs.contains h | none => false)
    let s := forEach pipes (pipeAtCommit frame) s
    let s := fontsAtCommit g (forEach hs (fun h s => unlatch h (beginFrame h s)) s)
    let s := startCaptures g frame (forEach hs (artAtCommit frame) s)
    let s := wakeForScanout (syncDemand (syncCounts g s))
    let s := if hs.any (headOn s.dsp.active) || enableWaits s g then switchOn (7 + g) s else if seedling s then s else switchOff (7 + g) s
    if (getGroup s g).retune.isSome then s else syncOut g s

/-- A retuned PLL has locked: frame N runs from line 0, and training starts (R231). -/
def pllLock (g : Nat) (s : State) : State :=
  if 3 ≤ g ∨ (getGroup s g).retune = none then s
  else
    let s := setGroup s g { getGroup s g with retune := none, lineZero := now s }
    let s := wrF s CLK_STATUS.PIX_LOCK (setBit (rdF s CLK_STATUS.PIX_LOCK) g)
    let s := forEach (headsOf g) (fun h s => if headState s h = TRANSITION then startTraining h s else s) s
    syncOut g s

/-! ### Links (R216 to R221, R462) -/

/-- A head of Seedling mode begins to show the out-of-service card: its timing and output are active, and its link trains (R409,
R410). -/
def cardStart (h : Nat) (s : State) : State :=
  if headRetired s h then s
  else
    let v : View := s.dsp.active
    let v := ((v.put (.HD_CTRL h) 0x80080000).put (.HD_HTIM h) (BitVec.ofNat 32 (2200 * 65536 + 1920))).put (.HD_VTIM h) (BitVec.ofNat 32 (1125 * 65536 + 1080))
    let s := setActive s (v.put (.HD_OUT h) 0x01800010)
    startTransition h (frameOf s (groupOf h)) false s

/-- Hot-plug has been high for 100 ms (R220, R235). -/
def hpdIn (h : Nat) (s : State) : State :=
  if 12 ≤ h ∨ portIdle s h = true ∨ flag s (HD_STATUS.HPD h) = true then s
  else
    let s := wrB s (HD_STATUS.HPD h) true
    let s := if seedling s = true ∧ headState s h = OFF then cardStart h s
      else if headState s h = OFF ∨ (getGroup s (groupOf h)).retune.isSome = true then s else startTraining h s
    headEventOf s 9 h 0 0xFF

/-- Hot-plug has been low for 2 ms: an unplug (R221, R235). -/
def hpdOut (h : Nat) (s : State) : State :=
  if 12 ≤ h ∨ portIdle s h = true then s
  else
    let s := setSinkGuard h false (stopReading h (wrB s (HD_STATUS.HPD h) false))
    let s := setHead s h { getHead s h with training := false, trained := false }
    let s := forEach (portHeads s h) (fun i s =>
      if headState s i = OFF then s
      else setHead (clearLink i (wrF (setHeadState s i LINK_FAIL) (HD_STATUS.FAIL_REASON i) 1)) i { getHead s i with transAt := none }) s
    headEventOf s 8 h 0 0xFF

/-- An IRQ_HPD pulse; `lost`: the link status shows clock recovery, symbol lock or interlane alignment lost (R221). -/
def irqHpd (h : Nat) (lost : Bool) (s : State) : State :=
  if 12 ≤ h ∨ portIdle s h = true ∨ lost = false then s else linkLost h s

/-- Bits per pixel × 16 of a head's stream (R219). -/
def streamBpp16 (v : View) (h : Nat) : Nat :=
  if v.flag (HD_OUT.DSC_EN h) then v.fld (HD_OUT.DSC_BPP16 h) else 48 * (if v.flag (HD_OUT.BPC h) then 10 else 8)

/-- Lane rates in Mbit/s by code, lane counts by code (Table 8.8). -/
def laneRate (c : Nat) : Nat := if c = 0 then 1620 else if c = 1 then 2700 else if c = 2 then 5400 else 8100
def laneCount (c : Nat) : Nat := 2 ^ c

/-- A link configuration that the head may train: within HDn_LINK, and carrying the stream rate (R219). -/
def candidate (v : View) (h rate lanes : Nat) : Bool :=
  let clocks := if v.flag (HD_CTRL.PAIR h) then 2 else 1
  decide (rate ≤ v.fld (HD_LINK.MAX_RATE h) ∧ lanes ≤ v.fld (HD_LINK.MAX_LANES h)
    ∧ 4915200000 * v.fld (HDG_PLL.FRAC (groupOf h)) * clocks * streamBpp16 v h * 1000 ≤ laneCount lanes * laneRate rate * 1000000 * 776 * 16 * pdiv v h * 2 ^ 32)

/-- The candidate list of R219, for a sink with these maxima: by lane rate descending, then by lane count descending. -/
def candidates (v : View) (h maxRate maxLanes : Nat) : List (Nat × Nat) :=
  ([3, 2, 1, 0].flatMap (fun r => [2, 1, 0].map (fun l => (r, l)))).filter (fun c => candidate v h c.1 c.2 && decide (c.1 ≤ maxRate ∧ c.2 ≤ maxLanes))

/-- The pattern of channel equalisation at a lane rate; clock recovery is on TPS1 (R216). -/
def eqPattern (rate : Nat) (tps3 : Bool) : Nat := if rate = 3 then 4 else if tps3 then 3 else 2

/-- Steps 3 and 4 of Table 8.5 on one configuration: the levels driven in turn, and those at which the step succeeds. -/
structure LevelRun where
  driven : List (Nat × Nat)
  done : Option (Nat × Nat)
deriving DecidableEq, Repr

/-- A step from levels (swing, pre-emphasis): a try drives them, and the next takes what the sink requests.  `room` tries are left in all
and `same` at this swing, of `most`. -/
def levelTries (room same most : Nat) (at_ : Nat × Nat) (ts : List LevelTry) : LevelRun :=
  match room, same with
  | 0, _ => { driven := [], done := none }
  | _, 0 => { driven := [], done := none }
  | n + 1, m + 1 =>
    let t := ts.headD {}
    if t.done then { driven := [at_], done := some at_ }
    else
      let r := levelTries n (if t.swing = at_.1 then m else most) most (t.swing, t.pre) ts.tail
      { r with driven := at_ :: r.driven }

/-- Step 3: at most 5 tries at one swing, 10 in all; and step 4 from where it ended: at most 5 tries. -/
def clockRecovery (ts : List LevelTry) : LevelRun := levelTries 10 5 5 (0, 0) ts
def equalisation (at_ : Nat × Nat) (ts : List LevelTry) : LevelRun := levelTries 5 5 5 at_ ts

/-- A configuration as it is tried: the levels driven, and 0 success, 1 clock recovery or 2 equalisation failed. -/
def tryLink (t : LinkTry) : List (Nat × Nat) × Nat :=
  let c := clockRecovery t.clock
  match c.done with
  | none => (c.driven, 1)
  | some l => let e := equalisation l t.equal; (c.driven ++ e.driven, if e.done.isSome then 0 else 2)

/-- How a run of the policy goes: the configurations tried, each with the levels driven, the one that trains, and the reason where none
does. -/
structure TrainRun where
  tried : List ((Nat × Nat) × List (Nat × Nat))
  trained : Option (Nat × Nat)
  reason : Nat
deriving DecidableEq, Repr

/-- Steps 3 and 4 of Table 8.5 on each configuration in turn.  `reason`: that of the tries before. -/
def tryAll : List (Nat × Nat) → List LinkTry → Nat → TrainRun
  | [], _, r => { tried := [], trained := none, reason := r }
  | c :: cs, os, _ =>
    let o := tryLink (os.headD {})
    if o.2 = 0 then { tried := [(c, o.1)], trained := some c, reason := 0 }
    else let t := tryAll cs os.tail (if o.2 = 2 then 6 else 5); { t with tried := (c, o.1) :: t.tried }

/-- Table 8.5 from step 1, without the configurations tried already in this run. -/
def policy (v : View) (h : Nat) (k : SinkReport) (before : List (Nat × Nat)) (os : List LinkTry) (r : Nat) : TrainRun :=
  let dsc := v.flag (HD_OUT.DSC_EN h)
  let cs := candidates v h k.maxRate k.maxLanes
  if auxDone k.caps = false ∨ (dsc = true ∧ auxDone k.dscCaps = false) then { tried := [], trained := none, reason := 2 }
  else if dsc = true ∧ k.dsc = false then { tried := [], trained := none, reason := 4 }
  else if cs = [] then { tried := [], trained := none, reason := 3 }
  else tryAll (cs.filter (fun c => !(before.contains c))) os r

/-- A run with a sink: after a loss of the link, the configuration that trained last comes first (R220, R221). -/
def trainRun (v : View) (h : Nat) (x : Head) (k : SinkReport) : TrainRun :=
  match if x.lastFirst then x.lastCfg else none with
  | none => policy v h k [] k.tries 0
  | some c =>
    let a := tryAll [c] k.tries 0
    if a.trained.isSome then a
    else let t := policy v h k [c] k.tries.tail a.reason; { t with tried := a.tried ++ t.tried }

/-- A run of the training policy, which waits for the DisplayPort domain (R385), ends: trained on a candidate, with the sink's CRC support as R274 finds it, or failed with its
reason (Table 8.5). -/
def trainResult (h : Nat) (k : SinkReport) (s : State) : State :=
  let v : View := s.dsp.active
  let x := getHead s h
  if 12 ≤ h ∨ x.training = false ∨ domainGood s (7 + groupOf h) = false then s
  else
    let t := trainRun v h x k
    let s := forEach t.tried (fun c s =>
      forEach c.2 (fun l s => send s (.levels h l.1 l.2)) (send s (.train h c.1.1 c.1.2 (eqPattern c.1.1 k.tps3)))) s
    let x := { x with training := false, lastFirst := false }
    match t.trained with
    | some c =>
      let s := setHead s h { x with trained := true, lastCfg := some c }
      let s := forEach (portHeads s h) (fun i s =>
        wrF (wrF (wrF (wrB s (HD_STATUS.DSC_ACTIVE i) (v.flag (HD_OUT.DSC_EN h))) (HD_STATUS.LANES i) c.2) (HD_STATUS.RATE i) c.1) (HD_STATUS.FAIL_REASON i) 0) s
      sinkTest h k.crc s
    | none =>
      forEach (portHeads s h) (fun i s =>
        let s := wrF s (HD_STATUS.FAIL_REASON i) t.reason
        if headState s i = RUN ∨ headState s i = LINK_LOST then headEventOf (clearLink i (setHeadState s i LINK_FAIL)) 5 i 0 0xFF else s)
        (setHead s h { x with failAt := now s })

/-- The policy runs again every 1 s while hot-plug is high (Table 8.5 step 6). -/
def trainRetry (h : Nat) (s : State) : State :=
  let x := getHead s h
  let st := headState s h
  if 12 ≤ h ∨ portIdle s h = true ∨ flag s (HD_STATUS.HPD h) = false ∨ x.training = true ∨ x.trained = true
    ∨ (st ≠ LINK_FAIL ∧ st ≠ TRANSITION) ∨ now s < x.failAt + 1000000000 ∨ (getGroup s (groupOf h)).retune.isSome = true then s
  else startTraining h s

/-! ### The meanings -/

def execRegionF7Check (t h r : Nat) (s : State) : Host.Outcome State Fault Refusal := actIn 6 t (fun s => f7Check (uncert s) h r s) s
def execSyncInReference (t : Nat) (s : State) : Host.Outcome State Fault Refusal := actIn 6 t syncReference s
def execSyncInReferenceMissing (t : Nat) (s : State) : Host.Outcome State Fault Refusal := actIn 6 t syncReferenceMissing s
def execCommitPoint (t g : Nat) (s : State) : Host.Outcome State Fault Refusal := actIn 6 t (commitPoint g) s
def execHeadCommitGo (t h : Nat) (s : State) : Host.Outcome State Fault Refusal := act t (onBar0 (headGo h)) s
def execHeadCommitCancel (t h : Nat) (s : State) : Host.Outcome State Fault Refusal := act t (onBar0 (headCancel h)) s
def execCommitGroupGo (t k mask : Nat) (s : State) : Host.Outcome State Fault Refusal := act t (onBar0 (groupGo k mask)) s
def execCommitGroupCancel (t k : Nat) (s : State) : Host.Outcome State Fault Refusal := act t (onBar0 (groupCancel k)) s
def execPixelPllLock (t g : Nat) (s : State) : Host.Outcome State Fault Refusal := actIn 6 t (pllLock g) s
def execHpdDebounce (t h : Nat) (s : State) : Host.Outcome State Fault Refusal := actIn 6 t (hpdIn h) s
def execHpdUnplug (t h : Nat) (s : State) : Host.Outcome State Fault Refusal := actIn 6 t (hpdOut h) s
def execIrqHpd (t h : Nat) (lost : Bool) (s : State) : Host.Outcome State Fault Refusal := actIn 6 t (irqHpd h lost) s
def execLinkTrainResult (t h : Nat) (k : SinkReport) (s : State) : Host.Outcome State Fault Refusal := actIn 6 t (trainResult h k) s
def execLinkTrainRetry (t h : Nat) (s : State) : Host.Outcome State Fault Refusal := actIn 6 t (trainRetry h) s

end Sys2Proof.Machine
end

