-- ==== Sys2Proof/Machine/Kohlrabi.lean ====
section
/-! DEFINITION. Kohlrabi: haptic requests, DRIVE and BRAKE, faults and the power governor (R339 to R349). -/

namespace Sys2Proof.Machine

def getHap (s : State) (n : Nat) : HapChan := Sparse.get {} s.hap.chans n
def setHap (s : State) (n : Nat) (x : HapChan) : State := { s with hap := { s.hap with chans := Sparse.set {} s.hap.chans n x } }

/-- HAP_Kn_STATUS.STATE (Table 13.7). -/
def HK_IDLE : Nat := 0
def HK_DRIVE : Nat := 1
def HK_BRAKE : Nat := 2
def HK_OFF : Nat := 3
def HK_RETIRED : Nat := 4

def hapState (s : State) (n : Nat) : Nat := rdF s (HAP_K_STATUS.STATE n)
def setHapState (s : State) (n st : Nat) : State := wrF s (HAP_K_STATUS.STATE n) st

/-- The channel can act: enabled and not retired. -/
def hapOn (s : State) (n : Nat) : Bool := flag s (HAP_K_CFG.EN n) && decide (hapState s n ≠ HK_OFF ∧ hapState s n ≠ HK_RETIRED)

def setLatch (n : Nat) (r : Option HapReq) (s : State) : State := wrB (setHap s n { getHap s n with latch := r }) (HAP_K_STATUS.LATCHED n) r.isSome

/-! ### The effect library (R340, R341) -/

/-- Envelope classes. -/
inductive Env where
  | pulse | sustain | rampUp | rampDown | double | train | alarm
deriving DecidableEq, Repr

/-- Duration in ms, envelope class, carrier in Hz and LEVEL in sixteenths of an effect (Table 13.3). -/
def effectOf (e : Nat) : Nat × Env × Nat × Nat :=
  let j := e % 16
  match e / 16 with
  | 0 => (4 + j, .pulse, 250, 16)
  | 1 => (2, .pulse, 300, j + 1)
  | 2 => (20 + 20 * j, .sustain, 175, 16)
  | 3 => (50 + 50 * j, .rampUp, 175, 16)
  | 4 => (50 + 50 * j, .rampDown, 175, 16)
  | 5 => (36 + 10 * j, .double, 250, 16)
  | 6 => (40 * (j + 2) - 32, .train, 200, 16)
  | _ => (185 + 125 * j, .alarm, 150, 16)

/-- A trapezoid of `d` ms with ramps of `r` half-ms, at `t` ns, in units of 2^-30. -/
def trap (t d r : Nat) : Nat :=
  let d := d * 1000000
  let r := r * 500000
  if d ≤ t then 0 else if t < r then t * 2 ^ 30 / r else if d - r ≤ t then (d - t) * 2 ^ 30 / r else 2 ^ 30

/-- env(class, t, D) at `t` ns, in units of 2^-30 (R341). -/
def envelope (c : Env) (t d : Nat) : Nat :=
  match c with
  | .pulse => trap t d 1
  | .sustain => trap t d 4
  | .rampUp => t * 2 ^ 30 / (d * 1000000)
  | .rampDown => 2 ^ 30 - t * 2 ^ 30 / (d * 1000000)
  | .double => trap t 8 1 + (if (d - 8) * 1000000 ≤ t then trap (t - (d - 8) * 1000000) 8 1 else 0)
  | .train => trap (t % 40000000) 8 1
  | .alarm => trap (t % 125000000) 60 4

/-- sin(2π f t), in units of 2^-60, for `f` in Hz and `t` in ns. -/
def sine (f t : Nat) : Int :=
  let a := 7244019458077122842 * (f * t % 1000000000) / 1000000000
  let q := 1811004864519280710
  cosFix (if a < q then q - a else a - q)

/-- v(t) of an effect in mV before the governor (R340); rounded toward 0. -/
def driveMv (s : State) (n : Nat) (r : HapReq) (t : Nat) : Int :=
  let (d, c, f, lv) := effectOf r.effect
  let f := if rdF s (HAP_K_CFG.RES_HZ n) = 0 then f else rdF s (HAP_K_CFG.RES_HZ n)
  ((rdF s (HAP_K_CFG.VMAX n) * 100 * r.gain * lv * envelope c t d : Nat) * sine f t).tdiv (255 * 16 * 2 ^ 90 : Nat)

def effectMs (r : HapReq) : Nat := (effectOf r.effect).1

/-! ### Completions (R345, R348) -/

/-- A request that is refused or replaced (Table 13.4), or discarded with a status: pins count it. -/
def refuseReq (n st : Nat) (r : HapReq) (s : State) : State :=
  match r.pin with
  | some _ => incF s (HAP_K_DROP.COUNT n)
  | none => complete s r.fn r.q r.id st

/-- The descriptor of the driving effect completes, once (R345). -/
def tellDrive (n st : Nat) (s : State) : State :=
  let x := getHap s n
  match x.drive with
  | some (r, at0) =>
    if x.told then s
    else
      let s := setHap s n { x with told := true }
      if r.pin.isSome then s else completeAt s r.fn r.q r.id st (if st = ST_OK then at0 else now s)
  | none => s

/-! ### DRIVE and BRAKE (R340, R343, R344) -/

/-- DRIVE starts. -/
def startDrive (n : Nat) (r : HapReq) (s : State) : State :=
  let x := getHap s n
  let s := setHap s n { x with drive := some (r, now s), told := false, pushed := 0, ending := false, lowSince := none, brake := none, brakeAgo := 0, mv := 0 }
  let s := wrF (wrF (setHapState s n HK_DRIVE) (HAP_K_STATUS.PRIO n) r.prio) (HAP_K_STATUS.EFFECT n) r.effect
  wrB s (HAP_K_STATUS.SOURCE n) r.pin.isSome

/-- DRIVE ends and BRAKE starts; a descriptor that has not completed has begun its DRIVE (R340, R345). -/
def endDrive (n : Nat) (s : State) : State :=
  if (getHap s n).drive = none then s
  else
    let s := tellDrive n ST_OK s
    setHapState (setHap s n { getHap s n with drive := none, ending := false, lowSince := none, brake := some (now s), brakeAgo := 0 }) n HK_BRAKE

/-- STATE of a channel that neither drives nor brakes. -/
def restState (s : State) (n : Nat) : Nat := if hapState s n = HK_RETIRED then HK_RETIRED else if flag s (HAP_K_CFG.EN n) then HK_IDLE else HK_OFF

/-- BRAKE ends, and a latched request starts DRIVE (R343, R344). -/
def finishBrake (n : Nat) (s : State) : State :=
  let x := getHap s n
  let s := setHapState (setHap s n { x with brake := none, brakeAgo := 0 }) n (restState s n)
  match x.latch with
  | some r => startDrive n r (setLatch n none s)
  | none => s

/-- BRAKE ends at a back-EMF below STOP_MV sensed at a later tick than it began, or 4 ms after it began (R344). -/
def brakeEnd (n : Nat) (bemf : Int) (s : State) : State :=
  let x := getHap s n
  match x.brake with
  | some b =>
    if now s % 10000 = 0 ∧ (((b < now s ∨ 0 < x.brakeAgo) ∧ bemf.natAbs < rdF s (HAP_K_DET.STOP_MV n)) ∨ b + 4000000 ≤ now s + x.brakeAgo) then finishBrake n s
    else s
  | none => s

/-- DRIVE ends at t = D (R340). -/
def driveEnd (n : Nat) (s : State) : State :=
  match (getHap s n).drive with
  | some (r, at0) => if at0 + effectMs r * 1000000 ≤ now s then endDrive n s else s
  | none => s

/-- A request is latched; one already latched is replaced (Table 13.4). -/
def latchReq (n : Nat) (r : HapReq) (s : State) : State :=
  let s := match (getHap s n).latch with
    | some o => refuseReq n ST_NO_SPACE o s
    | none => s
  setLatch n (some r) s

/-- The latch is cleared, its request ending with a status. -/
def clearLatch (n st : Nat) (s : State) : State :=
  match (getHap s n).latch with
  | some o => setLatch n none (refuseReq n st o s)
  | none => s

/-- A request is acted on (R342, R343, Table 13.4); GAIN 0 is a stop. -/
def actOn (n : Nat) (r : HapReq) (s : State) : State :=
  let x := getHap s n
  let done := fun (s : State) => if r.pin.isSome then s else complete s r.fn r.q r.id ST_OK
  if hapOn s n = false then refuseReq n (if hapState s n = HK_RETIRED then ST_RETIRED else ST_NO_SPACE) r s
  else match x.drive with
    | some (d, _) =>
      if d.prio < r.prio then refuseReq n ST_NO_SPACE r s
      else if r.gain = 0 then done (clearLatch n ST_NO_SPACE (endDrive n s))
      else latchReq n r (endDrive n s)
    | none =>
      if x.brake.isSome then (if r.gain = 0 then done (clearLatch n ST_NO_SPACE s) else latchReq n r s)
      else if r.gain = 0 then done s
      else startDrive n r s

/-! ### Requests (R342, R346) -/

def checkHaptic (s : State) (k : Taken) : Nat :=
  checkDesc s k [unitOwn s k.fn K_HAPTIC (u8 k.d 24)] (decide (u8 k.d 24 ≤ 15 ∧ u8 k.d 25 ≤ 127 ∧ u8 k.d 27 ≤ 3))
    [(decide (u8 k.d 24 ≤ 15) && isRetired s U_HAPTIC (u8 k.d 24), ST_RETIRED), (safe s, ST_SAFE_STATE)]

def runHaptic (k : Taken) (s : State) : State :=
  let n := u8 k.d 24
  let r : HapReq := { pin := none, fn := k.fn, q := k.q, id := k.id, effect := u8 k.d 25, gain := u8 k.d 26, prio := max (u8 k.d 27) (rdF s (HAP_K_CFG.MAXP n)), stamp := k.stamp }
  setHap s n { getHap s n with waiting := (getHap s n).waiting ++ [r] }

/-- Deglitch time in ns (Table 13.7). -/
def deglitch (c : Nat) : Nat := if c = 0 then 1000 else if c = 1 then 5000 else if c = 2 then 10000 else 20000

/-- A deglitched edge of HTRIGm, ignored but in RUN (R346, R435, Table 17.13). -/
def htrigEdge (m : Nat) (rising : Bool) (s : State) : State :=
  let e := rdF s (HAP_TRIG.EDGE m)
  let kind := decide (e = 2 ∨ (e = 0 ∧ rising = true) ∨ (e = 1 ∧ rising = false))
  let free : Bool := match Sparse.get none s.hap.edgeAt m with
    | some l => decide (l + 2 * deglitch (rdF s (HAP_TRIG.DEGL m)) ≤ now s)
    | none => true
  if 16 ≤ m ∨ flag s (HAP_TRIG.EN m) = false ∨ rdF s BOOT_STATUS.STAGE ≠ 6 ∨ safe s = true ∨ kind = false ∨ free = false then s
  else
    let s := { s with hap := { s.hap with edgeAt := Sparse.set none s.hap.edgeAt m (some (now s)) } }
    let n := rdF s (HAP_TRIG.CHANNEL m)
    let r : HapReq := { pin := some m, fn := 0, q := 0, id := 0, effect := rdF s (HAP_TRIG.EFFECT m), gain := rdF s (HAP_TRIG.GAIN m), prio := rdF s (HAP_TRIG.PRIO m), stamp := now s }
    setHap s n { getHap s n with waiting := (getHap s n).waiting ++ [r] }

/-- Requests to act on at this tick: pins in ascending index, then descriptors in arbiter order (R339, R343). -/
def dueRequests (s : State) (x : HapChan) : List HapReq :=
  let due := x.waiting.filter (fun r => decide (r.stamp < now s))
  (List.range 16).flatMap (fun m => due.filter (fun r => decide (r.pin = some m))) ++ due.filter (fun r => decide (r.pin = none))

/-! ### Endings and faults (R347, R348) -/

/-- The holder of a channel is reset (`st` none) or its lease ends: its drive ends at the next tick, what it has waiting goes. -/
def stopHaptic (n : Nat) (st : Option Nat) (s : State) : State :=
  let x := getHap s n
  let own := fun (r : HapReq) => decide (r.pin = none)
  let gone := x.waiting.filter own ++ (match x.latch with | some r => if own r then [r] else [] | none => [])
  let mine : Bool := match x.drive with | some (r, _) => own r | none => false
  let latch := match x.latch with | some r => if own r then none else some r | none => none
  let s := setHap s n { x with waiting := x.waiting.filter (fun r => !own r), ending := x.ending || mine, told := x.told || (mine && st.isNone) }
  let s := setLatch n latch s
  match st with
  | some st => forEach gone (fun r s => complete s r.fn r.q r.id st) s
  | none => s

/-- In safe state: DRIVE ends at the tick, and the latch and what waits go with ST_SAFE_STATE (R348). -/
def safeHaptic (n : Nat) (s : State) : State :=
  let s := clearLatch n ST_SAFE_STATE s
  let w := (getHap s n).waiting
  let s := forEach w (refuseReq n ST_SAFE_STATE) (setHap s n { getHap s n with waiting := [] })
  endDrive n s

/-- Fault 0x14, with the instance of the effect. -/
def hapFault (n detail : Nat) (s : State) : State :=
  let inst := match (getHap s n).drive with | some (r, _) => r.fn | none => 0
  reportFault { id := 0x14, kind := U_HAPTIC, unit := n, inst := inst, detail := detail } s

/-- Both bridge halves go low at once: no DRIVE, no BRAKE (R347). -/
def bridgeLow (n : Nat) (s : State) : State := send (setHap s n { getHap s n with drive := none, brake := none, ending := false, lowSince := none }) (.bridge n 0)

/-- Over-current (R347 DETAIL 0); a latched request is acted on at the next tick. -/
def overcurrent (n : Nat) (s : State) : State :=
  if 16 ≤ n then s
  else if hapOn s n = false then reportIdle { id := 0x14, kind := U_HAPTIC, unit := n } s
  else
    let s := tellDrive n ST_FAULT_TRANSIENT (hapFault n 0 s)
    let x := getHap s n
    let s := setHapState (bridgeLow n s) n HK_IDLE
    match x.latch with
    | some r => setLatch n none (setHap s n { getHap s n with waiting := r :: x.waiting })
    | none => s

/-- A channel is retired: both halves low (R290, R348). -/
def retireHaptic (n : Nat) (s : State) : State :=
  let s := tellDrive n ST_RETIRED (clearLatch n ST_RETIRED s)
  setHapState (bridgeLow n s) n HK_RETIRED

/-- The coil's resistance `res`, in mΩ, once 200 µs of DRIVE with |v| at 0.5 V or more are behind (R347 DETAIL 1 and 2). -/
def checkCoil (n : Nat) (res : Option Nat) (s : State) : State :=
  let x := getHap s n
  match x.drive, res with
  | some _, some m =>
    if x.told = true ∨ x.pushed < 20 then s
    else
      let r := rdF s (HAP_K_COIL.R_NOM n) * 100
      if 2 * r < m then endDrive n (tellDrive n ST_FAULT_TRANSIENT (hapFault n 1 s))
      else if 2 * m < r then endDrive n (tellDrive n ST_FAULT_TRANSIENT (hapFault n 2 s))
      else tellDrive n ST_OK s
  | _, _ => s

/-- The back-EMF in DRIVE, v − i·R_NOM − L_UH·di/dt, in units of 0.1 mV, for the coil's current at this tick and at the tick before
(R347). -/
def driveEmf (s : State) (n : Nat) (amp : Int) : Int :=
  let x := getHap s n
  10 * x.mv - amp * rdF s (HAP_K_COIL.R_NOM n) - rdF s (HAP_K_COIL.L_UH n) * (amp - x.amp)

/-- Stall, at a back-EMF in units of 0.1 mV (R347 DETAIL 3). -/
def checkStall (n : Nat) (bemf : Int) (s : State) : State :=
  let x := getHap s n
  match x.drive with
  | some (r, at0) =>
    if effectMs r < 20 ∨ now s < at0 + 10000000 then s
    else if rdF s (HAP_K_DET.STALL n) * 100 ≤ bemf.natAbs then setHap s n { x with lowSince := none }
    else
      let l := x.lowSince.getD (now s)
      let s := setHap s n { x with lowSince := some l }
      if l + 10000000 ≤ now s then endDrive n (hapFault n 3 s) else s
  | none => s

/-! ### The governor (R349) -/

/-- need_uj of a priority: the spec rounds it to whole µJ in no stated way, so where the exact sum is not whole the one unit above it is
open. -/
def needUj (s : State) (p : Nat) : Nat :=
  -- v² / R_NOM × 10 µs, in units of 2^-40 µJ: mV² / (R_NOM × 0.1 Ω) is 10^-5 W
  let parts := (List.range 16).map (fun n => match (getHap s n).drive with
    | some (r, at0) => if r.prio = p then (driveMv s n r (now s - at0)).natAbs ^ 2 * 2 ^ 40 / (rdF s (HAP_K_COIL.R_NOM n) * 10000) else 0
    | none => 0)
  parts.sum / 2 ^ 40 + (if parts.sum % 2 ^ 40 = 0 then 0 else fresh { s with free := s.free + p } % 2)

/-- The priorities in order: what each is granted of what is left, as (need, granted). -/
def grantEnergy : Nat → List Nat → List (Nat × Nat)
  | _, [] => []
  | left, n :: ns => if n ≤ left then (n, n) :: grantEnergy (left - n) ns else (n, left) :: grantEnergy 0 ns

/-- The bridge of a driving channel: v(t) times the scale of its priority. -/
def driveBridge (gs : List (Nat × Nat)) (n : Nat) (s : State) : State :=
  match (getHap s n).drive with
  | some (r, at0) =>
    let v := driveMv s n r (now s - at0)
    let (need, got) := gs.getD r.prio (0, 0)
    let w : Int := if need ≤ got then v else v * (Nat.sqrt (got * 2 ^ 40 / need) : Nat) / (2 ^ 20 : Nat)
    let x := getHap s n
    send (setHap s n { x with pushed := if 500 ≤ w.natAbs then min 20 (x.pushed + 1) else x.pushed, mv := w }) (.bridge n w)
  | none => s

/-- The bridge of a braking channel: against the back-EMF, with no more than VMAX; how much is open (R344). -/
def brakeBridge (n : Nat) (bemf : Int) (s : State) : State :=
  if (getHap s n).brake.isSome then
    let v : Int := (fresh s % (rdF s (HAP_K_CFG.VMAX n) * 100 + 1) : Nat)
    send (spend s) (.bridge n (if 0 ≤ bemf then -v else v))
  else s

/-- A tick of the governor and the drive that it grants. -/
def govern (brakeUj measuredUj : Nat) (s : State) : State :=
  let bucket := rdF s HAP_GOV.BUCKET_UJ
  let allow := if 0 < bucket then 240 else 40
  let gs := grantEnergy (allow - brakeUj) ((List.range 4).map (needUj s))
  let s := { s with free := s.free + 4 }
  let s := if gs.any (fun g => decide (g.2 < g.1)) then incF s HAP_GOV_LIMITED.COUNT else s
  let s := wrF s HAP_GOV.BUCKET_UJ (min (bucket + 40 - measuredUj) 400000)
  forEach (List.range 16) (driveBridge gs) s

/-! ### The tick (R339) -/

/-- A channel at a tick. -/
def hapTick (n : Nat) (k : CoilSense) (s : State) : State :=
  let s := if safe s then safeHaptic n s else s
  let s := if (getHap s n).ending then endDrive n s else driveEnd n s
  let s := brakeEnd n k.bemf s
  let rs := dueRequests s (getHap s n)
  let s := setHap s n { getHap s n with waiting := (getHap s n).waiting.filter (fun r => !(rs.contains r)) }
  let s := forEach rs (actOn n) s
  let s := brakeBridge n k.bemf (checkStall n (driveEmf s n k.amp) (checkCoil n k.res s))
  let x := getHap s n
  if x.amp = k.amp then s else setHap s n { x with amp := k.amp }

/-- A channel at a tick while the blocks outside PD0 are held: a DRIVE that the reset met ends, and BRAKE runs from the reservoir to its
end (R344, Table 15.5 step 1). -/
def heldTick (n : Nat) (k : CoilSense) (s : State) : State :=
  let x := getHap s n
  let ago := x.brakeAgo + 10000
  if x.drive.isSome then brakeBridge n k.bemf (setHap s n { x with drive := none, ending := false, lowSince := none, brake := some 0, brakeAgo := 0 })
  else if x.brake = none then s
  else if k.bemf.natAbs < rdF s (HAP_K_DET.STOP_MV n) ∨ 4000000 ≤ ago then send (setHap s n { x with brake := none, brakeAgo := 0 }) (.bridge n 0)
  else brakeBridge n k.bemf (setHap s n { x with brakeAgo := ago })

/-- What a channel carries through a module reset that meets it in DRIVE or BRAKE; `t` is the DTIME of the reset. -/
def heldChan (t : Nat) (x : HapChan) : HapChan :=
  { drive := x.drive, told := true, ending := x.drive.isSome, brake := x.brake.map (fun _ => 0),
    brakeAgo := match x.brake with | some b => x.brakeAgo + (t - b) | none => 0, mv := x.mv, amp := x.amp }

/-- Kohlrabi through a module reset: DRIVEs that are to end, and BRAKEs (R344). -/
def heldHaptics (s : State) : Kohlrabi :=
  { chans := (s.hap.chans.filter (fun c => c.2.drive.isSome || c.2.brake.isSome)).map (fun c => (c.1, heldChan (now s) c.2)) }

/-- A tick of the channels (R339), and while PD13 is on of the governor (R448). -/
def hapticTick (sense : List CoilSense) (brakeUj measuredUj : Nat) (s : State) : State :=
  let each := fun (f : Nat → CoilSense → State → State) (s : State) => forEach (List.range 16) (fun n s => f n (sense.getD n {}) s) s
  if now s % 10000 ≠ 0 then s
  else if running s = false then each heldTick s
  else
    let s := each hapTick s
    if domainGood s 13 then govern brakeUj measuredUj s else s

/-- A write of HAP_Kn_CFG: a disabled channel holds both halves low, and PD13 is on while any channel is enabled (R348, R385). -/
def writeHapCfg (n v : Nat) (s : State) : State :=
  let was := flag s (HAP_K_CFG.EN n)
  let s := writeFields s (.HAP_K_CFG n) v
  let on := flag s (HAP_K_CFG.EN n)
  let s := if on = was ∨ hapState s n = HK_RETIRED then s
    else if on then setHapState s n HK_IDLE
    else setHapState (bridgeLow n (tellDrive n ST_OK (clearLatch n ST_NO_SPACE s))) n HK_OFF
  if (List.range 16).any (fun k => flag s (HAP_K_CFG.EN k)) then switchOn 13 s else if on ≠ was then switchOff 13 s else s

def execHapticTick (t : Nat) (sense : List CoilSense) (brakeUj measuredUj : Nat) (s : State) : Host.Outcome State Fault Refusal :=
  actPd0 t (hapticTick sense brakeUj measuredUj) s
def execHapticPlay (t : Nat) (s : State) : Host.Outcome State Fault Refusal := act t (dispatch OP_HAPTIC_PLAY checkHaptic runHaptic) s
def execHtrigEdge (t m : Nat) (rising : Bool) (s : State) : Host.Outcome State Fault Refusal := act t (htrigEdge m rising) s
def execDriveEnd (t n : Nat) (s : State) : Host.Outcome State Fault Refusal := act t (driveEnd n) s
def execBrakeEnd (t n : Nat) (bemf : Int) (s : State) : Host.Outcome State Fault Refusal := act t (brakeEnd n bemf) s
def execHapticOvercurrent (t n : Nat) (s : State) : Host.Outcome State Fault Refusal := act t (overcurrent n) s

end Sys2Proof.Machine
end

