-- ==== Sys2Proof/Machine/Shader.lean ====
section
/-! DEFINITION. Shader work and its accesses to memory: resource table entries, attributes, and the bounds of buffers and images
(R116, R150, R151, R157, R158, Tables 6.3 and 6.6). -/

namespace Sys2Proof.Machine

/-- Bytes per sample of a colour format and of a depth/stencil format (Table 5.7). -/
def colourBytes (f : Nat) : Nat :=
  if f = 1 then 1 else if f = 2 ∨ f = 7 then 2 else if f = 9 ∨ f = 0x0B then 8 else if f = 0x0C then 16 else 4
def dsBytes (f : Nat) : Nat := if f = 1 then 2 else if f = 2 then 4 else if f = 3 then 5 else if f = 4 then 1 else 0

/-- The reset value of a context state word. -/
def stateWordReset (i : Nat) : Word :=
  if i = 5 then 0x3F800000 else if i = 8 then 0x18 else if i = 0xA ∨ i = 0xB then 7
  else if 0x10 ≤ i ∧ i ≤ 0x17 then 0xF else 0

/-! ### The resource table (R157, Table 6.6) -/

/-- A resource table entry. -/
def readEntry (s : State) (table b : Nat) : Rec32 := BitVec.ofNat 256 (readNum s (table + 32 + 32 * b) 32)

def eType (e : Rec32) : Nat := u8 e 0
def eFormat (e : Rec32) : Nat := u8 e 1
def eSize (e : Rec32) : Nat := u32 e 4
def eWidth (e : Rec32) : Nat := u32 e 4 % 65536
def eHeight (e : Rec32) : Nat := u32 e 4 / 65536
def eAddr (e : Rec32) : Nat := u64 e 8
def ePitch (e : Rec32) : Nat := u32 e 16
def isImage (e : Rec32) : Bool := decide (eType e = 3 ∨ eType e = 4)
def isBuffer (e : Rec32) : Bool := decide (eType e = 1 ∨ eType e = 2)

/-- The bytes that a buffer or an image spans. -/
def entryLen (e : Rec32) : Nat :=
  if isBuffer e then eSize e else if isImage e then (eHeight e - 1) * ePitch e + eWidth e * colourBytes (eFormat e) else 0

/-- The entry holds a reserved or out-of-range value (Table 6.6). -/
def entryReserved (e : Rec32) : Bool :=
  decide (u8 e 3 ≠ 0 ∨ bytesAt e 20 12 ≠ 0 ∨ 5 < eType e) ||
  (isImage e && decide (eFormat e = 0 ∨ 0x0D < eFormat e ∨ eWidth e = 0 ∨ 16384 < eWidth e ∨ eHeight e = 0 ∨ 16384 < eHeight e
    ∨ eAddr e % 256 ≠ 0 ∨ ePitch e % 256 ≠ 0 ∨ u8 e 2 ≠ 0)) ||
  (isBuffer e && decide (eFormat e ≠ 0 ∨ eSize e = 0 ∨ 2 ^ 31 < eSize e ∨ eAddr e % 16 ≠ 0 ∨ ePitch e ≠ 0 ∨ u8 e 2 ≠ 0)) ||
  (decide (eType e = 5) && decide (eAddr e ≠ 0 ∨ 63 < u8 e 2 ∨ eFormat e ≠ 0 ∨ ePitch e ≠ 0)) || hostSpace (eAddr e)

/-- The TYPE of an entry matches its variable; 0 stands for the buffer of an attribute, of either type (Table 6.3). -/
def typeMatches (e : Rec32) (ty : Nat) : Bool := if ty = 0 then isBuffer e else decide (eType e = ty)

/-- A resource table entry as the engine checks it for a variable of type `ty` (R157). -/
def entryStatus (s : State) (inst table count b ty : Nat) : Nat :=
  if count ≤ b then ST_BAD_DESC
  else if inSlice s inst (table + 32 + 32 * b) 32 = false then ST_NOT_OWNER
  else
    let e := readEntry s table b
    pickStatus [((isImage e || isBuffer e) && !(hostSpace (eAddr e)) && !(inSlice s inst (eAddr e) (entryLen e)), ST_NOT_OWNER),
      (entryReserved e || !(typeMatches e ty), ST_BAD_DESC)]

/-! ### Accesses (R158) -/

/-- A byte of a buffer; outside its SIZE it reads 0. -/
def bufferByte (s : State) (e : Rec32) (ofs : Nat) : Byte :=
  if isBuffer e = true ∧ ofs < eSize e then s.mem.byte (eAddr e + ofs) else 0

/-- `n` bytes of a buffer. -/
def loadBuffer (s : State) (e : Rec32) (ofs n : Nat) : List Byte := (List.range n).map (fun i => bufferByte s e (ofs + i))

/-- Bytes written to a buffer; outside its SIZE they are discarded. -/
def storeBuffer (e : Rec32) (ofs : Nat) (bs : List Byte) (s : State) : State :=
  if isBuffer e = true ∧ ofs < eSize e then writeMem s (eAddr e + ofs) (bs.take (eSize e - ofs)) else s

/-- The bytes of a buffer that a load reads. -/
def touchBuffer (e : Rec32) (ofs n : Nat) (s : State) : State :=
  if isBuffer e = true ∧ ofs < eSize e ∧ 0 < n then touch s (eAddr e + ofs) (min n (eSize e - ofs)) else s

/-- Where a texel lies, inside the width and height. -/
def texelAddr (e : Rec32) (x y : Nat) : Option Nat :=
  if isImage e = true ∧ x < eWidth e ∧ y < eHeight e then some (eAddr e + y * ePitch e + x * colourBytes (eFormat e)) else none

def loadTexel (s : State) (e : Rec32) (x y : Nat) : List Byte :=
  match texelAddr e x y with
  | some a => readMem s a (colourBytes (eFormat e))
  | none => List.replicate (colourBytes (eFormat e)) 0

def touchTexel (e : Rec32) (x y : Nat) (s : State) : State :=
  match texelAddr e x y with
  | some a => touch s a (colourBytes (eFormat e))
  | none => s

def storeTexel (e : Rec32) (x y : Nat) (bs : List Byte) (s : State) : State :=
  match texelAddr e x y with
  | some a => writeMem s a (bs.take (colourBytes (eFormat e)))
  | none => s

/-! ### Sampling (Table 6.6) -/

/-- A texel coordinate by an address mode of a sampler, in an image `n` texels wide; none for transparent black. -/
def wrapCoord (mode n : Nat) (i : Int) : Option Nat :=
  if mode = 0 then some (i % n).toNat
  else if mode = 1 then (let m := (i % (2 * n : Nat)).toNat; some (if m < n then m else 2 * n - 1 - m))
  else if mode = 2 then some (if i < 0 then 0 else min i.toNat (n - 1))
  else if 0 ≤ i ∧ i < n then some i.toNat else none

/-- A texel that a sampler selects; transparent black has every component 0. -/
def samplerTexel (s : State) (e p : Rec32) (i j : Int) : List Byte :=
  match wrapCoord (bitsOf (u8 p 2) 3 2) (eWidth e) i, wrapCoord (bitsOf (u8 p 2) 5 4) (eHeight e) j with
  | some x, some y => loadTexel s e x y
  | _, _ => List.replicate (colourBytes (eFormat e)) 0

/-- The texels that a sample at (u, v), in texels × 256, names through sampler `p`: the nearest, or the four around it (Table 6.6). -/
def sampleCoords (p : Rec32) (u v : Int) (minify : Bool) : List (Int × Int) :=
  if bit (u8 p 2) (if minify then 1 else 0) then
    let i := (u - 128) / 256
    let j := (v - 128) / 256
    [(i, j), (i + 1, j), (i, j + 1), (i + 1, j + 1)]
  else [(u / 256, v / 256)]

/-- The texels of a sample, which the shader weighs. -/
def sampleTexels (s : State) (e p : Rec32) (u v : Int) (minify : Bool) : List Byte :=
  (sampleCoords p u v minify).flatMap (fun c => samplerTexel s e p c.1 c.2)

def touchSample (e p : Rec32) (u v : Int) (minify : Bool) (s : State) : State :=
  forEach (sampleCoords p u v minify) (fun c s =>
    match wrapCoord (bitsOf (u8 p 2) 3 2) (eWidth e) c.1, wrapCoord (bitsOf (u8 p 2) 5 4) (eHeight e) c.2 with
    | some x, some y => touchTexel e x y s
    | _, _ => s) s

/-- The entry that a draw or dispatch uses for a binding. -/
def DrawState.entry (d : DrawState) (b : Nat) : Rec32 :=
  match d.entries.find? (fun e => decide (e.1 = b)) with
  | some e => e.2
  | none => 0

/-- The attribute record at a location, and where in its buffer the attribute lies. -/
def DrawState.attr (d : DrawState) (loc : Nat) : BitVec 64 := BitVec.ofNat 64 (d.attrs.getD loc 0)
def attrOfs (a : BitVec 64) (vertex inst : Nat) : Nat := u16 a 2 + (if u8 a 6 = 1 then inst else vertex) * u16 a 4

/-- The attribute at a location: of its vertex, or of its instance where RATE is 1 (Table 6.3). -/
def vertexAttr (s : State) (d : DrawState) (loc vertex inst : Nat) : List Byte :=
  let a := d.attr loc
  if d.attrs.length ≤ loc then [] else loadBuffer s (d.entry (u8 a 0)) (attrOfs a vertex inst) (colourBytes (u8 a 1))

def touchAttr (d : DrawState) (loc vertex inst : Nat) (s : State) : State :=
  let a := d.attr loc
  if d.attrs.length ≤ loc then s else touchBuffer (d.entry (u8 a 0)) (attrOfs a vertex inst) (colourBytes (u8 a 1)) s

/-! ### A unit of work (R150) -/

/-- The subgroup size in every stage (R149). -/
def SUBGROUP_SIZE : Nat := 32

/-- The job of a unit of work: its stage and arguments, with the state that the draw or dispatch found. -/
def shaderJob (d : DrawState) (stage : Nat) (args : List Nat) (record : List Byte) : ShaderJob :=
  { code := d.code, stage := stage, args := SUBGROUP_SIZE :: args, words := (List.range 28).map (fun i => (Sparse.get (stateWordReset i) d.words i).toNat),
    entries := d.entries, record := record }

/-- The requests of a unit of work are carried out in order, until it is done. -/
def runRequests (fuel : Nat) (d : DrawState) (j : ShaderJob) (answers : List (List Byte)) (s : State) : List Prim × List Frag × State :=
  match fuel with
  | 0 => ([], [], s)
  | n + 1 =>
    match Config.shader j answers with
    | .load b ofs len => runRequests n d j (answers ++ [loadBuffer s (d.entry b) ofs len]) (touchBuffer (d.entry b) ofs len s)
    | .store b ofs bs => runRequests n d j (answers ++ [[]]) (if eType (d.entry b) = 2 then storeBuffer (d.entry b) ofs bs s else s)
    | .atomic b ofs len new =>
      if eType (d.entry b) = 2 ∧ ofs + len ≤ eSize (d.entry b) then
        let old := loadBuffer s (d.entry b) ofs len
        runRequests n d j (answers ++ [old]) (storeBuffer (d.entry b) ofs ((new old).take len) (touchBuffer (d.entry b) ofs len s))
      else runRequests n d j (answers ++ [List.replicate len 0]) s
    | .texel b x y => runRequests n d j (answers ++ [loadTexel s (d.entry b) x y]) (touchTexel (d.entry b) x y s)
    | .putTexel b x y bs => runRequests n d j (answers ++ [[]]) (if eType (d.entry b) = 4 then storeTexel (d.entry b) x y bs s else s)
    | .atomicTexel b x y new =>
      let old := loadTexel s (d.entry b) x y
      let s := touchTexel (d.entry b) x y s
      runRequests n d j (answers ++ [old]) (if eType (d.entry b) = 4 then storeTexel (d.entry b) x y (new old) s else s)
    | .attr loc v i => runRequests n d j (answers ++ [vertexAttr s d loc v i]) (touchAttr d loc v i s)
    | .sample b p u v minify => runRequests n d j (answers ++ [sampleTexels s (d.entry b) (d.entry p) u v minify])
        (touchSample (d.entry b) (d.entry p) u v minify s)
    | .fp op a b c => runRequests n d j (answers ++ [toBytes 4 (fpResult op a b c)]) s
    | .done ps fs => (ps, fs, s)

/-- A unit of work runs to its end. -/
def runJob (d : DrawState) (stage : Nat) (args : List Nat) (record : List Byte) (s : State) : List Prim × List Frag × State :=
  let j := shaderJob d stage args record
  runRequests (Config.shaderSteps j) d j [] s

end Sys2Proof.Machine
end

