-- ==== Sys2Proof/Machine/Tile.lean ====
section
/-! DEFINITION. Tiles: their grid, their starting content, the tests and the blending of fragments, and what their end stores (R120 to
R127, R136 to R138, Tables 5.4 and 5.7). -/

namespace Sys2Proof.Machine

/-! ### Samples of the attachment formats (R121, Table 5.7) -/

/-- The components of a format from its lowest bits: which of R, G, B and A, and its width. -/
def layout (f : Nat) : List (Nat × Nat) :=
  if f = 1 then [(0, 8)] else if f = 2 then [(0, 8), (1, 8)]
  else if f = 3 ∨ f = 4 then [(0, 8), (1, 8), (2, 8), (3, 8)]
  else if f = 5 then [(2, 8), (1, 8), (0, 8), (3, 8)]
  else if f = 6 then [(0, 10), (1, 10), (2, 10), (3, 2)]
  else if f = 7 then [(0, 16)] else if f = 8 then [(0, 16), (1, 16)] else if f = 9 then [(0, 16), (1, 16), (2, 16), (3, 16)]
  else if f = 0x0A ∨ f = 0x0D then [(0, 32)] else if f = 0x0B then [(0, 32), (1, 32)]
  else [(0, 32), (1, 32), (2, 32), (3, 32)]

def isUnorm (f : Nat) : Bool := decide (f ≤ 6)
def isUint (f : Nat) : Bool := decide (f = 0x0D)
/-- A component that is coded by the SRGB curve: colour, not alpha. -/
def isSrgb (f comp : Nat) : Bool := decide (f = 4 ∧ comp < 3)

/-- A component of a sample as FP32, or as the integer it is. -/
def decodeComp (f comp w v : Nat) : Nat :=
  if isSrgb f comp then Config.srgbDecode v
  else if isUnorm f then ratio32 v (2 ^ w - 1)
  else if isUint f then v
  else if w = 16 then ofHalf v else v

/-- A value between 0 and 1 as a code of `w` bits, rounded to nearest even. -/
def toUnorm (w v : Nat) : Nat :=
  if isNan v then Config.unormNan w % 2 ^ w
  else if fNeg v then 0
  else if 0x3F800000 ≤ v then 2 ^ w - 1
  else ((ofF32 v).mul ⟨false, 2 ^ w - 1, 0⟩).toIntRne.toNat

/-- A component converted to its format (R121). -/
def encodeComp (f comp w v : Nat) : Nat :=
  if isSrgb f comp then Config.srgbEncode v % 256
  else if isUnorm f then toUnorm w v
  else if isUint f then v % 2 ^ 32
  else if w = 16 then half32 v else v % 2 ^ 32

/-- The codes of a sample's components, in the order of its layout. -/
def splitSample (lay : List (Nat × Nat)) (v : Nat) : List Nat :=
  match lay with
  | [] => []
  | (_, w) :: rest => v % 2 ^ w :: splitSample rest (v / 2 ^ w)

def packSample (lay : List (Nat × Nat)) (cs : List Nat) : Nat :=
  match lay, cs with
  | (_, w) :: rest, c :: cs => c % 2 ^ w + 2 ^ w * packSample rest cs
  | _, _ => 0

/-- R, G, B and A of a sample; a format without a component reads 0 for colour and 1 for alpha. -/
def decodeSample (f v : Nat) : List Nat :=
  let cs := (layout f).zip (splitSample (layout f) v)
  (List.range 4).map (fun k => match cs.find? (fun c => decide (c.1.1 = k)) with
    | some c => decodeComp f k c.1.2 c.2
    | none => if k = 3 then 0x3F800000 else 0)

/-! ### Blending (R120, R121, Table 5.4) -/

/-- A value kept between 0 and 1. -/
def clamp01 (v : Nat) : Nat := if fNeg v then 0 else if lt32 0x3F800000 v then 0x3F800000 else v

def oneMinus (v : Nat) : Nat := sub32 0x3F800000 v

/-- A blend factor for component `k` of source `s`, destination `d` and constant `c`. -/
def blendFactor (code k : Nat) (s d c : List Nat) : Nat :=
  let g := fun (l : List Nat) => l.getD k 0
  let a := fun (l : List Nat) => l.getD 3 0
  if code = 0 then 0 else if code = 1 then 0x3F800000
  else if code = 2 then g s else if code = 3 then oneMinus (g s)
  else if code = 4 then g d else if code = 5 then oneMinus (g d)
  else if code = 6 then a s else if code = 7 then oneMinus (a s)
  else if code = 8 then a d else if code = 9 then oneMinus (a d)
  else if code = 10 then g c else if code = 11 then oneMinus (g c)
  else if code = 12 then a c else if code = 13 then oneMinus (a c)
  else if k = 3 then 0x3F800000 else min32 (a s) (oneMinus (a d))

/-- A blend operation on weighted terms; MIN and MAX take them unweighted. -/
def blendOp (op s d fs fd : Nat) : Nat :=
  if op = 0 then add32 (mul32 s fs) (mul32 d fd)
  else if op = 1 then sub32 (mul32 s fs) (mul32 d fd)
  else if op = 2 then sub32 (mul32 d fd) (mul32 s fs)
  else if op = 3 then min32 s d else max32 s d

/-- The blended R, G, B and A by BLENDn. -/
def blend (w : Nat) (s d c : List Nat) : List Nat :=
  (List.range 4).map (fun k =>
    let (src, dst, op) := if k = 3 then (bitsOf w 19 16, bitsOf w 15 12, bitsOf w 11 9) else (bitsOf w 30 27, bitsOf w 26 23, bitsOf w 22 20)
    blendOp op (s.getD k 0) (d.getD k 0) (blendFactor src k s d c) (blendFactor dst k s d c))

/-- The sample of an attachment after a fragment with colour `col`, by BLENDn word `w` and the blend constant (R121): components that
WRITE_MASK leaves out keep their codes. -/
def blendSample (f w : Nat) (const col : List Nat) (old : Nat) : Nat :=
  let fix := fun (l : List Nat) => if isUnorm f then l.map clamp01 else l
  let col := if bit w 31 = true ∧ isUint f = false then blend w (fix col) (decodeSample f old) (fix const) else col
  packSample (layout f) (((layout f).zip (splitSample (layout f) old)).map (fun c =>
    if bit w c.1.1 then encodeComp f c.1.1 c.1.2 (col.getD c.1.1 0) else c.2))

/-! ### Depth and stencil (R120, Table 5.4) -/

def hasDepth (f : Nat) : Bool := decide (1 ≤ f ∧ f ≤ 3)
def hasStencil (f : Nat) : Bool := decide (f = 3 ∨ f = 4)

/-- A depth value in a depth format. -/
def encodeDepth (f v : Nat) : Nat := if f = 1 then toUnorm 16 v else v % 2 ^ 32

/-- A compare operation, from whether the first value is less and equal; neither holds of a NaN. -/
def compareOp (op : Nat) (lt eq nan : Bool) : Bool :=
  if op = 0 then false else if op = 1 then lt else if op = 2 then eq else if op = 3 then lt || eq
  else if op = 4 then !nan && !lt && !eq else if op = 5 then !eq else if op = 6 then !nan && !lt else true

def compareNat (op a b : Nat) : Bool := compareOp op (decide (a < b)) (decide (a = b)) false

def compareDepth (f op a b : Nat) : Bool :=
  if f = 1 then compareNat op a b else compareOp op (lt32 a b) (eq32 a b) (isNan a || isNan b)

/-- A stencil operation on an 8-bit value. -/
def stencilOp (op old ref : Nat) : Nat :=
  if op = 0 then old else if op = 1 then 0 else if op = 2 then ref
  else if op = 3 then min (old + 1) 255 else if op = 4 then old - 1
  else if op = 5 then 255 - old else if op = 6 then (old + 1) % 256 else (old + 255) % 256

/-- The bits of a stencil value that WRITE_MASK names. -/
def maskedStencil (mask old new : Nat) : Nat := (old &&& (255 - mask)) + (new &&& mask)

/-- The tests of a sample: whether it passes, and its depth and stencil afterwards.  Depth is written only with TEST. -/
def sampleTests (f : Nat) (words : Nat → Nat) (front : Bool) (z depth stencil : Nat) : Bool × Nat × Nat :=
  let d := words 9
  let w := words (if front then 0xA else 0xB)
  let ref := words 0xC % 256
  let cm := bitsOf w 19 12
  let wm := bitsOf w 27 20
  let st := bit d 5 && hasStencil f
  let z := encodeDepth f z
  let zt := bit d 0 && hasDepth f
  let sOk := !st || compareNat (bitsOf w 2 0) (ref &&& cm) (stencil &&& cm)
  let zOk := !zt || compareDepth f (bitsOf d 4 2) z depth
  let op := if sOk = false then bitsOf w 5 3 else if zOk then bitsOf w 8 6 else bitsOf w 11 9
  let stencil' := if st then maskedStencil wm stencil (stencilOp op stencil ref) else stencil
  (sOk && zOk, if sOk && zOk && zt && bit d 1 then z else depth, stencil')

/-! ### The tile grid (R123 to R125, Table 5.8) -/

/-- Tile width and height in pixels by sample count (Table 5.8). -/
def tileDims (samples : Nat) : Nat × Nat :=
  if samples = 1 then (64, 64) else if samples = 2 then (64, 32) else if samples = 4 then (32, 32) else (32, 16)

def firstTile (p : Pass) : Nat × Nat := (p.areaX / (tileDims p.samples).1, p.areaY / (tileDims p.samples).2)
def tilesAcross (p : Pass) : Nat := (p.areaX + p.areaW - 1) / (tileDims p.samples).1 + 1 - (firstTile p).1
def tilesDown (p : Pass) : Nat := (p.areaY + p.areaH - 1) / (tileDims p.samples).2 + 1 - (firstTile p).2
def tileCount (p : Pass) : Nat := tilesAcross p * tilesDown p

/-- The surface coordinates of pixel `i` of a tile, in row-major order. -/
def tilePixel (p : Pass) (tile i : Nat) : Nat × Nat :=
  let (tw, th) := tileDims p.samples
  (((firstTile p).1 + tile % tilesAcross p) * tw + i % tw, ((firstTile p).2 + tile / tilesAcross p) * th + i / tw)

/-- A surface pixel lies inside the render area. -/
def inArea (p : Pass) (x y : Nat) : Bool := decide (p.areaX ≤ x ∧ x < p.areaX + p.areaW ∧ p.areaY ≤ y ∧ y < p.areaY + p.areaH)

/-- The pixels of a tile inside the render area, in row-major order: surface coordinates and position in the tile (R125). -/
def tilePixels (p : Pass) (tile : Nat) : List (Nat × Nat × Nat) :=
  (List.range (4096 / p.samples)).filterMap (fun i =>
    let q := tilePixel p tile i
    if inArea p q.1 q.2 then some (q.1, q.2, i) else none)

/-! ### Tile memory -/

/-- The samples of a tile: of each colour attachment, of depth and of stencil, in row-major pixel order with the samples of a pixel
together. -/
structure TileMem where
  colour : List (List Nat)
  depth : List Nat
  stencil : List Nat
deriving DecidableEq, Repr

/-- Slot size and the number of slots of a spill area of `bytes` (R137). -/
def slotSize (p : Pass) : Nat :=
  ceilDiv (64 + 4096 * ((p.colours.map (fun a => colourBytes a.format)).sum + dsBytes p.dsFormat)) 256 * 256

/-- Where sample `k` of a pixel of an attachment lies (R123). -/
def sampleAddr (p : Pass) (a : Attach) (x y k : Nat) : Nat := a.base + y * a.pitch + (x * p.samples + k) * colourBytes a.format

/-- The starting samples of a colour attachment by its LOAD op; no pixel outside the area is loaded (R125, R126). -/
def loadColour (s : State) (p : Pass) (tile : Nat) (a : Attach) : List Nat :=
  if a.load = 0 then
    (List.range 4096).map (fun j =>
      let q := tilePixel p tile (j / p.samples)
      if inArea p q.1 q.2 then readNum s (sampleAddr p a q.1 q.2 (j % p.samples)) (colourBytes a.format) else 0)
  else List.replicate 4096 (if a.load = 1 then a.clear % 256 ^ colourBytes a.format else 0)

/-- The content of a tile by the pass's load ops (R125, R126). -/
def loadOps (s : State) (p : Pass) (tile : Nat) : TileMem :=
  let clear := decide (p.dsLoad = 1)
  { colour := p.colours.map (loadColour s p tile),
    depth := List.replicate 4096 (if clear = true ∧ hasDepth p.dsFormat = true then encodeDepth p.dsFormat p.clearDepth else 0),
    stencil := List.replicate 4096 (if clear = true ∧ hasStencil p.dsFormat = true then p.clearStencil else 0) }

/-- Bytes of a depth sample and of a stencil sample in a spill slot. -/
def depthBytes (f : Nat) : Nat := if f = 1 then 2 else if f = 2 ∨ f = 3 then 4 else 0
def stencilBytes (f : Nat) : Nat := if hasStencil f then 1 else 0

/-- 4,096 samples of `b` bytes from an address on. -/
def readBlock (s : State) (a b : Nat) : List Nat := if b = 0 then List.replicate 4096 0 else (List.range 4096).map (fun j => readNum s (a + j * b) b)

/-- The blocks of the colour attachments, one after the other. -/
def readColours (s : State) (a : Nat) (cs : List Attach) : List (List Nat) :=
  match cs with
  | [] => []
  | c :: rest => readBlock s a (colourBytes c.format) :: readColours s (a + 4096 * colourBytes c.format) rest

/-- The content of spill slot `k` (R137, R138). -/
def readSlot (s : State) (p : Pass) (k : Nat) : TileMem :=
  let a := p.spillBase + k * slotSize p + 64
  let d := a + 4096 * (p.colours.map (fun c => colourBytes c.format)).sum
  { colour := readColours s a p.colours, depth := readBlock s d (depthBytes p.dsFormat),
    stencil := readBlock s (d + 4096 * depthBytes p.dsFormat) (stencilBytes p.dsFormat) }

/-- The bytes of a slot after its header: each colour attachment in order, then depth, then stencil (R137). -/
def slotBytes (p : Pass) (t : TileMem) : List Byte :=
  let block := fun b (l : List Nat) => l.flatMap (toBytes b)
  ((p.colours.zip t.colour).flatMap (fun c => block (colourBytes c.1.format) c.2)) ++ block (depthBytes p.dsFormat) t.depth
    ++ block (stencilBytes p.dsFormat) t.stencil

/-- What a tile's starting content is read from: its spill slot, or the area of the attachments that are loaded (R125, R126, R138). -/
def touchStart (p : Pass) (tile : Nat) (spill : Option Nat) (s : State) : State :=
  match spill with
  | some k => touch s (p.spillBase + k * slotSize p) (slotSize p)
  | none =>
    forEach (p.colours.filter (fun a => decide (a.load = 0))) (fun a s =>
      forEach (tilePixels p tile) (fun px s => touch s (sampleAddr p a px.1 px.2.1 0) (p.samples * colourBytes a.format)) s) s

/-- What a tile starts from: its spill slot if it has one, else the load ops (R136, R138). -/
def startContent (s : State) (p : Pass) (tile : Nat) (spill : Option Nat) : TileMem :=
  match spill with
  | some k => readSlot s p k
  | none => loadOps s p tile

/-! ### Fragments -/

/-- A context state word of a draw. -/
def DrawState.word (d : DrawState) (i : Nat) : Nat := (Sparse.get (stateWordReset i) d.words i).toNat

/-- A surface pixel lies in the scissor rectangle, and the viewport has a size (Table 5.4). -/
def scissored (d : DrawState) (x y : Nat) : Bool :=
  let sx := d.word 6 % 65536
  let sy := d.word 6 / 65536
  let w := d.word 7 % 65536
  let h := d.word 7 / 65536
  decide (d.word 2 % 2 ^ 31 ≠ 0 ∧ d.word 3 % 2 ^ 31 ≠ 0)
  && (decide (w = 0 ∨ h = 0) || decide (sx ≤ x ∧ x < sx + w ∧ sy ≤ y ∧ y < sy + h))

/-- One sample of a fragment is tested, blended and written (R120, R121). -/
def shadeSample (p : Pass) (d : DrawState) (g : Frag) (k : Nat) (t : TileMem) : TileMem :=
  let j := g.pixel * p.samples + k
  let (ok, z, st) := sampleTests p.dsFormat d.word g.front (g.depth.getD k 0) (t.depth.getD j 0) (t.stencil.getD j 0)
  let const := (List.range 4).map (fun i => d.word (0x18 + i))
  let colour := if ok then (List.range p.colours.length).map (fun i =>
      let l := t.colour.getD i []
      match p.colours[i]? with
      | some a => l.set j (blendSample a.format (d.word (0x10 + i)) const (g.colours.getD i []) (l.getD j 0))
      | none => l)
    else t.colour
  { colour := colour, depth := t.depth.set j z, stencil := t.stencil.set j st }

/-- A fragment of a tile: nothing outside the render area, the scissor rectangle or the tile is drawn. -/
def shadeFrag (p : Pass) (tile : Nat) (d : DrawState) (t : TileMem) (g : Frag) : TileMem :=
  let q := tilePixel p tile g.pixel
  if g.pixel < 4096 / p.samples ∧ inArea p q.1 q.2 = true ∧ scissored d q.1 q.2 = true then
    ((List.range p.samples).filter (fun k => bit g.mask k)).foldl (fun t k => shadeSample p d g k t) t
  else t

/-! ### The end of a tile (R123, R127) -/

def resolves (a : Attach) : Bool := decide (a.store = 1 ∨ a.store = 2)

/-- The mean of UNORM codes. -/
def meanUnorm (vs : List Nat) : Nat := divRne vs.sum vs.length

/-- The sum of FP32 values, added two at a time in an order that the spec leaves open. -/
def sumOpen (fuel : Nat) (vs : List Nat) : Nat :=
  match fuel, vs with
  | 0, _ => vs.headD 0
  | _, [] => 0
  | _, [v] => v
  | n + 1, _ =>
    let rest := vs.eraseIdx ((Config.sumPick vs).1 % vs.length)
    let more := rest.eraseIdx ((Config.sumPick vs).2 % rest.length)
    sumOpen n (add32 (vs.getD ((Config.sumPick vs).1 % vs.length) 0) (rest.getD ((Config.sumPick vs).2 % rest.length) 0) :: more)

/-- The mean of 2, 4 or 8 FP32 values, computed in FP32. -/
def mean32 (vs : List Nat) : Nat := mul32 (sumOpen vs.length vs) (f32 ⟨false, 1, -(vs.length.log2 : Nat)⟩)

/-- A component of a resolved pixel (R127). -/
def resolveComp (f comp w : Nat) (vs : List Nat) : Nat :=
  if isUint f ∨ (isSrgb f comp && vs.all (fun v => v = vs.headD 0)) = true then vs.headD 0
  else if isUnorm f ∧ isSrgb f comp = false then meanUnorm vs
  else encodeComp f comp w (mean32 (vs.map (decodeComp f comp w)))

/-- The value a resolve writes for the samples of a pixel (R127); R32_UINT takes sample 0. -/
def resolveValue (f : Nat) (vs : List Nat) : Nat :=
  let parts := vs.map (splitSample (layout f))
  packSample (layout f) (((List.range (layout f).length).zip (layout f)).map (fun c => resolveComp f c.2.1 c.2.2 (parts.map (fun q => q.getD c.1 0))))

/-- An attachment of a finished tile is stored by its STORE op, inside the render area (R123, R125, R127). -/
def storeAttach (p : Pass) (tile : Nat) (a : Attach) (samples : List Nat) (s : State) : State :=
  let b := colourBytes a.format
  forEach (tilePixels p tile) (fun px s =>
    let (x, y, i) := px
    let vs := (List.range p.samples).map (fun k => samples.getD (i * p.samples + k) 0)
    let s := if a.store = 0 ∨ a.store = 2 then writeMem s (sampleAddr p a x y 0) (vs.flatMap (toBytes b)) else s
    if resolves a then writeMem s (a.rbase + y * a.rpitch + x * b) (toBytes b (resolveValue a.format vs)) else s) s

/-- A finished tile is stored. -/
def storeTile (p : Pass) (tile : Nat) (t : TileMem) (s : State) : State :=
  forEach (p.colours.zip t.colour) (fun a s => storeAttach p tile a.1 a.2 s) s

end Sys2Proof.Machine
end

