-- ==== Sys2Proof/Machine/Clusters.lean ====
section
/-! DEFINITION. Render contexts and the clusters that run them: who holds a cluster, the start and the end of work on it, preemption
requests and the measurement of compositions (R114, R144, R160 to R168, R385). -/

namespace Sys2Proof.Machine

def getCtx (s : State) (c : Nat) : Ctx := Sparse.get {} s.rnd.ctxs c
def setCtx (s : State) (c : Nat) (x : Ctx) : State := { s with rnd := { s.rnd with ctxs := Sparse.set {} s.rnd.ctxs c x } }
def getCluster (s : State) (k : Nat) : Cluster := Sparse.get {} s.rnd.clusters k

/-- A cluster of a render domain holds a context or a reservation (R385). -/
def domainBusy (s : State) (d : Nat) : Bool :=
  (List.range 12).any (fun i => let x := getCluster s (12 * d + i); x.ctx.isSome || x.resv.isSome || x.grant.isSome)

/-- A cluster changes; its domain is switched on when one of its clusters is granted or reserved, and its idle time begins when none
is any more (R385). -/
def setCluster (s : State) (k : Nat) (x : Cluster) : State :=
  let d := k / 12
  let was := domainBusy s d
  let s := { s with rnd := { s.rnd with clusters := Sparse.set {} s.rnd.clusters k x } }
  if domainBusy s d then (if was then s else switchOn (10 + d) s)
  else if was then { s with rnd := { s.rnd with idleSince := Sparse.set 0 s.rnd.idleSince d (now s) } } else s

/-- Clusters of a context, and the count its SCHED register shows. -/
def clustersOf (s : State) (c : Nat) : List Nat := (List.range 24).filter (fun k => (getCluster s k).ctx = some c)
def syncClusters (c : Nat) (s : State) : State := wrF s (SHD_CTX_SCHED.CLUSTERS c) (clustersOf s c).length

/-- The clusters that run a context as their own work, and those that run it as fill (R161). -/
def ownClusters (s : State) (c : Nat) : List Nat := (clustersOf s c).filter (fun k => !(getCluster s k).fill)
def fillClusters (s : State) (c : Nat) : List Nat := (clustersOf s c).filter (fun k => (getCluster s k).fill)

/-- The cluster has not stopped mid-wave: the work on it can go on (R115, R162). -/
def unstopped (s : State) (k : Nat) : Bool := !(getCluster s k).midwave && (getCluster s k).resetAt.isNone

/-- A cluster executes the context's commands, bins and renders; one that runs it as fill runs its workgroups alone (R161). -/
def runsOn (s : State) (c : Nat) : Bool := (ownClusters s c).any (unstopped s)
def worksOn (s : State) (c : Nat) : Bool := (clustersOf s c).any (unstopped s)

/-- Clusters that the scheduler counts as absent: retired or about to be, or parked by throttling (R144, R390). -/
def clusterRetired (s : State) (k : Nat) : Bool :=
  isRetired s U_CLUSTER k || retireIsDue s U_CLUSTER k || decide (12 ≤ k ∧ 4 ≤ rdF s PWR_THROTTLE.STEP)

/-- A cluster can be given work: not retired and not in reset. -/
def usable (s : State) (k : Nat) : Bool := !(clusterRetired s k) && (getCluster s k).resetAt.isNone

/-- The most clusters a context holds (R163). -/
def maxClusters (s : State) (c : Nat) : Nat := min 24 (4 * rdF s (SHD_CTX_SAVE.SIZE c))

/-- Clusters that a context holds: running it, granted to it or reserved for it. -/
def clustersHeld (s : State) (c : Nat) : List Nat :=
  (List.range 24).filter (fun k => let x := getCluster s k; decide (x.ctx = some c ∨ x.grant = some c ∨ x.resv = some c))

/-- Clusters reserved for a context. -/
def reservedFor (s : State) (c : Nat) : List Nat := (List.range 24).filter (fun k => (getCluster s k).resv = some c)

/-- RND_CTXn_STATUS.STATE of a context (Table 5.14); IDLE while its stream waits for an ingest (R152). -/
def ctxStateCode (x : Ctx) : Nat :=
  if x.stream.any (·.ingest) then 0
  else match x.pass with
  | some p => match p.phase with | .binning => 1 | .tile => 2 | .stalled => 3 | .splitting => 4
  | none => 0

/-- The status register follows the context. -/
def syncCtx (c : Nat) (s : State) : State :=
  let x := getCtx s c
  let s := wrF (wrF s (RND_CTX_STATUS.STATE c) (ctxStateCode x)) (RND_CTX_STATUS.CHUNKS c) x.chunks.length
  match x.pass with
  | some p => wrF s (RND_CTX_STATUS.SPLITS c) (min p.splits 255)
  | none => s

/-- The instance that holds a context slot. -/
def ctxHolder (s : State) (c : Nat) : Nat := (getLease s K_CTX c).holder

/-- The context has work a cluster can run: not waiting for ingest or for bin memory (R133, R152, R160). -/
def ctxReady (s : State) (c : Nat) : Bool :=
  let x := getCtx s c
  let stalled : Bool := match x.pass with | some p => decide (p.phase = .stalled) | none => false
  match x.stream with
  | some st => !st.ingest && !stalled
  | none => false

/-- Cluster `k` can start work of context `c`: the context has work, the cluster is in service and its domain good, and the context runs
on fewer clusters than its save area covers (R163, R385). -/
def canTake (s : State) (c k : Nat) : Bool :=
  ctxReady s c && usable s k && domainGood s (10 + k / 12)
    && decide ((getCluster s k).ctx = some c ∨ (clustersOf s c).length < maxClusters s c)

/-- The context is idle with nothing queued (R166). -/
def ctxIdle (s : State) (c : Nat) : Bool := (getCtx s c).stream.isNone && (getCtx s c).queue.isEmpty

/-! ### Measured compositions (R166) -/

def getPlan (s : State) (h : Nat) : HeadPlan := Sparse.get {} s.rnd.plans h
def setPlan (s : State) (h : Nat) (x : HeadPlan) : State := { s with rnd := { s.rnd with plans := Sparse.set {} s.rnd.plans h x } }

/-- The estimate E of a head in ns (R166). -/
def estimate (x : HeadPlan) : Nat := x.measured.foldl max (x.floorUs * 1000)

/-- Work of context `c` starts on a cluster: compositor work inside an open window, whose measurement begins (R166). -/
def noteStart (c : Nat) (s : State) : State :=
  if ctxReady s c = false then s
  else forEach (List.range 12) (fun h s =>
    let p := getPlan s h
    if p.open_ = true ∧ p.ctx = c then
      setPlan s h { p with begun := true, started := if p.started.any (fun m => decide (m.1 = c)) then p.started else (c, now s) :: p.started }
    else s) s

/-- A measured composition ends when its context is idle with nothing queued, past S or under other registers too (R166). -/
def noteEnd (c : Nat) (s : State) : State :=
  if ctxIdle s c = false then s
  else forEach (List.range 12) (fun h s =>
    let p := getPlan s h
    match p.started.find? (fun m => decide (m.1 = c)) with
    | some m =>
      let p := { p with measured := (now s - m.2) :: p.measured.take 7, started := p.started.filter (fun m => decide (m.1 ≠ c)) }
      wrF (setPlan s h p) (SHD_HD_EST.E_US h) (min (estimate p / 1000) 65535)
    | none => s) s

/-! ### Work on a cluster starts and ends -/

/-- Cluster `k`, otherwise as `x`, starts running context `c`. -/
def startOn (k c : Nat) (x : Cluster) (s : State) : State :=
  let old := (getCluster s k).ctx
  let s := syncClusters c (setCluster s k { x with ctx := some c, preempt := none, npHold := false, midwave := false, next := none, jobAt := now s })
  noteStart c (match old with | some o => syncClusters o s | none => s)

/-- Cluster `k`, otherwise as `x`, runs nothing. -/
def stopOn (k : Nat) (x : Cluster) (s : State) : State :=
  let old := (getCluster s k).ctx
  let s := setCluster s k { x with ctx := none, fill := false, preempt := none, npHold := false, midwave := false, next := none }
  match old with | some o => syncClusters o s | none => s

/-- The context that takes a cluster once `c` leaves it: the one it is reserved for, else the one that asked for it, else the one it is
granted to, where it can take it. -/
def successor (s : State) (c k : Nat) (x : Cluster) : Option Nat :=
  let want := match x.resv with
    | some r => some r
    | none => if x.preempt.isSome || x.npHold then x.next else x.grant
  want.filter (fun g => decide (g ≠ c) && canTake s g k)

/-- The clusters that the context runs on and those granted to it leave it (R160, R161). -/
def releaseClusters (c : Nat) (s : State) : State :=
  let s := forEach (clustersOf s c) (fun k s =>
    let x := getCluster s k
    let y := { x with fill := false, grant := if x.grant = some c then none else x.grant }
    match successor s c k x with
    | some g => startOn k g y s
    | none => stopOn k y s) s
  forEach ((List.range 24).filter (fun k => (getCluster s k).grant = some c)) (fun k s => setCluster s k { getCluster s k with grant := none }) s

/-- A preemption request to a cluster (R162). -/
def requestPreempt (k : Nat) (next : Option Nat) (s : State) : State :=
  let x := getCluster s k
  match x.ctx with
  | none => s
  | some _ => send (setCluster s k { x with preempt := some (x.preempt.getD (now s)), npHold := false, next := next }) (.preempt k)

/-- Of some free clusters, those that are reserved for a context, or granted to it, start its work where they can (R160, R168, R385). -/
def placeOn (ks : List Nat) (s : State) : State :=
  forEach ks (fun k s =>
    let x := getCluster s k
    match x.ctx, (x.resv.or x.grant).filter (fun c => canTake s c k) with
    | none, some c => startOn k c { x with fill := false } s
    | _, _ => s) s

/-- Every free cluster. -/
def placeGranted (s : State) : State := placeOn (List.range 24) s

/-- The free clusters of a context. -/
def placeContext (c : Nat) (s : State) : State :=
  placeOn ((List.range 24).filter (fun k => let x := getCluster s k; decide (x.resv.or x.grant = some c))) s

/-! ### Save records (R162, R163) -/

/-- Bytes of a cluster's save record (R163). -/
def SAVE_RECORD : Nat := 524288

/-- The places in the context's save area that no save of interrupted work holds, lowest first (R163). -/
def savePlaces (s : State) (c : Nat) : List Nat :=
  (List.range (4 * rdF s (SHD_CTX_SAVE.SIZE c))).filter (fun i => !((getCtx s c).saves.contains i))

/-- A save record is written to a place of the save area, inside the slice (R162, R163): the state of the work stopped mid-wave
(`whole`), or engine state alone. -/
def writeSave (c place : Nat) (whole : Bool) (s : State) : State :=
  let a := rdF s (SHD_CTX_SAVE.BASE c) * CHUNK + place * SAVE_RECORD
  let bs := (Config.saveRecord whole s.free).take SAVE_RECORD
  writeFor (ctxHolder s c) a bs { s with free := s.free + 1 }

/-- The context's stop on a cluster is saved: mid-wave, its work waits in the save area for the resume; at a boundary only engine
state is written.  Work that has been discarded is not saved (R56, R162, R163). -/
def saveStop (c : Nat) (midwave : Bool) (s : State) : State :=
  let y := getCtx s c
  match savePlaces s c with
  | i :: _ =>
    if y.stream.isNone then s
    else writeSave c i midwave (if midwave then setCtx s c { y with saves := y.saves ++ [i] } else s)
  | [] => s

/-- The clusters of a context stop at a boundary, each with its engine state (R133, R163). -/
def saveEngines (c : Nat) (s : State) : State :=
  forEach ((savePlaces s c).take ((clustersOf s c).filter (unstopped s)).length) (fun i s => writeSave c i false s) s

/-- A cluster leaves service: nothing runs on it and no grant or reservation holds it (R144). -/
def dropCluster (k : Nat) (s : State) : State := stopOn k {} s

end Sys2Proof.Machine
end

