-- ==== Sys2Proof/Machine/Render.lean ====
section
/-! DEFINITION. The render engine: command streams, binning into pods, tiles, split render and cluster faults (chapter 5). -/

namespace Sys2Proof.Machine

/-! ### Streams (R115, R117, R118) -/

/-- Word `i` of a stream, from device memory or as read from the host. -/
def csWord (s : State) (st : Stream) (i : Nat) : Nat :=
  if hostSpace st.addr then (st.words.getD i 0).toNat else readNum s (st.addr + 4 * i) 4

/-- The `n` words of a command at the head of a stream are read. -/
def touchWords (st : Stream) (n : Nat) (s : State) : State := if hostSpace st.addr then s else touch s (st.addr + st.ofs) (4 * n)

/-- The first waiting stream of the context starts, and a preemption request held for the job that ended goes out (R164); with none
left, its clusters are given up (R160). -/
def startNext (c : Nat) (s : State) : State :=
  let x := getCtx s c
  match x.stream, x.queue with
  | none, h :: rest =>
    let s := setCtx s c { x with stream := some h, queue := rest }
    forEach (clustersOf s c) (fun k s =>
      let x := getCluster s k
      if x.npHold then requestPreempt k x.next s else setCluster s k { x with jobAt := now s }) s
  | none, [] => noteEnd c (releaseClusters c s)
  | _, _ => s

/-- What the registers show of a CS_SUBMIT that completes: its status, and the offset of the command that stopped it (Table 5.14). -/
def recordEnd (c status ofs : Nat) (s : State) : State :=
  wr (wrF s (RND_CTX_STATUS.LAST_STATUS c) status) (.RND_CTX_FAILOFS c) (BitVec.ofNat 32 ofs)

/-- The running CS_SUBMIT completes with a status, and its failing offset is recorded (R118). -/
def endStream (c : Nat) (st : Stream) (status : Nat) (s : State) : State :=
  let s := recordEnd c status (if status = ST_OK then 0xFFFFFFFF else st.failOfs) (setCtx s c { getCtx s c with stream := none })
  startNext c (complete s st.fn st.q st.id status)

/-- Nothing of the stream's earlier work is outstanding: no pass in its tile phase, no workgroup. -/
def ctxQuiet (x : Ctx) : Bool := x.pass.isNone && decide (x.groups = 0)

/-- A cluster that faulted under the stream is still in reset: the status of the CS_SUBMIT is not settled (Table 5.13). -/
def resetHeld (s : State) (c : Nat) (st : Stream) : Bool := (List.range 24).any (fun k => decide ((getCluster s k).resetFor = some (c, st.id)))

/-- SHD_INGEST_QUEUE.WAITING: the instances with an ingest waiting or running (Table 6.10). -/
def ingestCount (s : State) : Nat := ((List.range 257).filter (fun n => s.rnd.ingests.any (fun i => decide (i.inst = n)))).length
def syncIngest (s : State) : State := wrF s SHD_INGEST_QUEUE.WAITING (ingestCount s)

/-- The ingest that the context's stream waits for is given up. -/
def dropIngest (c : Nat) (s : State) : State :=
  let s := { s with rnd := { s.rnd with ingests := s.rnd.ingests.filter (fun i => i.ctx ≠ c) } }
  syncIngest (wrB s (SHD_CTX_SCHED.INGEST c) false)

/-- The stream stops with a status, at byte offset `ofs`: an open pass is discarded, earlier work stands.  A stream that has stopped
already keeps its status and offset (R118). -/
def stopStream (c status ofs : Nat) (s : State) : State :=
  let x := getCtx s c
  match x.stream with
  | none => s
  | some st =>
    let keep : Bool := match x.pass with | some p => decide (p.phase = .tile) | none => false
    let st' := if st.fail.isSome then st else { st with fail := some status, failOfs := ofs }
    let s := if st.ingest then dropIngest c s else s
    setCtx s c { x with pass := if keep then x.pass else none, stream := some { st' with ingest := false } }

/-- The stream stops where no command of it fails (Table 5.14). -/
def stopNowhere (c status : Nat) (s : State) : State := stopStream c status 0xFFFFFFFF s

/-- A command header that the engine refuses at once: a reserved OP, reserved bits, or a length past LEN (R117, Table 5.3). -/
def badHeader (st : Stream) (h : Nat) : Bool :=
  let op := bitsOf h 31 24
  let dw := bitsOf h 15 0
  decide (op = 0 ∨ 0x0D ≤ op ∨ bitsOf h 23 16 ≠ 0 ∨ dw = 0 ∨ 4096 < dw ∨ st.len < st.ofs + 4 * dw)

/-- Binning of the context is stalled, in a split render, or has primitives of an earlier draw still to bin (R133, R135, R136). -/
def binHeld (x : Ctx) : Bool :=
  match x.pass with
  | some p => decide (p.phase = .stalled ∨ p.phase = .splitting ∨ (p.phase = .binning ∧ (p.waiting ≠ [] ∨ p.tablePods = [])))
  | none => false

/-- The stream goes on after a command: it ends when its last command and all its work are done, and it stops at a header
that no command has (R115, R118). -/
def csSettle (fuel c : Nat) (s : State) : State :=
  match fuel with
  | 0 => s
  | n + 1 =>
    let x := getCtx s c
    match x.stream with
    | none => s
    | some st =>
      match st.fail with
      | some e => if ctxQuiet x = true ∧ resetHeld s c st = false then csSettle n c (endStream c st e s) else s
      | none =>
        if st.ingest = true ∨ binHeld x = true then s
        else if st.len ≤ st.ofs then
          match x.pass with
          | some p => if p.phase = .tile then s else csSettle n c (stopNowhere c ST_BAD_DESC s)
          | none => if x.groups = 0 ∧ resetHeld s c st = false then csSettle n c (endStream c st ST_OK s) else s
        else if runsOn s c = true ∧ badHeader st (csWord s st (st.ofs / 4)) = true then csSettle n c (stopStream c ST_BAD_DESC st.ofs s)
        else s

def csGoOn (c : Nat) (s : State) : State :=
  syncCtx c (csSettle (2 * (getCtx s c).queue.length + 4) c s)

/-- Inside a pass that takes draws; outside any pass still binning (Table 5.3). -/
def inPass (x : Ctx) : Bool := match x.pass with | some p => decide (p.phase = .binning) | none => false

/-- The command with header `h` waits for earlier work: BEGIN_PASS for the pass before (R129), a BARRIER with a flag set for everything
outstanding, since its writes are still to come (R140). -/
def commandWaits (x : Ctx) (h flags : Nat) : Bool :=
  let tiles : Bool := match x.pass with | some p => decide (p.phase = .tile) | none => false
  (decide (bitsOf h 31 24 = 5) && tiles) ||
  (decide (bitsOf h 31 24 = 0xC) && !(inPass x) && decide (1 ≤ flags ∧ flags ≤ 15) && !(ctxQuiet x))

/-- The stream has a command that a cluster can execute now. -/
def commandReady (s : State) (c : Nat) : Bool :=
  let x := getCtx s c
  match x.stream with
  | none => false
  | some st =>
    !(st.ingest || st.fail.isSome || binHeld x) && decide (st.ofs < st.len)
      && !(commandWaits x (csWord s st (st.ofs / 4)) (csWord s st (st.ofs / 4 + 1)))

/-- The command `op` at the head of context `c`'s stream is executed on a cluster of the context: `run` gets the payload words and
answers the status and what it did. -/
def csCommand (op c : Nat) (dwOk : Nat → Bool) (run : (Nat → Nat) → Nat → State → Nat × State) (s : State) : State :=
  let x := getCtx s c
  match x.stream with
  | none => s
  | some st =>
    let h := csWord s st (st.ofs / 4)
    if runsOn s c = false ∨ st.ingest = true ∨ st.fail.isSome = true ∨ binHeld x = true ∨ st.len ≤ st.ofs then s
    else if badHeader st h then csGoOn c s
    else if bitsOf h 31 24 ≠ op then s
    else if dwOk (bitsOf h 15 0) = false then csGoOn c (stopStream c ST_BAD_DESC st.ofs s)
    else if commandWaits x h (csWord s st (st.ofs / 4 + 1)) then s
    else
      let (status, s) := run (fun i => csWord s st (st.ofs / 4 + 1 + i)) (bitsOf h 15 0) (touchWords st (bitsOf h 15 0) s)
      if status ≠ ST_OK then csGoOn c (stopStream c status st.ofs s)
      else
        let x := getCtx s c
        match x.stream with
        | none => s
        | some st' => if st'.ingest then syncCtx c s
          else csGoOn c (setCtx s c { x with stream := some { st' with ofs := st.ofs + 4 * bitsOf h 15 0, last := st.ofs } })

/-- A 64-bit payload value of two words. -/
def w64 (w : Nat → Nat) (i : Nat) : Nat := w i + 2 ^ 32 * w (i + 1)

/-! ### Context state (Table 5.4, R120) -/

/-- INDEX is listed and VALUE holds no reserved bit or value (R120). -/
def stateWordOk (i v : Nat) : Bool :=
  if i ≤ 7 ∨ (0x18 ≤ i ∧ i ≤ 0x1B) then true
  else if i = 8 then decide (v < 128 ∧ bitsOf v 1 0 ≠ 3 ∧ bitsOf v 5 3 ≤ 5)
  else if i = 9 then decide (v < 64)
  else if i = 0xA ∨ i = 0xB then decide (v < 2 ^ 28)
  else if i = 0xC then decide (v < 256)
  else if 0x10 ≤ i ∧ i ≤ 0x17 then
    decide (bitsOf v 8 4 = 0 ∧ bitsOf v 30 27 ≠ 15 ∧ bitsOf v 26 23 ≠ 15 ∧ bitsOf v 19 16 ≠ 15 ∧ bitsOf v 15 12 ≠ 15
      ∧ bitsOf v 22 20 ≤ 4 ∧ bitsOf v 11 9 ≤ 4)
  else false

def stateWord (x : Ctx) (i : Nat) : Nat := (Sparse.get (stateWordReset i) x.words i).toNat

/-- The pairs of a SET_STATE. -/
def statePairs (w : Nat → Nat) (m : Nat) : List (Nat × Nat) := (List.range m).map (fun k => (w (2 * k), w (2 * k + 1)))

/-- SET_STATE: with a bad pair among them none of the pairs is applied (log entry 205). -/
def setState_ (c : Nat) (s : State) : State :=
  csCommand 0x02 c (fun dw => decide (3 ≤ dw ∧ dw ≤ 4095 ∧ dw % 2 = 1)) (fun w dw s =>
    let ps := statePairs w ((dw - 1) / 2)
    if ps.all (fun p => stateWordOk p.1 p.2) then
      let x := getCtx s c
      let ws := ps.foldl (fun m p => Sparse.set (stateWordReset p.1) m p.1 (BitVec.ofNat 32 p.2)) x.words
      (ST_OK, setCtx s c { x with words := ws })
    else (ST_BAD_DESC, s)) s

def csNop (c : Nat) (s : State) : State := csCommand 0x01 c (fun _ => true) (fun _ _ s => (ST_OK, s)) s

/-! ### Pipelines and tables (R152, R157) -/

/-- An address of a command stream: one with bit 63 set is malformed, else it must lie inside the slice (R116). -/
def csAddr (s : State) (c a len align : Nat) : Nat :=
  pickStatus [(!(hostSpace a) && !(inSlice s (ctxHolder s c) a len), ST_NOT_OWNER), (hostSpace a || decide (a % align ≠ 0), ST_BAD_DESC)]

/-- A registration is bound: the context uses its translation (R152). -/
def bindReg (c : Nat) (r : Registration) (s : State) : State :=
  let n := s.rnd.binds + 1
  let upd := s.rnd.regs.map (fun x => if x.inst = r.inst ∧ x.addr = r.addr then { x with lastUse := n } else x)
  let p0 := decide (rdF s (RND_CTX_CFG.PRIO c) = 0)
  let cache := s.rnd.cache.map (fun e => if e.inst = r.inst ∧ e.key = r.key then { e with lastUse := n, pinned := e.pinned || p0 } else e)
  let s := { s with rnd := { s.rnd with regs := upd, binds := n, cache := cache } }
  setCtx s c { getCtx s c with pipeline := some r.addr, compute := r.compute, tr := r.tr, attrs := r.attrs }

/-- The module ranges of the record at `a` lie inside the slice (Table 6.4 group 1). -/
def modulesInside (s : State) (n : Nat) (r : Page) : Bool :=
  inSlice s n (u64 r 8) (4 * u32 r 16) && (decide (u8 r 0 = 2) || inSlice s n (u64 r 24) (4 * u32 r 20))

/-- The 256 bytes of a pipeline record. -/
def pipelineRecord (s : State) (a : Nat) : Page := BitVec.ofNat 2048 (readNum s a 256)

/-- A record address that is bound: group 1 of Table 6.4, then its alignment (R153). -/
def handleStatus (s : State) (n a : Nat) : Nat :=
  if hostSpace a then ST_BAD_DESC
  else if inSlice s n a 256 = false then ST_NOT_OWNER
  else if a % 64 = 0 then ST_OK
  else if modulesInside s n (pipelineRecord s a) then ST_BAD_DESC else ST_NOT_OWNER

/-- BIND_PIPELINE (R152): a record registered with its BUILD_SEQ is bound at once; else the stream waits for an ingest, and RESULT reads
0xFF until that has one (Table 6.3). -/
def bindPipeline (c : Nat) (s : State) : State :=
  csCommand 0x03 c (fun dw => decide (dw = 3)) (fun w _ s =>
    let a := w64 w 0
    let n := ctxHolder s c
    let st := handleStatus s n a
    if st ≠ ST_OK then (st, s)
    else
      let seq := readNum s (a + 4) 4
      match s.rnd.regs.find? (fun r => decide (r.inst = n ∧ r.addr = a ∧ r.buildSeq = seq)) with
      | some r => (ST_OK, bindReg c r s)
      | none =>
        let x := getCtx s c
        let s := setCtx s c { x with stream := x.stream.map (fun t => { t with ingest := true }) }
        let s := { s with rnd := { s.rnd with ingests := s.rnd.ingests ++ [{ inst := n, ctx := c, addr := a, buildSeq := seq, startedAt := none }] } }
        (ST_OK, syncIngest (releaseClusters c (wrB (writeMem s (a + 64) [0xFF]) (SHD_CTX_SCHED.INGEST c) true)))) s

def bindTable (c : Nat) (s : State) : State :=
  csCommand 0x04 c (fun dw => decide (dw = 3)) (fun w _ s =>
    let st := csAddr s c (w64 w 0) 32 64
    (st, if st = ST_OK then setCtx s c { getCtx s c with table := some (w64 w 0) } else s)) s

/-- The bindings that the bound pipeline uses, with the type of each: those of its shaders, and the buffers of its attributes (R157,
Table 6.3). -/
def usesOf (x : Ctx) : List (Nat × Nat) := x.tr.uses ++ x.attrs.map (fun a => (a % 256, 0))

/-- The table checks of a draw or dispatch (R157). -/
def tableStatus (s : State) (c : Nat) : Nat :=
  let uses := usesOf (getCtx s c)
  if uses = [] then ST_OK
  else match (getCtx s c).table with
    | none => ST_BAD_DESC
    | some t =>
      let n := ctxHolder s c
      let hdr := readNum s t 32
      pickStatus ((decide (2 ^ 16 ≤ hdr ∨ 256 < hdr % 65536), ST_BAD_DESC) ::
        uses.map (fun u => let e := entryStatus s n t (hdr % 65536) u.1 u.2; (decide (e ≠ ST_OK), e)))

/-- Size of a primitive record (R131). -/
def recordSize (v : Nat) : Nat := ceilDiv (64 + 48 * v) 64 * 64

/-- V of the bound pipeline: at most the 16 output locations of a vertex stage (R131, Table 6.2). -/
def vertexOutputs (x : Ctx) : Nat := min x.tr.vOut 16

/-- What a draw or dispatch works with from here on. -/
def drawState (s : State) (c : Nat) : DrawState :=
  let x := getCtx s c
  { code := x.tr.code, size := recordSize (vertexOutputs x), words := x.words, attrs := x.attrs, entries := (usesOf x).map (fun u => (u.1, readEntry s (x.table.getD 0) u.1)) }

/-- The header and the entries that a draw or dispatch reads of the bound table. -/
def touchTable (c : Nat) (s : State) : State :=
  let x := getCtx s c
  match x.table with
  | none => s
  | some t => if usesOf x = [] then s else forEach (usesOf x) (fun u s => touch s (t + 32 + 32 * u.1) 32) (touch s t 32)

/-! ### Passes (R122 to R126) -/

/-- Attachment record `i` of a pass record (Table 5.6). -/
def readAttach (r : BitVec 384) : Attach :=
  { format := u8 r 0, load := u8 r 1, store := u8 r 2, pitch := u32 r 4, base := u64 r 8, rbase := u64 r 16, rpitch := u32 r 24, clear := bytesAt r 32 16 }

/-- The bytes an attachment rectangle spans, from its first row to the end of its last (R123). -/
def rectRange (base pitch x y w h unit : Nat) : Nat × Nat := (base + y * pitch + x * unit, (h - 1) * pitch + w * unit)

/-- The rectangles of an attachment lie inside the slice; an address with bit 63 set is malformed and no matter of ownership (R116,
R122). -/
def attachOwner (s : State) (n : Nat) (p : Pass) (a : Attach) : Bool :=
  let b := colourBytes a.format
  let r := rectRange a.base a.pitch p.areaX p.areaY p.areaW p.areaH (p.samples * b)
  let rr := rectRange a.rbase a.rpitch p.areaX p.areaY p.areaW p.areaH b
  (hostSpace a.base || inSlice s n r.1 r.2) && (!(resolves a) || hostSpace a.rbase || inSlice s n rr.1 rr.2)

/-- The fields of an attachment record are in range and its reserved bytes 0 (Table 5.6). -/
def attachForm (r : BitVec 384) (p : Pass) (a : Attach) : Bool :=
  let b := colourBytes a.format
  decide (1 ≤ a.format ∧ a.format ≤ 0x0D ∧ a.load ≤ 2 ∧ a.store ≤ 3 ∧ u8 r 3 = 0 ∧ u32 r 28 = 0
    ∧ a.pitch % 256 = 0 ∧ (p.areaX + p.areaW) * p.samples * b ≤ a.pitch ∧ a.base % 256 = 0
    ∧ a.clear < 256 ^ b) && !(hostSpace a.base) && !(hostSpace a.rbase)
  && (if resolves a then decide (1 < p.samples ∧ a.rbase % 256 = 0 ∧ a.rpitch % 256 = 0 ∧ (p.areaX + p.areaW) * b ≤ a.rpitch)
      else decide (a.rbase = 0 ∧ a.rpitch = 0))

/-! ### Bin heap (R130 to R132) -/

def podAddr (x : Ctx) (p : Nat) : Nat := (x.chunks.getD (p / 32) 0) * CHUNK + p % 32 * 65536

def podsUsed (p : Pass) : List Nat := p.tablePods ++ p.listPods ++ p.vertexPods

/-- The lowest-numbered free pods, `n` of them if there are as many (R130). -/
def freePods (x : Ctx) (p : Pass) (n : Nat) : Option (List Nat) :=
  let l := ((List.range (x.chunks.length * 32)).filter (fun i => !((podsUsed p).contains i))).take n
  if l.length = n then some l else none

/-- A pod header (Table 5.10). -/
def writePodHeader (c : Nat) (x : Ctx) (pod kind used : Nat) (s : State) : State :=
  writeMem s (podAddr x pod) (toBytes 256 (at8 0 kind + at16 2 c + at32 4 x.passOrd + at32 8 used))

/-- Where a tile's table entry lies (Table 5.10). -/
def tableEntryAddr (x : Ctx) (p : Pass) (tile : Nat) : Nat :=
  podAddr x (p.tablePods.getD (tile / 4080) 0) + 256 + tile % 4080 * 16

def writeTableEntry (x : Ctx) (p : Pass) (tile : Nat) (b : TileBin) (s : State) : State :=
  writeMem s (tableEntryAddr x p tile) (toBytes 16 (at64 0 b.first + at32 8 (b.spill.getD 0xFFFFFFFF) + at32 12 b.entries))

/-- The tile table is laid down, with empty bins (R130). -/
def layTable (c : Nat) (x : Ctx) (p : Pass) (s : State) : State :=
  let s := forEach (List.range p.tablePods.length) (fun i s =>
    writePodHeader c x (p.tablePods.getD i 0) 1 (min (tileCount p * 16 - i * 65280) 65280) s) s
  forEach (List.range (tileCount p)) (fun i s => writeTableEntry x p i {} s) s

/-- Blocks a primitive needs: one for each tile whose last block is full or absent. -/
def newBlocks (p : Pass) (tiles : List Nat) : Nat :=
  (tiles.filter (fun t => let b := Sparse.get {} p.bins (t / 2); b.lastCount = 0 ∨ b.lastCount = 60)).length

/-- Records go into a new vertex pod where there is none yet, where the newest is full, or where its records have another size (R130,
R131). -/
def newVertexPod (p : Pass) (size : Nat) : Bool := decide (p.vertexPods = [] ∨ p.recordSize ≠ size ∨ 65280 / size ≤ p.recordsUsed)

/-- The pods a primitive needs beyond those in use: vertex pods, then list pods (R132). -/
def podsNeeded (x : Ctx) (p : Pass) (tiles : List Nat) : Nat × Nat :=
  let v := if newVertexPod p (recordSize (vertexOutputs x)) then 1 else 0
  let nb := newBlocks p tiles
  let room := if p.listPods = [] then 0 else 255 - p.blocksUsed
  (v, if nb ≤ room then 0 else ceilDiv (nb - room) 255)

/-- One bin entry is added to a tile's bin (Table 5.10). -/
def addEntry (c : Nat) (x : Ctx) (tile entry : Nat) (ps : Pass × List Nat × State) : Pass × List Nat × State :=
  let (p, spare, s) := ps
  let b := Sparse.get {} p.bins tile
  if b.lastCount = 0 ∨ b.lastCount = 60 then
    let (p, spare) :=
      if p.listPods = [] ∨ 255 ≤ p.blocksUsed then
        match spare with
        | pod :: rest => ({ p with listPods := p.listPods ++ [pod], blocksUsed := 0 }, rest)
        | [] => (p, [])
      else (p, spare)
    let pod := p.listPods.getLastD 0
    let a := podAddr x pod + 256 + p.blocksUsed * 256
    let s := writeMem s a (toBytes 256 (at8 8 1 + at32 16 entry))
    let s := if b.lastCount = 60 then writeMem s b.last (toBytes 8 a) else s
    let s := writePodHeader c x pod 2 ((p.blocksUsed + 1) * 256) s
    let b := { b with first := if b.lastCount = 0 then a else b.first, last := a, lastCount := 1, entries := b.entries + 1 }
    ({ p with blocksUsed := p.blocksUsed + 1, bins := Sparse.set {} p.bins tile b }, spare, writeTableEntry x p tile b s)
  else
    let s := writeMem s (b.last + 16 + 4 * b.lastCount) (toBytes 4 entry)
    let s := writeMem s (b.last + 8) (toBytes 1 (b.lastCount + 1))
    let b := { b with lastCount := b.lastCount + 1, entries := b.entries + 1 }
    ({ p with bins := Sparse.set {} p.bins tile b }, spare, writeTableEntry x p tile b s)

/-- The tiles of the pass that a primitive touches, each once; the low bit tells a tile it covers whole (R129, Table 5.10). -/
def primTiles (p : Pass) (tiles : List Nat) : List Nat :=
  tiles.foldl (fun l t => if t / 2 < tileCount p ∧ l.all (fun u => decide (u / 2 ≠ t / 2)) = true then l ++ [t] else l) []

/-- A record of the size that its pod has. -/
def fitRecord (size : Nat) (r : List Byte) : List Byte := (r ++ List.replicate size 0).take size

/-- One primitive is binned if every pod it needs can be reserved, else `none` (R132). -/
def binOne (c : Nat) (g : Prim) (s : State) : Option State :=
  let x := getCtx s c
  match x.pass with
  | none => none
  | some p =>
    let tiles := primTiles p g.tiles
    let (nv, nl) := podsNeeded x p tiles
    match freePods x p (nv + nl) with
    | none => none
    | some pods =>
      let size := recordSize (vertexOutputs x)
      let p := if nv = 0 then p else { p with vertexPods := p.vertexPods ++ pods.take 1, recordsUsed := 0, recordSize := size }
      let pod := p.vertexPods.getLastD 0
      let r := p.recordsUsed
      let s := writePodHeader c x pod 3 ((r + 1) * size) (writeMem s (podAddr x pod + 256 + r * size) (fitRecord size g.record))
      let p := { p with recordsUsed := r + 1, recDraw := Sparse.set 0 p.recDraw (pod * 2048 + r) (p.draws.length - 1) }
      let (p, _, s) := tiles.foldl (fun ps t => addEntry c x (t / 2) (pod * 2 ^ 21 + r * 2 ^ 11 + t % 2) ps) (p, pods.drop nv, s)
      some (setCtx s c { getCtx s c with pass := some p })

/-- Binning stalls before a primitive: the clusters leave as at a preemption point, BIN_GROW is sent and SPLIT_AT set (R133, R163,
Table 5.11). -/
def stall (c : Nat) (rest : List Prim) (s : State) : State :=
  let x := getCtx s c
  match x.pass with
  | none => s
  | some p =>
    let at_ := now s + rdF s RND_GROW_TIMEOUT.TIMEOUT_US * 1000
    let s := releaseClusters c (saveEngines c (setCtx s c { x with pass := some { p with phase := .stalled, waiting := rest, splitAt := at_ } }))
    let seq := match x.stream with | some t => t.seq | none => 0
    let pay := at16 0 c + at8 2 x.chunks.length + at8 3 (min p.splits 255) + at32 4 seq + at64 8 at_
    syncCtx c (postEvent s (ctxHolder s c) EV_BIN_GROW (ctxHolder s c) c pay)

/-- Primitives are binned in submission order until one does not fit (R129, R132, R133). -/
def binAll (c : Nat) (prims : List Prim) (s : State) : State :=
  match prims with
  | [] => s
  | g :: rest =>
    match binOne c g s with
    | some s => binAll c rest s
    | none => stall c (g :: rest) s

/-- The pass that the record at `a` describes, with the spill area in force (R122, R137). -/
def passRecord (s : State) (c a : Nat) : Pass :=
  let h : Rec32 := BitVec.ofNat 256 (readNum s a 32)
  let cols := (List.range (min (u8 h 9) 8)).map (fun i => readAttach (BitVec.ofNat 384 (readNum s (a + 32 + 48 * i) 48)))
  let p : Pass := { areaX := u16 h 0, areaY := u16 h 2, areaW := u16 h 4, areaH := u16 h 6, samples := u8 h 8, colours := cols, dsFormat := u8 h 10, dsLoad := u8 h 11, clearDepth := u32 h 12, clearStencil := u8 h 16 }
  { p with spillBase := rdF s (RND_CTX_SPILL.BASE c) * CHUNK, slots := rdF s (RND_CTX_SPILL.SIZE c) * CHUNK / slotSize p }

/-- The context's spill area lies inside the slice of its holder (R122). -/
def spillOwned (s : State) (c : Nat) : Bool :=
  let z := rdF s (RND_CTX_SPILL.SIZE c)
  decide (z = 0) || inSlice s (ctxHolder s c) (rdF s (RND_CTX_SPILL.BASE c) * CHUNK) (z * CHUNK)

/-- The checks of BEGIN_PASS on the record at `a`, the lowest status that applies (R14, R122, R124); where `a` names host space there is
no record to read (R116). -/
def passStatus (s : State) (c a : Nat) : Nat :=
  let n := ctxHolder s c
  let count := readNum s (a + 9) 1
  if hostSpace a then (if spillOwned s c then ST_BAD_DESC else ST_NOT_OWNER)
  else if inSlice s n a (32 + 48 * min count 8) = false then ST_NOT_OWNER
  else
    let h : Rec32 := BitVec.ofNat 256 (readNum s a 32)
    let p := passRecord s c a
    let recs := (List.range p.colours.length).map (fun i => (BitVec.ofNat 384 (readNum s (a + 32 + 48 * i) 48) : BitVec 384))
    let form := decide (a % 64 = 0 ∧ 1 ≤ p.areaW ∧ p.areaX + p.areaW ≤ 16384 ∧ 1 ≤ p.areaH ∧ p.areaY + p.areaH ≤ 16384 ∧ count ≤ 8
        ∧ p.dsFormat ≤ 4 ∧ u8 h 11 ≤ 2 ∧ bytesAt h 17 15 = 0) && [1, 2, 4, 8].contains p.samples
      && (recs.zip p.colours).all (fun r => attachForm r.1 p r.2)
    pickStatus [(!(spillOwned s c && p.colours.all (attachOwner s n p)), ST_NOT_OWNER), (!form, ST_BAD_DESC),
      (decide (u8 h 11 = 0), ST_UNSUPPORTED), (decide (32 < (p.colours.map (fun k => colourBytes k.format)).sum), ST_NO_SPACE)]

/-- The pass `p` opens: its tile table is laid down, or it stalls where the pods for it are not free (R130). -/
def openPass (c : Nat) (p : Pass) (s : State) : State :=
  let x := { getCtx s c with passOrd := ((getCtx s c).passOrd + 1) % 2 ^ 32 }
  match freePods x p (ceilDiv (tileCount p * 16) 65280) with
  | some pods =>
    let p := { p with tablePods := pods }
    layTable c x p (setCtx s c { x with pass := some p })
  | none => stall c [] (setCtx s c { x with pass := some p })

/-- BEGIN_PASS (R122, R124, R130). -/
def beginPass (c : Nat) (s : State) : State :=
  csCommand 0x05 c (fun dw => decide (dw = 3)) (fun w _ s =>
    match (getCtx s c).pass with
    | some _ => (ST_BAD_DESC, s)
    | none =>
      let st := passStatus s c (w64 w 0)
      (st, if st = ST_OK then openPass c (passRecord s c (w64 w 0)) (touch s (w64 w 0) (32 + 48 * (passRecord s c (w64 w 0)).colours.length)) else s)) s

/-- The tile table of a pass that stalled before it, if its pods are free now (R130). -/
def tableReady (c : Nat) (s : State) : Option State :=
  let x := getCtx s c
  match x.pass with
  | none => none
  | some p =>
    if p.tablePods ≠ [] then some s
    else (freePods x p (ceilDiv (tileCount p * 16) 65280)).map (fun pods =>
      let p := { p with tablePods := pods }
      layTable c x p (setCtx s c { x with pass := some p }))

/-! ### Draws and dispatches (R119, R129, R157) -/

/-- A draw's checks: inside a pass, a graphics pipeline bound, no blend on a UINT attachment, the resource table
(R119, R121, R157). -/
def drawStatus (s : State) (c : Nat) : Nat :=
  let x := getCtx s c
  let graphics := x.pipeline.isSome && !x.compute
  let uintBlend := match x.pass with
    | some p => (List.range p.colours.length).any (fun i => match p.colours[i]? with
        | some a => decide (a.format = 0x0D) && bit (stateWord x (0x10 + i)) 31
        | none => false)
    | none => false
  let t := tableStatus s c
  pickStatus [(!(inPass x) || !graphics || uintBlend, ST_BAD_DESC), (decide (t ≠ ST_OK), t)]

/-- The vertex stages of a draw of `count` vertices and `insts` instances run, and the primitives that survive are binned (R129). -/
def runDraw (c count insts : Nat) (args : List Nat) (s : State) : State :=
  let x := getCtx s c
  match x.pass with
  | none => s
  | some p =>
    if count = 0 ∨ insts = 0 then s
    else
      let d := drawState s c
      let (prims, _, s) := runJob d 0 (count :: insts :: args) [] (touchTable c (setCtx s c { x with pass := some { p with draws := p.draws ++ [d] } }))
      binAll c prims s

/-- A DRAW with the payload words `w`. -/
def drawPlain (c : Nat) (w : Nat → Nat) (s : State) : State := runDraw c (w 0) (w 1) [0, w 2, w 3] s

def draw (c : Nat) (s : State) : State :=
  csCommand 0x06 c (fun dw => decide (dw = 5)) (fun w _ s =>
    let st := drawStatus s c
    (st, if st = ST_OK then drawPlain c w s else s)) s

/-- The index range of an indexed draw (Table 5.3). -/
def indexStatus (s : State) (c addr size count : Nat) : Nat :=
  let szOk := decide (size = 2 ∨ size = 4)
  pickStatus [(!(hostSpace addr) && szOk && !(inSlice s (ctxHolder s c) addr (count * size)), ST_NOT_OWNER),
    (!szOk || hostSpace addr || decide (addr % size ≠ 0), ST_BAD_DESC)]

def orStatus (a b : Nat) : Nat := pickStatus [(decide (a ≠ ST_OK), a), (decide (b ≠ ST_OK), b)]

/-- A DRAW_INDEXED with the payload words `w`: its indices are read from memory. -/
def drawByIndex (c : Nat) (w : Nat → Nat) (s : State) : State :=
  let idx := (List.range (w 3)).map (fun i => readNum s (w64 w 0 + i * w 2) (w 2))
  runDraw c (w 3) (w 4) ([1, w 5, w 6] ++ idx) (if w 3 = 0 then s else touch s (w64 w 0) (w 3 * w 2))

def drawIndexed (c : Nat) (s : State) : State :=
  csCommand 0x07 c (fun dw => decide (dw = 8)) (fun w _ s =>
    let st := orStatus (drawStatus s c) (indexStatus s c (w64 w 0) (w 2) (w 3))
    (st, if st = ST_OK then drawByIndex c w s else s)) s

/-- DRAW_INDIRECT: ARGS holds the payload of a DRAW or, with INDEXED, of a DRAW_INDEXED (Table 5.3). -/
def drawIndirect (c : Nat) (s : State) : State :=
  csCommand 0x08 c (fun dw => decide (dw = 4)) (fun w _ s =>
    let a := w64 w 0
    let indexed := bit (w 2) 0
    let v := fun i => readNum s (a + 4 * i) 4
    let ast := csAddr s c a (if indexed then 28 else 16) 4
    let ist := if indexed ∧ ast = ST_OK then indexStatus s c (w64 v 0) (v 2) (v 3) else ST_OK
    let st := orStatus (orStatus ast (if 1 < w 2 then ST_BAD_DESC else ST_OK)) (orStatus ist (drawStatus s c))
    (st, if st ≠ ST_OK then s else
      let s := touch s a (if indexed then 28 else 16)
      if indexed then drawByIndex c v s else drawPlain c v s)) s

/-- END_PASS: binning ends and the tile phase begins (R129). -/
def endPass (c : Nat) (s : State) : State :=
  csCommand 0x09 c (fun dw => decide (dw = 1)) (fun _ _ s =>
    let x := getCtx s c
    match x.pass with
    | some p =>
      if p.phase = .binning then (ST_OK, setCtx s c { x with pass := some { p with phase := .tile, tilesLeft := tileCount p } })
      else (ST_BAD_DESC, s)
    | none => (ST_BAD_DESC, s)) s

/-- A compute pipeline is bound (R119). -/
def computeBound (s : State) (c : Nat) : Bool := (getCtx s c).pipeline.isSome && (getCtx s c).compute

/-- A dispatch of `x` by `y` by `z` workgroups is checked, and they are left for clusters to run; one with a 0 dispatches nothing. -/
def dispatchGroups (c x y z : Nat) (s : State) : Nat × State :=
  let s := touchTable c s
  let t := tableStatus s c
  let st := pickStatus [(inPass (getCtx s c) || !(computeBound s c) || decide (65535 < x ∨ 65535 < y ∨ 65535 < z), ST_BAD_DESC), (decide (t ≠ ST_OK), t)]
  let u := getCtx s c
  (st, if st = ST_OK ∧ x * y * z ≠ 0 then
      setCtx s c { u with groups := u.groups + x * y * z, runs := u.runs ++ [{ draw := drawState s c, x := x, y := y, z := z }] } else s)

def dispatchCmd (c : Nat) (s : State) : State :=
  csCommand 0x0A c (fun dw => decide (dw = 4)) (fun w _ s => dispatchGroups c (w 0) (w 1) (w 2) s) s

def dispatchIndirect (c : Nat) (s : State) : State :=
  csCommand 0x0B c (fun dw => decide (dw = 3)) (fun w _ s =>
    let a := w64 w 0
    let st := csAddr s c a 12 1
    if st ≠ ST_OK then (st, s)
    else dispatchGroups c (readNum s a 4) (readNum s (a + 4) 4) (readNum s (a + 8) 4) (touch s a 12)) s

/-- BARRIER (R140, Table 5.9): one with a flag set has waited until nothing earlier is outstanding. -/
def barrier (c : Nat) (s : State) : State :=
  csCommand 0x0C c (fun dw => decide (dw = 2)) (fun w _ s =>
    (if inPass (getCtx s c) = true ∨ 15 < w 0 then ST_BAD_DESC else ST_OK, s)) s

/-- The clusters that the context has work for beside its workgroups: all of them while a command is to be executed, while it bins or
splits; else one for each tile (R160). -/
def passUnits (s : State) (c : Nat) : Nat :=
  match (getCtx s c).pass with
  | some p => match p.phase with | .tile => p.tilesLeft | .binning | .splitting => 24 | .stalled => 0
  | none => 0
def ownUnits (s : State) (c : Nat) : Nat := if ctxReady s c = false then 0 else if commandReady s c then 24 else passUnits s c

/-- The clusters that the context has work for, one for each workgroup among them (R160, R161). -/
def readyUnits (s : State) (c : Nat) : Nat := if ctxReady s c = false then 0 else ownUnits s c + (getCtx s c).groups

/-- The workgroups of the context that its own clusters leave to others. -/
def fillUnits (s : State) (c : Nat) : Nat :=
  if ctxReady s c = false then 0 else min (getCtx s c).groups (readyUnits s c - (ownClusters s c).length)

/-- No context holds the cluster, or the one that it runs has no unit of work for it: its clusters take its units in index order, and
those that run it as fill take its workgroups alone (R161). -/
def clusterIdle (s : State) (k : Nat) : Bool :=
  let x := getCluster s k
  match x.ctx with
  | none => true
  | some c =>
    if x.fill then decide (fillUnits s c ≤ ((fillClusters s c).filter (· < k)).length)
    else decide (readyUnits s c ≤ ((ownClusters s c).filter (· < k)).length)

/-- Fill work leaves its cluster at a workgroup boundary when the granted context has work for it again; a reserved cluster and one
under preemption go to the compositor instead (R161, R168). -/
def wantedBack (s : State) (k : Nat) : Option Nat :=
  let x := getCluster s k
  if x.fill = true ∧ x.resv.isNone = true ∧ x.preempt.isNone = true then
    x.grant.filter (fun g => decide (x.ctx ≠ some g ∧ (ownClusters s g).length < readyUnits s g) && canTake s g k)
  else none

/-- Cluster `k` goes back from fill work to the context it is granted to. -/
def takeBack (k : Nat) (s : State) : State :=
  match wantedBack s k with
  | some g => startOn k g { getCluster s k with fill := false } s
  | none => s

/-- A workgroup of `c` has completed as fill work, on the first of its clusters that is wanted back. -/
def leaveFill (c : Nat) (s : State) : State :=
  match (fillClusters s c).find? (fun k => (wantedBack s k).isSome) with
  | some k => takeBack k s
  | none => s

/-- A workgroup of the context's `d`-th outstanding dispatch runs to its end (R150, R158): its storage writes, and the dispatch with it
when it is the last. -/
def runGroup (c d g : Nat) (r : DispatchRun) (s : State) : State :=
  let (_, _, s) := runJob r.draw 2 [g % r.x, g / r.x % r.y, g / (r.x * r.y), r.x, r.y, r.z] [] s
  let u := getCtx s c
  let fin := Sparse.set false r.finished g true
  let runs := if fin.length = r.x * r.y * r.z then u.runs.eraseIdx d else u.runs.set d { r with finished := fin }
  setCtx s c { u with groups := u.groups - 1, runs := runs }

/-- A workgroup completes on a cluster of its context. -/
def workgroupComplete (c d g : Nat) (s : State) : State :=
  match (getCtx s c).runs[d]? with
  | none => s
  | some r =>
    if worksOn s c = false ∨ r.x * r.y * r.z ≤ g ∨ Sparse.get false r.finished g = true then s
    else leaveFill c (csGoOn c (runGroup c d g r s))

/-! ### Tile phase (R125 to R129, R138) -/

/-- The bin entries of a tile, from the block at `a` on: the engine follows the blocks in memory (R129, Table 5.10). -/
def walkBin (fuel a : Nat) (s : State) : List Nat :=
  match fuel with
  | 0 => []
  | n + 1 =>
    if a = 0 then []
    else (List.range (min (readNum s (a + 8) 1) 60)).map (fun i => readNum s (a + 16 + 4 * i) 4) ++ walkBin n (readNum s a 8) s

/-- The blocks of the bin are read. -/
def touchBin (fuel a : Nat) (s : State) : State :=
  match fuel with
  | 0 => s
  | n + 1 => if a = 0 then s else touchBin n (readNum s a 8) (touch s a 256)

/-- The primitive of a bin entry is drawn into the tile by its draw's fragment stage (R120, R121, R128). -/
def renderEntry (x : Ctx) (p : Pass) (tile entry : Nat) (ts : TileMem × State) : TileMem × State :=
  let pod := entry / 2 ^ 21
  let r := entry / 2 ^ 11 % 1024
  let d := p.draws.getD (Sparse.get 0 p.recDraw (pod * 2048 + r)) {}
  let o := tilePixel p tile 0
  let record := readMem ts.2 (podAddr x pod + 256 + r * d.size) d.size
  let (_, fs, s) := runJob d 1 [o.1, o.2, p.samples, entry % 2] record (touch ts.2 (podAddr x pod + 256 + r * d.size) d.size)
  (fs.foldl (shadeFrag p tile d) ts.1, s)

/-- A tile is rendered from its starting content: its bin's primitives in submission order (R128, R129, R138). -/
def renderTile (x : Ctx) (p : Pass) (tile : Nat) (s : State) : TileMem × State :=
  let b := Sparse.get {} p.bins tile
  let entries := walkBin (b.entries + 1) (readNum s (tableEntryAddr x p tile) 8) s
  let read := touchStart p tile b.spill (touchBin (b.entries + 1) (readNum s (tableEntryAddr x p tile) 8) (touch s (tableEntryAddr x p tile) 16))
  entries.foldl (fun ts e => renderEntry x p tile e ts) (startContent s p tile b.spill, read)

/-- The last tile of a pass is stored and the pass completes: its pods and spill slots are free again (R129, R137). -/
def passComplete (c : Nat) (s : State) : State := csGoOn c (setCtx s c { getCtx s c with pass := none })

/-- A tile finishes rendering on a cluster of its context and is stored (R127, R129). -/
def tileStore (c tile : Nat) (s : State) : State :=
  let x := getCtx s c
  match x.pass with
  | none => s
  | some p =>
    let b := Sparse.get {} p.bins tile
    if runsOn s c = false ∨ p.phase ≠ .tile ∨ tileCount p ≤ tile ∨ b.stored = true then s
    else
      let (t, s) := renderTile x p tile s
      let s := storeTile p tile t s
      let p := { p with bins := Sparse.set {} p.bins tile { b with stored := true }, tilesLeft := p.tilesLeft - 1 }
      let s := setCtx s c { x with pass := some p }
      if p.tilesLeft = 0 then passComplete c s else s

/-! ### Split render (R135 to R139) -/

/-- A pass aborts with a status: none of its targets is written from here on, and the stream stops (R139). -/
def abortPass (c status : Nat) (s : State) : State :=
  csGoOn c (stopNowhere c status (setCtx s c { getCtx s c with pass := none }))

/-- The same where the bin heap is exhausted: the stream stops at the command that is stalled (R118, R139). -/
def abortStalled (c : Nat) (s : State) : State :=
  let ofs := match (getCtx s c).stream with | some st => st.last | none => 0
  csGoOn c (stopStream c ST_BIN_EXHAUSTED ofs (setCtx s c { getCtx s c with pass := none }))

/-- The split starts, or the pass aborts where nothing can be split (Table 5.12 step 1). -/
def startSplit (c : Nat) (s : State) : State :=
  let x := getCtx s c
  match x.pass with
  | none => s
  | some p =>
    if p.listPods = [] ∧ p.vertexPods = [] then abortStalled c s
    else placeContext c (syncCtx c (setCtx s c { x with pass := some { p with phase := .splitting } }))

/-- A GROW for the context, of the instance that holds it and accepted before SPLIT_AT, still waits for dispatch (R135); one of another
instance cannot succeed (R134, log entry 206). -/
def growWaiting (s : State) (c t : Nat) : Bool :=
  s.host.sq.any (fun r => decide (r.1 / 64 = ctxHolder s c) && r.2.fetched.any (fun f => decide (dOpcode f.desc = OP_GROW ∧ u16 f.desc 24 = c ∧ f.stamp < t)))

/-- SPLIT_AT is reached (R133, R135). -/
def splitStart (c : Nat) (s : State) : State :=
  match (getCtx s c).pass with
  | some p => if p.phase = .stalled ∧ p.splitAt ≤ now s ∧ growWaiting s c p.splitAt = false then startSplit c s else s
  | none => s

/-- The spill slot of a tile, allocating the next free one, and how many are in use then; `none` where none is free (R137). -/
def slotFor (p : Pass) (b : TileBin) : Option (Nat × Nat) :=
  match b.spill with
  | some k => some (k, p.slotsUsed)
  | none => if p.slotsUsed < p.slots then some (p.slotsUsed, p.slotsUsed + 1) else none

/-- A tile is rendered, written to its spill slot and its bin emptied; no slot free gives `none` (Table 5.12 steps 3 to 6, R137). -/
def spillTile (x : Ctx) (tile : Nat) (p : Pass) (s : State) : Option Pass × State :=
  let b := Sparse.get {} p.bins tile
  let (t, s) := renderTile x p tile s
  match slotFor p b with
  | none => (none, s)
  | some (k, used) =>
    let hdr := toBytes 64 (at32 0 tile + at32 4 x.passOrd + at8 8 (min p.splits 255))
    let s := writeMem s (p.spillBase + k * slotSize p) (hdr ++ slotBytes p t)
    let b := { b with first := 0, last := 0, lastCount := 0, entries := 0, spill := some k }
    (some { p with slotsUsed := used, bins := Sparse.set {} p.bins tile b }, writeTableEntry x p tile b s)

/-- The tiles of a split in order, up to the first that finds no slot; whether every tile found one. -/
def spillAll (x : Ctx) (tiles : List Nat) (p : Pass) (s : State) : Pass × State × Bool :=
  match tiles with
  | [] => (p, s, true)
  | t :: rest =>
    match spillTile x t p s with
    | (none, s) => (p, s, false)
    | (some p, s) => spillAll x rest p s

/-- Binning goes on, on a cluster of the context, with the primitives of a draw that stalled (R135, Table 5.12 step 7). -/
def binWaiting (c : Nat) (s : State) : State :=
  let x := getCtx s c
  match x.pass with
  | none => s
  | some p =>
    if p.phase ≠ .binning ∨ runsOn s c = false ∨ (p.waiting = [] ∧ p.tablePods ≠ []) then s
    else match tableReady c s with
      | none => stall c p.waiting s
      | some s =>
        let y := getCtx s c
        csGoOn c (binAll c p.waiting (setCtx s c { y with pass := y.pass.map (fun q => { q with waiting := [] }) }))

/-- Binning resumes with the stalled primitive as soon as a cluster runs the context (R135). -/
def resumeBinning (c : Nat) (s : State) : State :=
  let x := getCtx s c
  binWaiting c (placeContext c (syncCtx c (setCtx s c { x with pass := x.pass.map (fun p => { p with phase := .binning }) })))

/-- What a context does by itself once a cluster runs it: binning that stalled goes on, and its stream stops at a header that no
command has. -/
def ctxGoOn (c : Nat) (s : State) : State := csGoOn c (binWaiting c s)

/-- Clusters that are free, or whose fill work has run out, go to the contexts that they are reserved for or granted to (R161, R385);
every context that a cluster runs goes on. -/
def goOnAll (s : State) : State :=
  let s := forEach (List.range 24) (fun k s => if clusterIdle s k then takeBack k s else s) (placeGranted s)
  forEach (s.rnd.ctxs.map Prod.fst) (fun c s => if runsOn s c then ctxGoOn c s else s) s

/-- Tiles with a non-empty bin, in tile index order (Table 5.12 step 2). -/
def splitTiles (p : Pass) : List Nat := (p.bins.filter (fun b => decide (b.2.entries ≠ 0))).map Prod.fst

/-- The split has rendered every tile with a non-empty bin (Table 5.12). -/
def splitComplete (c : Nat) (s : State) : State :=
  let x := getCtx s c
  match x.pass with
  | none => s
  | some p =>
    if runsOn s c = false ∨ p.phase ≠ .splitting then s
    else
      match spillAll x (splitTiles p) p s with
      | (_, s, false) => abortStalled c s
      | (p, s, true) =>
        let p := { p with listPods := [], vertexPods := [], recDraw := [], blocksUsed := 255, recordsUsed := 0, splits := p.splits + 1 }
        let s := incF (setCtx s c { x with pass := some p }) (RND_CTX_SPLIT_TOTAL.COUNT c)
        resumeBinning c s

/-! ### CS_SUBMIT and GROW (R115, R134, R144, R163) -/

/-- Every cluster is retired (R144). -/
def allRetired (s : State) : Bool := decide (rdF s RND_CLUSTER_RETIRED.RETIRED = 2 ^ 24 - 1)

/-- The save area of a context lies in the slice of its holder (R163). -/
def saveOk (s : State) (c n : Nat) : Bool :=
  let z := rdF s (SHD_CTX_SAVE.SIZE c)
  decide (z ≠ 0) && inSlice s n (rdF s (SHD_CTX_SAVE.BASE c) * CHUNK) (z * CHUNK)

def unitCheck (s : State) (fn kind unit : Nat) : Bool × Nat :=
  let u := unitStatus s fn kind unit
  (decide (unit < unitsOf kind ∧ u ≠ ST_OK), u)

def checkCsSubmit (s : State) (k : Taken) : Nat :=
  let c := u16 k.d 24
  let n := dLen k.d
  let a := u64 k.d 32
  checkDesc s k [unitCheck s k.fn K_CTX c, (!(addrReach s k.fn a n), ST_NOT_OWNER), (decide (c < 512) && !(saveOk s c k.fn), ST_NOT_OWNER)]
    (decide (c < 512 ∧ n % 4 = 0 ∧ 4 ≤ n ∧ n ≤ 16777216 ∧ a % 64 = 0)) [(allRetired s, ST_FAULT_PERMANENT)]

def runCsSubmit (words : List Word) (k : Taken) (s : State) : State :=
  let c := u16 k.d 24
  let st : Stream := { fn := k.fn, q := k.q, id := k.id, gen := instGen s k.fn, seq := dSeq k.d, addr := u64 k.d 32, len := dLen k.d, words := words }
  let s := if hostSpace st.addr then send s (.hostRead k.fn (pasidOf s k.fn k.d) (hostAddr st.addr) st.len) else s
  let x := getCtx s c
  csGoOn c (placeContext c (startNext c (setCtx s c { x with queue := x.queue ++ [st] })))

/-- A CS_SUBMIT is dispatched; one of the context's holder that completes with an error at once is recorded like any other (R145,
Table 5.14). -/
def dispatchCsSubmit (words : List Word) (s : State) : State :=
  match takeNext (fun o => decide (o = OP_CS_SUBMIT)) s with
  | none => s
  | some (s, k) =>
    let st := checkCsSubmit s k
    let c := u16 k.d 24
    afterDispatch (if st = ST_OK then runCsSubmit words k s
      else
        let s := complete s k.fn k.q k.id st
        if holds s k.fn K_CTX c then recordEnd c st 0xFFFFFFFF s else s)

/-- The chunks a GROW names. -/
def growChunks (d : Desc) : List Nat := (List.range (min (u8 d 26) 8)).map (fun i => u16 d (32 + 2 * i))

def chunkAttached (s : State) (u : Nat) : Bool := s.rnd.ctxs.any (fun c => c.2.chunks.contains u)

def checkGrow (s : State) (k : Taken) : Nat :=
  let c := u16 k.d 24
  let n := u8 k.d 26
  let cs := growChunks k.d
  let unused := (List.range 8).all (fun i => decide (i < n ∨ u16 k.d (32 + 2 * i) = 0))
  checkDesc s k (unitCheck s k.fn K_CTX c :: cs.map (unitCheck s k.fn K_CHUNK))
    (decide (c < 512 ∧ 1 ≤ n ∧ n ≤ 8 ∧ dNotBefore k.d = 0 ∧ cs.Nodup) && unused && cs.all (fun u => decide (u < 16384) && !(chunkAttached s u)))
    [(allRetired s, ST_FAULT_PERMANENT), (decide (64 < (getCtx s c).chunks.length + cs.length), ST_NO_SPACE)]

/-- A GROW accepted at `stamp` has been dispatched for a stalled context, and `fits` tells whether the primitive fits now: binning
resumes, or the split starts at once.  One accepted at or after SPLIT_AT prevents no split (R135). -/
def growDone (c stamp : Nat) (fits : Bool) (s : State) : State :=
  match (getCtx s c).pass with
  | some p =>
    if p.phase ≠ .stalled then s
    else if stamp < p.splitAt then (if fits then resumeBinning c s else startSplit c s)
    else splitStart c s
  | none => s

/-- A GROW attaches its chunks; a stalled context resumes if the primitive fits now (R134, R135). -/
def runGrow (k : Taken) (s : State) : State :=
  let c := u16 k.d 24
  let x := getCtx s c
  let s := complete (syncCtx c (setCtx s c { x with chunks := x.chunks ++ growChunks k.d })) k.fn k.q k.id ST_OK
  let fits := match x.pass, tableReady c s with
    | some p, some s' => (match p.waiting with | t :: _ => (binOne c t s').isSome | [] => true)
    | _, _ => false
  growDone c k.stamp fits s

/-- A GROW that fails its checks splits a stalled context at once (R135). -/
def dispatchGrow (s : State) : State :=
  match takeNext (fun o => decide (o = OP_GROW)) s with
  | none => s
  | some (s, k) =>
    let st := checkGrow s k
    afterDispatch (if st = ST_OK then runGrow k s
      else
        let s := complete s k.fn k.q k.id st
        let c := u16 k.d 24
        if holds s k.fn K_CTX c = true then growDone c k.stamp false s else s)

/-! ### The end of work: preemption, reset, lease end (R56, R68, R139) -/

/-- The work of a context is to stop at its next preemption point. -/
def stopContext (c : Nat) (s : State) : State := forEach (clustersOf s c) (fun k s => requestPreempt k none s) s

/-- The context's work is discarded, not saved (R56, R163). -/
def dropContext (c : Nat) (s : State) : State :=
  let s := dropIngest c (stopContext c s)
  noteEnd c (syncCtx c (setCtx s c { getCtx s c with stream := none, queue := [], pass := none, groups := 0, runs := [], saves := [] }))

/-- The lease of a context slot has ended: its submissions complete with `st` and its contents are discarded (Table 3.8,
R114, R139). -/
def discardContext (c st : Nat) (s : State) : State :=
  let x := getCtx s c
  let s := dropContext c s
  let s := forEach (x.stream.toList ++ x.queue) (fun t s => recordEnd c st 0xFFFFFFFF (complete s t.fn t.q t.id st)) s
  syncCtx c (setCtx s c { chunks := (getCtx s c).chunks })

/-- A chunk is detached from its context: later chunks move up one attach position (log entry 207); a pass that uses the heap aborts
(Table 3.8, R58). -/
def detachChunk (u st : Nat) (s : State) : State :=
  match s.rnd.ctxs.find? (fun c => c.2.chunks.contains u) with
  | none => s
  | some (c, _) =>
    let x := getCtx s c
    let s := syncCtx c (setCtx s c { x with chunks := x.chunks.filter (· ≠ u) })
    if x.pass.isSome then abortPass c st s else s

/-- The work on a cluster is lost and the cluster is reset; what it had of the context and stream `lost` waits for the reset (R143). -/
def resetCluster (k : Nat) (lost : Option (Nat × Nat)) (s : State) : State :=
  stopOn k { resv := (getCluster s k).resv, resetAt := some (now s), resetFor := lost } s

/-- Clusters that still run the context at t + 100 µs are reset at cluster level (Table 3.4, Table 3.8). -/
def contextPreemptTimeout (c : Nat) (s : State) : State :=
  let ks := (clustersOf s c).filter (fun k => match (getCluster s k).preempt with | some t => decide (t + 100000 ≤ now s) | none => false)
  forEach ks (fun k s => resetCluster k none s) s

/-- A context slot granted to a new holder or rebound starts from the reset values of Table 5.3 (R114). -/
def freshContext (c : Nat) (s : State) : State := syncCtx c (setCtx s c { chunks := (getCtx s c).chunks })

/-! ### Cluster faults (R143, Table 5.13) -/

/-- What a fault of its cluster does to a context: an error in the tile phase is retried once, and `retryOk` tells whether that
succeeds; any other ends the open pass and the outstanding workgroups (Table 5.13). -/
def faultedWork (c row : Nat) (retryOk : Bool) (s : State) : State :=
  let x := getCtx s c
  let tiles : Bool := match x.pass with | some p => decide (p.phase = .tile) | none => false
  if row = 1 ∧ tiles = true then (if retryOk then s else abortPass c ST_FAULT_TRANSIENT s)
  else csGoOn c (stopNowhere c ST_FAULT_TRANSIENT (setCtx s c { x with groups := 0, runs := [] }))

/-- A cluster faults: `row` 0 a corrected error, 1 an error in the tile phase whose retry succeeds or not, 2 an error
during binning or a dispatch. -/
def clusterFault (k row : Nat) (retryOk : Bool) (s : State) : State :=
  let x := getCluster s k
  let inst := match x.ctx with | some c => ctxHolder s c | none => 0
  let s := reportFault { id := 0x0B, kind := U_CLUSTER, unit := k, inst := inst, detail := row, cls := if row = 0 then 0 else 1 } s
  if row = 0 then s
  else match x.ctx with
    | none => resetCluster k none s
    | some c => faultedWork c row retryOk (resetCluster k ((getCtx s c).stream.map (fun st => (c, st.id))) s)

/-- A cluster's reset is over, and with it the wait of the stream that it interrupted (Table 5.13). -/
def resetOver (k : Nat) (s : State) : State :=
  let x := getCluster s k
  let s := setCluster s k { x with resetAt := none, resetFor := none }
  match x.resetFor with
  | some (c, _) => csGoOn c s
  | none => s

/-- The reset of a cluster completes (R143). -/
def clusterResetComplete (k : Nat) (s : State) : State := if (getCluster s k).resetAt.isNone then s else resetOver k s

/-- The CS_SUBMIT that a failed cluster reset interrupted gets ST_FAULT_PERMANENT, which its other fault led to (Table 5.13). -/
def failPermanent (c id : Nat) (s : State) : State :=
  let x := getCtx s c
  match x.stream with
  | some st =>
    if st.id = id then
      let s := stopNowhere c ST_FAULT_PERMANENT (setCtx s c { x with groups := 0, runs := [], pass := none })
      let y := getCtx s c
      setCtx s c { y with stream := y.stream.map (fun t => { t with fail := some ST_FAULT_PERMANENT }) }
    else s
  | none => s

/-- The reset of a cluster is not complete within 20 µs: the cluster is retired at once, and the CS_SUBMIT that it ran ends with
ST_FAULT_PERMANENT (Table 5.13). -/
def failedReset (k : Nat) (s : State) : State :=
  let x := getCluster s k
  let inst := match x.resetFor with | some (c, _) => ctxHolder s c | none => 0
  let s := reportFault { id := 0x0B, kind := U_CLUSTER, unit := k, inst := inst, detail := 3, cls := 2 } s
  let s := wrBit s .RND_CLUSTER_RETIRED k true
  let s := match x.resetFor with | some (c, id) => failPermanent c id s | none => s
  dropCluster k (resetOver k s)

/-- The expiry of the reset's 20 µs. -/
def clusterResetTimeout (k : Nat) (s : State) : State :=
  let x := getCluster s k
  match x.resetAt with
  | some t =>
    if now s < t + 20000 then s else failedReset k s
  | none => s

/-- A retired cluster gets no work and keeps none (R144). -/
def retireCluster (k : Nat) (s : State) : State := dropCluster k (resetOver k (wrBit s .RND_CLUSTER_RETIRED k true))

/-! ### The meanings -/

def execCsSubmit (t : Nat) (words : List Word) (s : State) : Host.Outcome State Fault Refusal := act t (dispatchCsSubmit words) s
def execGrow (t : Nat) (s : State) : Host.Outcome State Fault Refusal := act t dispatchGrow s
def execSplitStart (t c : Nat) (s : State) : Host.Outcome State Fault Refusal := act t (splitStart c) s
def execClusterFault (t k row : Nat) (retryOk : Bool) (s : State) : Host.Outcome State Fault Refusal := act t (clusterFault k row retryOk) s
def execClusterResetComplete (t k : Nat) (s : State) : Host.Outcome State Fault Refusal := act t (clusterResetComplete k) s
def execClusterResetTimeout (t k : Nat) (s : State) : Host.Outcome State Fault Refusal := act t (clusterResetTimeout k) s
def execContextPreemptTimeout (t c : Nat) (s : State) : Host.Outcome State Fault Refusal := act t (contextPreemptTimeout c) s

end Sys2Proof.Machine
end

