-- ==== Sys2Proof/Machine/Touch.lean ====
section
/-! DEFINITION. Touch: digitisers, surfaces, contacts, routing and cancels (R329 to R338). -/

namespace Sys2Proof.Machine

def getSurface (s : State) (n : Nat) : Surface := Sparse.get {} s.tch.surfaces n
def active (x : Surface) : List Contact := x.contacts.filter (fun c => c.num.isSome)

/-- A surface's contacts, and its CONTACTS field. -/
def setSurface (n : Nat) (x : Surface) (s : State) : State :=
  wrF { s with tch := { s.tch with surfaces := Sparse.set {} s.tch.surfaces n x } } (TCH_S_STATUS.CONTACTS n) (active x).length

/-! ### Ports and surfaces (R329 to R331) -/

/-- TCH_Pp_STATUS.STATE and TCH_Sn_STATUS.STATE (Table 13.6). -/
def TP_OFF : Nat := 0
def TP_ENUMERATING : Nat := 1
def TP_RUN : Nat := 2
def TP_RESETTING : Nat := 3
def TP_RETIRED : Nat := 4
def SF_OFF : Nat := 0
def SF_WAITING : Nat := 1
def SF_BOUND : Nat := 2
def SF_NO_MATCH : Nat := 3

/-- The usages that a collection must have (Table 13.1). -/
def requiredUsages : List Nat := [0x0D0004, 0x0D0022, 0x0D0042, 0x0D0051, 0x010030, 0x010031, 0x0D0054]

/-- A collection has a usage; X and Y count as absolute positions only. -/
def hasUsage (us : List (Nat × Bool)) (u : Nat) : Bool := us.any (fun k => decide (k.1 = u) && !(k.2 && decide (u = 0x010030 ∨ u = 0x010031)))

/-- STATE of a surface follows its enable and its device (R331). -/
def syncSurface (n : Nat) (s : State) : State :=
  let st :=
    if flag s (TCH_S_SRC.EN n) = false then SF_OFF
    else match s.tch.devices.find? (fun d => decide (d.port = rdF s (TCH_S_SRC.PORT n) ∧ d.hub = rdF s (TCH_S_SRC.HUBPORT n))) with
      | none => SF_WAITING
      | some d => match d.colls[rdF s (TCH_S_SRC.COLL n)]? with
        | some us => if requiredUsages.all (hasUsage us) then SF_BOUND else SF_NO_MATCH
        | none => SF_NO_MATCH
  wrF s (TCH_S_STATUS.STATE n) st

def syncSurfaces (s : State) : State := forEach (List.range 16) syncSurface s

/-- DEVICES of a port. -/
def syncDevices (p : Nat) (s : State) : State := wrF s (TCH_P_STATUS.DEVICES p) (s.tch.devices.filter (fun d => decide (d.port = p))).length

/-- A port can serve a device: not one of low speed, behind a second hub, with isochronous endpoints, with the boot protocol alone or
without an interrupt IN endpoint (R329). -/
def served (p : Nat) (d : TouchDevice) : Bool := decide (4 ≤ p) || (d.interruptIn && !(d.lowSpeed || d.isochronous || d.bootOnly || d.secondTier))

/-- A digitiser is found on a port, behind hub port `hub` (0 direct): enumerated unless the port cannot serve it, with Input Mode set to
0x02 where it has it (R329 to R331). -/
def attach (p hub : Nat) (d : TouchDevice) (s : State) : State :=
  let st := rdF s (TCH_P_STATUS.STATE p)
  let mine := s.tch.devices.filter (fun d => decide (d.port = p))
  let room := mine.all (fun d => decide (d.hub ≠ hub ∧ d.hub ≠ 0 ∧ hub ≠ 0))
  if 8 ≤ p ∨ 4 < hub ∨ (4 ≤ p ∧ hub ≠ 0) ∨ flag s (TCH_P_CFG.EN p) = false ∨ st = TP_OFF ∨ st = TP_RETIRED then s
  else
    let s := wrF s (TCH_P_STATUS.STATE p) TP_RUN
    if served p d = false ∨ room = false then s
    else
      let s := if d.inputMode then send s (.inputMode p hub 2) else s
      let k : Digitiser := { port := p, hub := hub, contactMax := min 10 (d.contactMax.getD 10), colls := d.colls.filter (fun us => hasUsage us 0x0D0004) }
      syncSurfaces (syncDevices p { s with tch := { s.tch with devices := s.tch.devices ++ [k] } })

/-! ### Events (R338) -/

def T_DOWN : Nat := 1
def T_MOVE : Nat := 2
def T_UP : Nat := 3
def T_CANCEL : Nat := 4

/-- A touch event about contact `c` of surface `n` to the event ring of `ring` (Table 13.2). -/
def touchEvent (ring kind n cause stamp : Nat) (c : Contact) (s : State) : State :=
  postEventAt s ring EV_TOUCH c.holder c.route stamp (at8 0 kind + at8 1 n + at8 2 (c.num.getD 0) + at8 3 c.head + at16 4 c.x + at16 6 c.y
    + at16 8 c.lx + at16 10 c.ly + at16 12 c.pressure + at8 14 cause)

/-- Contacts for which `f` holds end with a CANCEL to the rings given; they are swallowed from here on (R332, R337). -/
def cancelWhere (f : Nat → Contact → Bool) (cause stamp : Nat) (rings : Contact → List Nat) (s : State) : State :=
  forEach (List.range 16) (fun n s =>
    let gone := (active (getSurface s n)).filter (f n)
    if gone.isEmpty then s
    else
      let s := forEach gone (fun c s => forEach (rings c) (fun r s => touchEvent r T_CANCEL n cause stamp c s) s) s
      let x := getSurface s n
      setSurface n { x with contacts := x.contacts.map (fun c => if c.num.isSome = true ∧ f n c = true then { c with num := none } else c) } s) s

/-- A route ends: its contacts are cancelled for the holder, then for the manager (R337). -/
def cancelRoute (r cause : Nat) (s : State) : State := cancelWhere (fun _ c => decide (c.route = r)) cause (now s) (fun c => [c.holder, 0]) s

/-- A reset of instance `n`: cancelled for the manager only (R337). -/
def cancelInstance (n cause : Nat) (s : State) : State := cancelWhere (fun _ c => decide (c.holder = n ∧ c.route ≠ 0xFFFF)) cause (now s) (fun _ => [0]) s

/-- A fault or the retirement of a port: cancelled for each holder (R337). -/
def cancelPort (p : Nat) (s : State) : State := cancelWhere (fun n _ => decide (rdF s (TCH_S_SRC.PORT n) = p)) 4 (now s) (fun c => [c.holder]) s

/-- A port and the devices behind it are dropped, with the port in state `st`. -/
def dropPort (p st : Nat) (s : State) : State :=
  let s := wrF s (TCH_P_STATUS.STATE p) st
  syncSurfaces (syncDevices p { s with tch := { s.tch with devices := s.tch.devices.filter (fun d => decide (d.port ≠ p)) } })

/-- Fault 0x15: contacts end, and the port is reset and enumerates again (Table 11.3). -/
def resetTouchPort (p : Nat) (s : State) : State := dropPort p TP_RESETTING (cancelPort p s)
def retireTouchPort (p : Nat) (s : State) : State := dropPort p TP_RETIRED (cancelPort p s)

/-! ### Mapping (R333) -/

/-- A coordinate over its logical range as 0 to 65,535; `e` where the range is empty, for which the spec's division has no value. -/
def norm (e : Nat) (raw lo hi : Int) : Nat :=
  let r := (hi - lo).toNat
  let u := (max lo (min hi raw) - lo).toNat
  if r = 0 then e % 65536 else (u * 65535 + r / 2) / r

/-- The point of a report on the surface's head, before the halves of a pair are told apart. -/
def mapPoint (s : State) (n : Nat) (k : TouchPoint) : Nat × Nat :=
  let a := norm (Config.freeNat (s.free + 2)) k.x k.xMin k.xMax
  let b := norm (Config.freeNat (s.free + 3)) k.y k.yMin k.yMax
  let a := if flag s (TCH_S_MAP2.MIRROR n) then 65535 - a else a
  let rot := rdF s (TCH_S_MAP2.ROT n)
  let (p, q) := if rot = 0 then (a, b) else if rot = 1 then (65535 - b, a) else if rot = 2 then (65535 - a, 65535 - b) else (b, 65535 - a)
  (rdF s (TCH_S_MAP0.DX n) + (p * (rdF s (TCH_S_MAP1.DW n) - 1) + 32767) / 65535, rdF s (TCH_S_MAP0.DY n) + (q * (rdF s (TCH_S_MAP1.DH n) - 1) + 32767) / 65535)

/-- Tip Pressure scaled to 0–1023 with rounding to nearest; `e` where its range is empty. -/
def mapPressure (e : Nat) (k : TouchPoint) : Nat :=
  match k.pressure with
  | none => 0
  | some (raw, lo, hi) =>
    let r := (hi - lo).toNat
    if r = 0 then e % 1024 else ((max lo (min hi raw) - lo).toNat * 1023 + r / 2) / r

/-- The head and the active column of a mapped column: the odd half of a pair begins at HACT (R333). -/
def onHead (v : View) (h hx : Nat) : Nat × Nat :=
  if h % 2 = 0 ∧ v.flag (HD_CTRL.PAIR h) = true ∧ hact v h ≤ hx then (h + 1, hx - hact v h) else (h, hx)

/-! ### Routing (R334, R336) -/

/-- A route of a type that names a target. -/
def routeNames (s : State) (r type target : Nat) : Bool :=
  flag s (TCH_R_CFG.EN r) && decide (rdF s (TCH_R_CFG.TYPE r) = type ∧ rdF s (TCH_R_CFG.TARGET r) = target)

/-- The region of a head at a point. -/
def regionAt (s : State) (h x y : Nat) : Bool :=
  (regionsOf s h).any (fun r => decide (rdF s (ART_R_POS.X h r) ≤ x ∧ x < rdF s (ART_R_POS.X h r) + rdF s (ART_R_SIZE.W h r)
    ∧ rdF s (ART_R_POS.Y h r) ≤ y ∧ y < rdF s (ART_R_POS.Y h r) + rdF s (ART_R_SIZE.H h r)))

/-- The destination rectangle of a pipe holds a point of the active area. -/
def pipeAt (v : View) (p x y : Nat) : Bool :=
  let dx := signed 16 (v.fld (LYR_DST_XY.DST_X p))
  let dy := signed 16 (v.fld (LYR_DST_XY.DST_Y p))
  decide (dx ≤ x ∧ (x : Int) < dx + v.fld (LYR_DST_WH.DST_W p) ∧ dy ≤ y ∧ (y : Int) < dy + v.fld (LYR_DST_WH.DST_H p))

/-- The route of a DOWN at a point of a head, by the active state `v` (R334). -/
def findRoute (s : State) (v : View) (h x y : Nat) : Option Nat :=
  let routes := List.range 256
  let holder := fun r => (getLease s K_TOUCH r).holder
  let held := fun r => holds s (holder r) K_TOUCH r
  if hact v h ≤ x ∨ vact v h ≤ y then none
  else if regionAt s h x y then routes.find? (fun r => routeNames s r 1 h && held r && decide (holder r = safetyInst s))
  else
    match (pipesOf v h).reverse.find? (fun p => pipeAt v p x y) with
    | none => none
    | some p => routes.find? (fun r => routeNames s r 0 p && held r && holds s (holder r) K_PIPE p)

/-- Active contacts of a route. -/
def routeContacts (s : State) (r : Nat) : Nat :=
  ((List.range 16).map (fun n => ((active (getSurface s n)).filter (fun c => decide (c.route = r))).length)).sum

/-- LX and LY: from the top-left corner of the route target's rectangle, which for an Artichoke layer is its head's active area
(R335); `k` is the target's type and number, and for an unrouted contact they are open. -/
def localPoint (s : State) (v : View) (n r : Nat) (k : Nat × Nat) (hx hy : Nat) : Nat × Nat :=
  let h0 := rdF s (TCH_S_MAP2.HEAD n)
  let shift := fun h => if h ≠ h0 then hact v h0 else 0
  if r = 0xFFFF then (Config.freeNat s.free % 65536, Config.freeNat (s.free + 1) % 65536)
  else
    let t := k.2
    if k.1 = 1 then (unsigned 16 ((hx : Int) - shift t), hy)
    else (unsigned 16 ((hx : Int) - shift (v.fld (LYR_HEAD.HEAD t)) - signed 16 (v.fld (LYR_DST_XY.DST_X t))), unsigned 16 ((hy : Int) - signed 16 (v.fld (LYR_DST_XY.DST_Y t))))

/-! ### Reports (R332, R335, R336) -/

def putContact (n : Nat) (c : Contact) (s : State) : State :=
  let x := getSurface s n
  setSurface n { x with contacts := x.contacts.filter (fun k => decide (k.id ≠ c.id)) ++ [c] } s
def removeContact (n id : Nat) (s : State) : State :=
  let x := getSurface s n
  setSurface n { x with contacts := x.contacts.filter (fun k => decide (k.id ≠ id)) } s

/-- Where a report puts a contact, by the active state `v` at its stamp. -/
def place (s : State) (v : View) (n : Nat) (c : Contact) (k : TouchPoint) : Contact :=
  let (gx, gy) := mapPoint s n k
  let (h, x) := onHead v (rdF s (TCH_S_MAP2.HEAD n)) gx
  let (lx, ly) := localPoint s v n c.route c.target gx gy
  { c with head := h, x := x, y := gy, lx := lx, ly := ly, pressure := mapPressure (Config.freeNat (s.free + 4)) k, absent := 0 }

/-- The free values that a contact of a report may take: LX, LY, X, Y and PRESSURE. -/
def spendContact (s : State) : State := { s with free := s.free + 5 }

/-- A contact begins (R332, R334, R336). -/
def touchDown (v : View) (n stamp : Nat) (k : TouchPoint) (s : State) : State :=
  let x := getSurface s n
  let swallowed : Contact := { id := k.id, num := none }
  match (List.range 10).find? (fun i => !((active x).any (fun c => decide (c.num = some i)))) with
  | none => incF (putContact n swallowed s) TCH_OVER.COUNT
  | some i =>
    let (gx, gy) := mapPoint s n k
    let (h, hx) := onHead v (rdF s (TCH_S_MAP2.HEAD n)) gx
    match findRoute s v h hx gy with
    | some r =>
      if rdF s (TCH_R_CFG.MAXC r) ≤ routeContacts s r then incF (putContact n swallowed s) TCH_REFUSED.COUNT
      else
        let c := place s v n { id := k.id, num := some i, route := r, holder := (getLease s K_TOUCH r).holder, target := (rdF s (TCH_R_CFG.TYPE r), rdF s (TCH_R_CFG.TARGET r)) } k
        touchEvent c.holder T_DOWN n 0 stamp c (putContact n c (spendContact s))
    | none =>
      if flag s TCH_CFG.UNROUTED then
        let c := place s v n { id := k.id, num := some i } k
        touchEvent 0 T_DOWN n 0 stamp c (putContact n c (spendContact s))
      else incF (putContact n swallowed s) TCH_UNROUTED.COUNT

/-- One contact of a report. -/
def touchContact (v : View) (n stamp : Nat) (k : TouchPoint) (s : State) : State :=
  match (getSurface s n).contacts.find? (fun c => decide (c.id = k.id)) with
  | none => if k.tip = true ∧ k.conf = true then touchDown v n stamp k s else s
  | some c =>
    if c.num = none then (if k.tip then putContact n { c with absent := 0 } s else removeContact n k.id s)
    else
      let d := place s v n c k
      let s := spendContact s
      if k.tip = false then touchEvent c.holder T_UP n 0 stamp d (removeContact n k.id s)
      else if k.conf = false then touchEvent c.holder T_CANCEL n 1 stamp c (putContact n { c with num := none, absent := 0 } s)
      else if d.head = c.head ∧ d.x = c.x ∧ d.y = c.y ∧ d.pressure = c.pressure then putContact n { c with absent := 0 } s
      else touchEvent c.holder T_MOVE n 0 stamp d (putContact n d s)

/-- A contact that the report does not hold. -/
def touchAbsent (n stamp : Nat) (c : Contact) (s : State) : State :=
  if c.num = none then removeContact n c.id s
  else if c.absent + 1 < 3 then putContact n { c with absent := c.absent + 1 } s
  else touchEvent c.holder T_CANCEL n 2 stamp c (removeContact n c.id s)

/-- Contacts in ascending identifier (R336). -/
def byId : List TouchPoint → List TouchPoint
  | [] => []
  | k :: ks => insertId k (byId ks)
where
  insertId (k : TouchPoint) : List TouchPoint → List TouchPoint
    | [] => [k]
    | j :: js => if k.id ≤ j.id then k :: j :: js else j :: insertId k js

/-- A report of a surface (R332, R333): stamped at its end on USB, at the interrupt on I²C-HID, and placed by the active state of
that moment. -/
def surfaceReport (r : SurfaceReport) (s : State) : State :=
  let n := r.surface
  if 16 ≤ n ∨ rdF s (TCH_S_STATUS.STATE n) ≠ SF_BOUND then s
  else
    let p := rdF s (TCH_S_SRC.PORT n)
    let stamp := if p < 4 then now s else Sparse.get 0 s.tch.intAt p
    let v : View := if p < 4 then s.dsp.active else Sparse.get [] s.tch.intView p
    let missing := (getSurface s n).contacts.filter (fun c => !(r.points.any (fun k => decide (k.id = c.id))))
    let s := setSurface n { getSurface s n with lastReport := stamp } s
    forEach missing (touchAbsent n stamp) (forEach (byId r.points) (touchContact v n stamp) s)

/-- The reports that end at one stamp, in ascending surface index (R336). -/
def touchReport (rs : List SurfaceReport) (s : State) : State :=
  forEach ((List.range 16).flatMap (fun n => rs.filter (fun r => decide (r.surface = n)))) surfaceReport s

/-- A surface has sent no report for 100 ms (R332). -/
def surfaceSilent (n : Nat) (s : State) : State :=
  if 16 ≤ n ∨ now s < (getSurface s n).lastReport + 100000000 then s
  else cancelWhere (fun m _ => decide (m = n)) 2 (now s) (fun c => [c.holder]) s

/-- The falling edge of an I²C-HID interrupt line (R330, Table 2.3). -/
def i2cInt (p : Nat) (s : State) : State :=
  if p < 4 ∨ 8 ≤ p then s else { s with tch := { s.tch with intAt := Sparse.set 0 s.tch.intAt p (now s), intView := Sparse.set [] s.tch.intView p s.dsp.active } }

/-! ### Register writes (R337, R350) -/

/-- A write of TCH_Rr_CFG; EN from 1 to 0 ends the route's contacts (R337). -/
def writeRoute (r v : Nat) (s : State) : State :=
  let target := bitsOf v 6 0
  if 256 ≤ r then s
  else if admitted (Reg.fields (.TCH_R_CFG r)) v = false ∨ (if bit v 30 then 12 else 96) ≤ target then logDiscard s (Reg.TCH_R_CFG r).key
  else
    let was := flag s (TCH_R_CFG.EN r)
    let s := if was = true ∧ bit v 31 = false then cancelWhere (fun _ c => decide (c.route = r)) 3 (now s) (fun c => [c.holder]) s else s
    writeFields s (.TCH_R_CFG r) v

/-- A write of TCH_Pp_CFG: EN starts or stops the port (R350). -/
def writeTouchPort (p v : Nat) (s : State) : State :=
  let a := bitsOf v 22 16
  if (p < 4 ∧ (bit v 24 = true ∨ bitsOf v 22 0 ≠ 0)) ∨ (4 ≤ p ∧ (a < 8 ∨ 0x77 < a)) then logDiscard s (Reg.TCH_P_CFG p).key
  else
    let was := flag s (TCH_P_CFG.EN p)
    let s := writeFields s (.TCH_P_CFG p) v
    let on := flag s (TCH_P_CFG.EN p)
    if on = was ∨ rdF s (TCH_P_STATUS.STATE p) = TP_RETIRED then s
    else if on then wrF s (TCH_P_STATUS.STATE p) TP_ENUMERATING else dropPort p TP_OFF (cancelPort p s)

/-- A write of TCH_Sn_SRC, and of a MAP register, which only a disabled surface takes (R350); under SETUP_LOCK none of their fields
changes, and R457 alone decides. -/
def writeSurface (n : Nat) (r : Reg) (v : Nat) (s : State) : State :=
  if r ≠ .TCH_S_SRC n ∧ flag s (TCH_S_SRC.EN n) = true ∧ locked s = false then logDiscard s r.key else syncSurface n (writeFields s r v)

def execTouchDeviceAttach (t p hub : Nat) (d : TouchDevice) (s : State) : Host.Outcome State Fault Refusal := actIn 12 t (attach p hub d) s
def execI2cIntFall (t p : Nat) (s : State) : Host.Outcome State Fault Refusal := actIn 12 t (i2cInt p) s
def execTouchReport (t : Nat) (rs : List SurfaceReport) (s : State) : Host.Outcome State Fault Refusal := actIn 12 t (touchReport rs) s
def execSurfaceSilentTimeout (t n : Nat) (s : State) : Host.Outcome State Fault Refusal := actIn 12 t (surfaceSilent n) s
def execRouteDisable (t r : Nat) (v : Word) (s : State) : Host.Outcome State Fault Refusal := act t (onBar0 (writeRoute r v.toNat)) s

end Sys2Proof.Machine
end

