-- ==== Sys2Proof/Machine/Leases.lean ====
section
/-! DEFINITION. Leases: the revocation sequence and its end, expiry and kicks, and the batch's result points (R65 to R70,
R73, R74). -/

namespace Sys2Proof.Machine

/-! ### Batch results (R73, R74, R78) -/

/-- The batch reply: header and results (Table 3.11). -/
def batchReply (count seq dtime : Nat) (results : List Rec32) : Page :=
  let rec body (i : Nat) (rs : List Rec32) : Nat :=
    match rs with
    | [] => 0
    | r :: rest => r.toNat <<< (256 * i) + body (i + 1) rest
  BitVec.ofNat 2048 (at16 0 0x8000 + at8 2 count + at32 4 seq + at64 8 dtime + body 1 results)

/-- The batch reply is written to the inbound page of I0 and the manager's vector 63 signalled (R74, R106). -/
def sendBatchReply (count seq dtime : Nat) (results : List Rec32) (s : State) : State :=
  signal (setInst s 0 { getInst s 0 with inPage := batchReply count seq dtime results }) 0 63

/-- The current generation a result reports; 0 for an INSTANCE above 256 (R73). -/
def genOf (s : State) (n : Nat) : Nat := if n ≤ 256 then instGen s n else 0

/-- The batch ends when its last command has its result (R74); a batch discarded by a PF function-level reset has no
reply (R80). -/
def endBatch (s : State) : State :=
  match s.fab.batch with
  | none => s
  | some b =>
    if b.todo = [] ∧ b.current = none then
      let s := { s with fab := { s.fab with batch := none } }
      if b.dropped then s else sendBatchReply b.count b.seq (now s) b.results s
    else s

/-- A command of the batch, accepted at `acc`, reaches its result point with a status: journalled and its result kept
(R74, R78, Table 3.12). -/
def resultOf (c : Rec32) (acc st : Nat) (s : State) : State :=
  match s.fab.batch with
  | none => s
  | some b =>
    let j := nextJseq s
    let s := journal s 0x01 (cOpcode c) (cInstance c) st b.results.length (cArgs c) b.seq acc
    let r := commandResult c st (genOf s (cInstance c)) j acc
    { s with fab := { s.fab with batch := some { b with results := b.results ++ [r], current := none, wait := .none } } }

/-- The generation a command expects is not its target's current one (R74). -/
def staleCommand (s : State) (c : Rec32) : Bool := decide (cInstance c ≤ 256 ∧ cGen c ≠ instGen s (cInstance c))

/-- Opcodes of Table 3.13 that are not reserved. -/
def knownCommand (op : Nat) : Bool := decide (1 ≤ op ∧ op ≤ 8)

/-- Reserved opcodes at the front of the batch complete at once with ST_BAD_DESC (Table 3.13), then the batch ends if
nothing is left of it. -/
def skipReserved (fuel : Nat) (s : State) : State :=
  match fuel with
  | 0 => s
  | n + 1 =>
    match s.fab.batch with
    | none => s
    | some b =>
      match b.current, b.todo with
      | none, c :: rest =>
        if knownCommand (cOpcode c) then s
        else
          let st := pickStatus [(staleCommand s c, ST_STALE_GEN), (true, ST_BAD_DESC)]
          skipReserved n (resultOf c (now s) st { s with fab := { s.fab with batch := some { b with todo := rest } } })
      | none, [] => endBatch s
      | some _, _ => s

/-- A command reaches its result point and the batch goes on (R74). -/
def finishCommand (c : Rec32) (acc st : Nat) (s : State) : State := skipReserved 9 (resultOf c acc st s)

/-- The command being applied, which waited for `w`, reaches its result point. -/
def resumeBatch (w : BatchWait) (st : Nat) (s : State) : State :=
  match s.fab.batch with
  | some b =>
    match b.current with
    | some (c, _, acc) => if b.wait = w then finishCommand c acc st s else s
    | none => s
  | none => s

/-! ### The end of a lease (R68 to R70) -/

/-- The status that work of a lease ends with: ST_RETIRED where a retirement ends it (R69). -/
def endStatus (reason : Nat) : Nat := if reason = 3 then ST_RETIRED else ST_REVOKED

/-- The bounded in-flight operation of a unit begins to end at t_r (Table 3.7, Table 3.8). -/
def beginEnd (kind unit reason : Nat) (s : State) : State :=
  if kind = K_AUDIO then silence (some (endStatus reason)) unit s
  else if kind = K_CTX then stopContext unit s
  else if kind = K_HAPTIC then stopHaptic unit (some (endStatus reason)) s
  else s

/-- What becomes of the unit when its lease has ended; `st` is ST_REVOKED or ST_RETIRED (Table 3.8, R181). -/
def finishUnit (kind unit st : Nat) (s : State) : State :=
  if kind = K_PIPE then discardFlip unit st s
  else if kind = K_CTX then discardContext unit st s
  else if kind = K_CHUNK then detachChunk unit st s
  else if kind = K_TOUCH then cancelRoute unit 0x03 s
  else s

/-- The revocation sequence begins, with the END_REASON it will write (R68). -/
def startRevoke (kind unit reason : Nat) (s : State) : State :=
  let l := getLease s kind unit
  if l.state = .held then
    beginEnd kind unit reason (setLease s kind unit { l with state := .revoking, ending := reason, endAt := now s })
  else s

/-- A LEASE_END event to the holder's ring and to the manager's.  The spec gives its payload no layout; it is an open
value. -/
def leaseEndEvents (holder unit : Nat) (s : State) : State :=
  let p := fresh s
  spend (postEvent (postEvent s holder EV_LEASE_END holder unit p) 0 EV_LEASE_END holder unit p)

/-- The revocation sequence ends: FREE, or RETIRED where the unit was retired (Table 3.7, R70).  HOLDER_GEN, TERM_MS, EXPIRY and GRANTED
keep what they held (log entry 194). -/
def finishRevoke (kind unit : Nat) (s : State) : State :=
  let l := getLease s kind unit
  if l.state = .revoking then
    let ret := l.retireNow || decide (l.ending = 3)
    let reason := if ret then 3 else l.ending
    let s := finishUnit kind unit (endStatus l.ending) s
    let s := setLease s kind unit { l with state := if ret then .retired else .free, holder := 0, endReason := reason, lastHolder := l.holder, ending := 0, endAt := 0, retireNow := false }
    let s := leaseEndEvents l.holder unit s
    resumeBatch (.revoke kind unit l.holder) ST_OK s
  else s

/-- Every unit of which a lease record differs from a FREE one that was never held. -/
def leaseUnits (s : State) : List (Nat × Nat) := s.fab.leases.map (fun p => (p.1 / 65536, p.1 % 65536))

/-- An expired lease: HELD, with a term, at or after EXPIRY (R67). -/
def expired (s : State) (l : Lease) : Bool := decide (l.state = .held ∧ 0 < l.termMs ∧ l.expiry ≤ now s)

def leaseExpiry (kind unit : Nat) (s : State) : State :=
  let l := getLease s kind unit
  if expired s l then journalUnit (startRevoke kind unit 2 s) 0x02 0x07 l.holder kind unit else s

/-- INST_LEASE_KICK renews the leases held under the current generation; a kick at EXPIRY is too late (R67). -/
def leaseKick (fn gen : Nat) (s : State) : State :=
  doorbell fn gen (fun s =>
    let renew := fun (k : Nat × Nat) (s : State) =>
      let l := getLease s k.1 k.2
      if holds s fn k.1 k.2 = true ∧ 0 < l.termMs ∧ now s < l.expiry
      then setLease s k.1 k.2 { l with expiry := now s + l.termMs * 1000000 } else s
    setDb (forEach (leaseUnits s) renew s) fn ST_OK) s

def execLeaseKick (t fn gen : Nat) (s : State) : Host.Outcome State Fault Refusal := act t (leaseKick fn gen) s
def execLeaseExpiry (t kind unit : Nat) (s : State) : Host.Outcome State Fault Refusal := act t (leaseExpiry kind unit) s
def execRevocationComplete (t kind unit : Nat) (s : State) : Host.Outcome State Fault Refusal := act t (finishRevoke kind unit) s

end Sys2Proof.Machine
end

