-- ==== Sys2Proof/Machine/Pcie.lean ====
section
/-! DEFINITION. The PCIe functions as the link sees them: the capabilities of Table 4.1, and the requests that carry what leaves the
device (R82, R87, R88, R91, R98, R99, R102, R107, R108, R110). -/

namespace Sys2Proof.Machine

/-! ### Capabilities (R82, Table 4.1) -/

/-- Class code: other display controller. -/
def CLASS_CODE : Nat := 0x038000
def TOTAL_VFS : Nat := 256

/-- TotalVFs as the SR-IOV capability reports it: 0 in Seedling mode (R409). -/
def totalVfs (s : State) : Nat := if flag s BOOT_STATUS.SEEDLING then 0 else TOTAL_VFS
def INITIAL_VFS : Nat := 256
def FIRST_VF_OFFSET : Nat := 1
def VF_STRIDE : Nat := 1
/-- System page sizes, in bytes. -/
def PAGE_SIZES : List Nat := [4096, 65536]
/-- Sizes of PF BAR0 and of BAR2 of each VF; no other BAR is implemented. -/
def BAR0_SIZE : Nat := 64 * 2 ^ 20
def BAR2_SIZE : Nat := 64 * 2 ^ 10
def PASID_BITS : Nat := 20
def PASIDS_PER_VF : Nat := 16
def PASIDS_TOTAL : Nat := 4096
def ATS_ENTRIES : Nat := 2048
def PF_VECTORS : Nat := 64
def VF_VECTORS : Nat := 8
def MAX_TAGS : Nat := 768
/-- Link speeds in MT/s and widths that it trains to. -/
def LINK_SPEEDS : List Nat := [32000, 16000, 8000, 5000, 2500]
def LINK_WIDTHS : List Nat := [8, 4, 2, 1]

/-- The function number by which ARI names function `fn`: VF n is the instance In. -/
def routingId (fn : Nat) : Nat := if fn = 0 then 0 else FIRST_VF_OFFSET + (fn - 1) * VF_STRIDE

/-- A function's configuration, as the host has set it. -/
def fnCfg (s : State) (fn : Nat) : FnCfg := Sparse.get {} s.host.fnCfg fn

/-- Max Payload Size, 128 to 512 bytes, of the physical function, which its VFs share. -/
def maxPayload (s : State) : Nat := min 512 (128 * 2 ^ bitsOf (fnCfg s 0).devCtl.toNat 7 5)

/-- Max Read Request Size, 128 to 4096 bytes. -/
def maxRead (s : State) : Nat := min 4096 (128 * 2 ^ bitsOf (fnCfg s 0).devCtl.toNat 14 12)

/-- Relaxed Ordering is enabled (R98). -/
def relaxedOn (s : State) (fn : Nat) : Bool := bit (fnCfg s fn).devCtl.toNat 4

/-- Completion Timeout is disabled for a function; else its range: A, B or C by the two upper bits of the Completion Timeout Value, the
default range where they are 0 (Table 4.1). -/
def timeoutOff (s : State) (fn : Nat) : Bool := bit (fnCfg s fn).devCtl2.toNat 4
def timeoutRange (s : State) (fn : Nat) : Option Nat :=
  let r := bitsOf (fnCfg s fn).devCtl2.toNat 3 2
  if timeoutOff s fn = true ∨ r = 3 then none else some r

/-! ### Requests (R88, R98, R108) -/

/-- A memory request on the link.  No Snoop is never set, and no request is an atomic operation. -/
structure Tlp where
  requester : Nat
  pasid : Option Nat
  relaxed : Bool
  /-- The address is one that the translation agent has given (R88). -/
  translated : Bool
  addr : Nat
  /-- The bytes written, or how many are read. -/
  data : Sum (List Byte) Nat
deriving DecidableEq, Repr

/-- The address that a request carries, through ATS translation where ATS is enabled. -/
def busAddr (s : State) (fn : Nat) (pasid : Option Nat) (a : Nat) : Nat :=
  if (fnCfg s fn).ats then Config.atsPage fn pasid (a / 4096) s.host.atsEpoch * 4096 + a % 4096 else a

/-- A range of `n` bytes in pieces of at most `m` that cross no 4 KiB boundary (R108). -/
def pieces (fuel m a n : Nat) : List (Nat × Nat) :=
  match fuel with
  | 0 => []
  | k + 1 =>
    if n = 0 then []
    else
      let z := min (min m (4096 - a % 4096)) n
      (a, z) :: pieces k m (a + z) (n - z)

/-- The write bursts of a range: of at most min(Max Payload Size, 512 B) (R108). -/
def writeTlps (s : State) (fn : Nat) (pasid : Option Nat) (relaxed : Bool) (a : Nat) (bs : List Byte) : List Tlp :=
  (pieces bs.length (min (maxPayload s) 512) a bs.length).map (fun p =>
    { requester := routingId fn, pasid := pasid, relaxed := relaxed, translated := (fnCfg s fn).ats, addr := busAddr s fn pasid p.1,
      data := .inl ((bs.drop (p.1 - a)).take p.2) })

/-- The read requests of a range: of at most min(Max Read Request Size, 4096 B) (R108). -/
def readTlps (s : State) (fn : Nat) (pasid : Option Nat) (a n : Nat) : List Tlp :=
  (pieces n (min (maxRead s) 4096) a n).map (fun p =>
    { requester := routingId fn, pasid := pasid, relaxed := false, translated := (fnCfg s fn).ats, addr := busAddr s fn pasid p.1, data := .inr p.2 })

/-- The bases of a function's rings (R87, Table 4.13). -/
def sqBase (s : State) (fn q : Nat) : Nat := rd64 s (.page fn (.SQ_BASE_LO q)) (.page fn (.SQ_BASE_HI q))
def cqBase (s : State) (fn c : Nat) : Nat := rd64 s (.page fn (.CQ_BASE_LO c)) (.page fn (.CQ_BASE_HI c))
def eqBase (s : State) (fn : Nat) : Nat := rd64 s (.page fn .EQ_BASE_LO) (.page fn .EQ_BASE_HI)

/-- The requests that carry a message of the device; ring memory is accessed without PASID, and a completion is one aligned write of
16 bytes (R88, R99).  Messages that do not cross the link have none. -/
def HostMsg.tlps (s : State) (m : HostMsg) : List Tlp :=
  match m with
  | .completion fn c i e => writeTlps s fn none false (cqBase s fn c + 16 * i) (toBytes 16 e.toNat)
  | .event fn i e => writeTlps s fn none false (eqBase s fn + 32 * i) (toBytes 32 e.toNat)
  | .msix fn v => writeTlps s fn none false ((msixWord s fn v 0).toNat + 2 ^ 32 * (msixWord s fn v 1).toNat) (toBytes 4 (msixWord s fn v 2).toNat)
  | .dma fn p a bs => writeTlps s fn p false a bs
  | .copyData fn p a bs => writeTlps s fn p (relaxedOn s fn) a bs
  | .hostRead fn p a n => readTlps s fn p a n
  | _ => []

end Sys2Proof.Machine
end

