-- ==== Sys2Proof/Machine/Spirv.lean ====
section
/-! DEFINITION. What ingest reads of SPIR-V modules itself: header, capabilities, extensions, instruction sets, entry point, models,
execution modes, interfaces and limits (R146 to R149, R153, Tables 6.1, 6.2, 6.4 and 6.5).  The numbers of SPIR-V's opcodes and operands are
SPIR-V's own (PRESUMED, log entry 204). -/

namespace Sys2Proof.Machine

/-- An instruction of a module: its opcode, word offset and operands. -/
structure SpvInst where
  op : Nat
  ofs : Nat
  args : List Nat
deriving DecidableEq, Repr

/-- The instructions of a stream of words from word offset `ofs` on; none if a length leads out of it. -/
def spvInsts (fuel ofs : Nat) (ws : List Nat) : Option (List SpvInst) :=
  match fuel, ws with
  | _, [] => some []
  | 0, _ => none
  | f + 1, w :: rest =>
    let n := w / 65536
    if n = 0 ∨ rest.length + 1 < n then none
    else (spvInsts f (ofs + n) (rest.drop (n - 1))).map ({ op := w % 65536, ofs := ofs, args := rest.take (n - 1) } :: ·)

/-- A module: its words, as its record's length gives them. -/
structure SpvModule where
  words : List Nat
  insts : List SpvInst
deriving DecidableEq, Repr

/-- Reason 0x04: magic, version 1.0 to 1.6 and length (Table 6.5). -/
def headerBad (ws : List Nat) : Bool :=
  let v := ws.getD 1 0
  decide (ws.getD 0 0 ≠ 0x07230203 ∨ v % 256 ≠ 0 ∨ 2 ^ 24 ≤ v ∨ v / 65536 ≠ 1 ∨ 6 < v / 256 % 256) || (spvInsts ws.length 5 (ws.drop 5)).isNone

def moduleOf (ws : List Nat) : SpvModule := { words := ws, insts := (spvInsts ws.length 5 (ws.drop 5)).getD [] }

def OP_EXTENSION : Nat := 10
def OP_EXT_INST_IMPORT : Nat := 11
def OP_EXT_INST : Nat := 12
def OP_MEMORY_MODEL : Nat := 14
def OP_ENTRY_POINT : Nat := 15
def OP_EXECUTION_MODE : Nat := 16
def OP_CAPABILITY : Nat := 17
def OP_CONSTANT : Nat := 43
def OP_VARIABLE : Nat := 59
def OP_SPEC_CONSTANT : Nat := 50
def OP_DECORATE : Nat := 71
def OP_MEMBER_DECORATE : Nat := 72
def OP_EXECUTION_MODE_ID : Nat := 331
def DEC_BUILTIN : Nat := 11
def DEC_LOCATION : Nat := 30

/-- The instructions of an opcode. -/
def SpvModule.all (m : SpvModule) (op : Nat) : List SpvInst := m.insts.filter (fun i => decide (i.op = op))

/-- The characters of a literal string, up to its NUL. -/
def litString (ws : List Nat) : List Nat :=
  (ws.flatMap (fun w => [w % 256, w / 256 % 256, w / 65536 % 256, w / 2 ^ 24])).takeWhile (· ≠ 0)

def chars (s : String) : List Nat := s.toList.map Char.toNat

/-- Capabilities of Table 6.1: Core, arithmetic types, storage access, subgroups and memory model. -/
def CAPABILITIES : List Nat :=
  [1, 0, 50, 51, 35, 32, 33, 5379] ++ [9, 39, 22, 11] ++ [4448, 4449, 4433, 4434, 55, 56] ++ [61, 62, 64, 63, 65] ++ [5345, 5346]

/-- Execution models: what module `k` of a record of this TYPE has to be (R146, R151). -/
def modelOf (type k : Nat) : Nat := if type = 2 then 5 else if k = 0 then 0 else 4

/-- Execution modes that an entry point of a model can declare (R146). -/
def modeOk (model mode : Nat) : Bool := if model = 4 then [7, 9, 12].contains mode else if model = 5 then [17, 38].contains mode else false

/-- Both forms that declare execution modes. -/
def SpvModule.modes (m : SpvModule) : List SpvInst :=
  m.insts.filter (fun i => decide (i.op = OP_EXECUTION_MODE ∨ i.op = OP_EXECUTION_MODE_ID))

/-- The value of a constant; of a specialisation constant, its default. -/
def SpvModule.const (m : SpvModule) (id : Nat) : Nat :=
  match (m.all OP_CONSTANT ++ m.all OP_SPEC_CONSTANT).find? (fun i => decide (i.args.getD 1 0 = id)) with
  | some i => i.args.getD 2 0
  | none => 0

/-- The workgroup size that an execution mode declares. -/
def SpvModule.groupSize (m : SpvModule) (i : SpvInst) : List Nat :=
  let v := (i.args.drop 2).take 3
  if i.args.getD 1 0 = 38 then v.map m.const else v

/-- The literal of a decoration of an id. -/
def SpvModule.decoration (m : SpvModule) (id dec : Nat) : Option Nat :=
  ((m.all OP_DECORATE).find? (fun i => decide (i.args.getD 0 0 = id ∧ i.args.getD 1 0 = dec))).map (fun i => i.args.getD 2 0)

/-! ### NonSemantic instructions (R148) -/

/-- An OpExtInstImport of a NonSemantic set. -/
def isNonSemantic (i : SpvInst) : Bool := (chars "NonSemantic.").isPrefixOf (litString (i.args.drop 1))

/-- An instruction that the translator ignores: the extension, the import of a NonSemantic set, or an instruction of one. -/
def SpvModule.ignored (m : SpvModule) (i : SpvInst) : Bool :=
  let sets := (m.all OP_EXT_INST_IMPORT).filter isNonSemantic
  decide (i.op = OP_EXTENSION) || (decide (i.op = OP_EXT_INST_IMPORT) && isNonSemantic i)
  || (decide (i.op = OP_EXT_INST) && sets.any (fun x => decide (x.args.getD 0 0 = i.args.getD 2 0)))

/-- The instructions that count, and the module's words with them alone. -/
def SpvModule.kept (m : SpvModule) : List SpvInst := m.insts.filter (fun i => !(m.ignored i))
def SpvModule.keptWords (m : SpvModule) : List Nat :=
  m.words.take 5 ++ m.kept.flatMap (fun i => (i.op + 65536 * (i.args.length + 1)) :: i.args)

/-! ### Types -/

/-- The instruction that declares type `id`. -/
def SpvModule.type (m : SpvModule) (id : Nat) : Option SpvInst :=
  m.insts.find? (fun i => decide (19 ≤ i.op ∧ i.op ≤ 32 ∧ i.args.getD 0 0 = id))

/-- The types that a struct, array, matrix or vector is made of, with their number: a struct's members one by one. -/
def SpvModule.parts (m : SpvModule) (t : SpvInst) : List (Nat × Nat) :=
  if t.op = 30 then (t.args.drop 1).map (fun e => (e, 1))
  else if t.op = 28 then [(t.args.getD 1 0, m.const (t.args.getD 2 0))]
  else if t.op = 24 ∨ t.op = 23 then [(t.args.getD 1 0, t.args.getD 2 0)]
  else []

/-- Bytes of a scalar type; a Boolean takes a word. -/
def scalarBytes (t : SpvInst) : Nat := if t.op = 20 then 4 else if t.op = 21 ∨ t.op = 22 then t.args.getD 1 0 / 8 else 0

/-- The bytes that an object of type `id` takes: those of its parts together. -/
def SpvModule.bytes (m : SpvModule) (fuel id : Nat) : Nat :=
  match fuel, m.type id with
  | 0, _ | _, none => 0
  | f + 1, some t => if m.parts t = [] then scalarBytes t else ((m.parts t).map (fun p => p.2 * m.bytes f p.1)).sum

/-- A numeric type as vertex outputs and fragment inputs are matched by: opcode, width and sign of its scalars, and their number. -/
def SpvModule.numeric (m : SpvModule) (id : Nat) : Nat × Nat × Nat × Nat :=
  let scalar := fun n (t : Option SpvInst) => match t with
    | some t => (t.op, t.args.getD 1 0, if t.op = 21 then t.args.getD 2 0 else 0, n)
    | none => (0, 0, 0, n)
  match m.type id with
  | some t => if t.op = 23 then scalar (t.args.getD 2 0) (m.type (t.args.getD 1 0)) else scalar 1 (some t)
  | none => scalar 1 none

/-- The locations that an object of type `id` takes from `loc` on, each with the type there; a vector of three or four 64-bit scalars
takes two. -/
def SpvModule.locations (m : SpvModule) (fuel loc id : Nat) : List (Nat × Nat) :=
  match fuel, m.type id with
  | 0, _ | _, none => []
  | f + 1, some t =>
    if t.op = 23 ∨ m.parts t = [] then
      (if (m.numeric id).2.1 = 64 ∧ 2 < (m.numeric id).2.2.2 then [(loc, id), (loc + 1, id)] else [(loc, id)])
    else ((m.parts t).flatMap (fun p => List.replicate (min p.2 4096) p.1)).foldl (fun l e => l ++ m.locations f (loc + l.length) e) []

/-- Depth to which a type is followed. -/
def TYPE_DEPTH : Nat := 16

/-- The type a variable points to. -/
def SpvModule.pointee (m : SpvModule) (v : SpvInst) : Nat :=
  match m.type (v.args.getD 0 0) with
  | some t => t.args.getD 2 0
  | none => 0

/-- The literal of a decoration of a struct's member. -/
def SpvModule.memberDecoration (m : SpvModule) (id k dec : Nat) : Option Nat :=
  ((m.all OP_MEMBER_DECORATE).find? (fun i => decide (i.args.getD 0 0 = id ∧ i.args.getD 1 0 = k ∧ i.args.getD 2 0 = dec))).map (fun i => i.args.getD 3 0)

/-- The decorated parts of an interface variable: the variable itself, and the members of a block. -/
def SpvModule.decorated (m : SpvModule) (v : SpvInst) (dec : Nat) : List (Nat × Nat) :=
  let ty := m.pointee v
  let members := match m.type ty with
    | some t => if t.op = 30 then ((List.range (t.args.length - 1)).filterMap (fun k => (m.memberDecoration ty k dec).map (fun x => (x, t.args.getD (k + 1) 0)))) else []
    | none => []
  (m.decoration (v.args.getD 1 0) dec).toList.map (fun x => (x, ty)) ++ members

/-- Every location of a variable, with the type there. -/
def SpvModule.interface (m : SpvModule) (v : SpvInst) : List (Nat × Nat) :=
  (m.decorated v DEC_LOCATION).flatMap (fun d => m.locations TYPE_DEPTH d.1 d.2)

/-- The variables of a storage class. -/
def SpvModule.vars (m : SpvModule) (sc : Nat) : List SpvInst := (m.all OP_VARIABLE).filter (fun v => decide (v.args.getD 2 0 = sc))

/-- Clip and cull distances that a variable declares. -/
def SpvModule.distances (m : SpvModule) (v : SpvInst) : Nat :=
  ((m.decorated v DEC_BUILTIN).map (fun d => if d.1 = 3 ∨ d.1 = 4 then
    (match m.type d.2 with | some t => if t.op = 28 then m.const (t.args.getD 2 0) else 1 | none => 0) else 0)).sum

/-- The variable with which a sum over variables goes beyond its limit. -/
def beyond (limit : Nat) (size : SpvInst → Nat) (vs : List SpvInst) : Option Nat :=
  ((vs.foldl (fun (a : Nat × Option Nat) v => let n := a.1 + size v; (n, if a.2.isNone && decide (limit < n) then some v.ofs else a.2)) (0, none))).2

/-- Input and output locations of a model (Table 6.2). -/
def locationLimit (model sc : Nat) : Nat := if sc = 3 ∧ model = 4 then 8 else 16

/-- A variable of PushConstant storage, of a set other than 0, with a binding above 255 or a location beyond its limit (R149). -/
def variableBad (m : SpvModule) (model : Nat) (i : SpvInst) : Bool :=
  let id := i.args.getD 1 0
  let sc := i.args.getD 2 0
  decide (sc = 9) || (m.decoration id 34).any (fun x => decide (x ≠ 0)) || (m.decoration id 33).any (fun x => decide (255 < x))
  || (decide (sc = 1 ∨ sc = 3) && (m.interface i).any (fun l => decide (locationLimit model sc ≤ l.1)))

/-- What variables take together is beyond a limit of R149: clip and cull distances, workgroup storage, private and function storage. -/
def storageBad (m : SpvModule) (model : Nat) : Option Nat :=
  let size := fun v => m.bytes TYPE_DEPTH (m.pointee v)
  ((if model = 0 then beyond 8 m.distances (m.vars 3) else none).or
    (if model = 5 then beyond 49152 size (m.vars 4) else none)).or (beyond 16384 size (m.vars 6 ++ m.vars 7))

/-- The workgroup size is beyond its limits (R149). -/
def groupBad (v : List Nat) : Bool :=
  let x := v.getD 0 1
  let y := v.getD 1 1
  let z := v.getD 2 1
  decide (1024 < x ∨ 1024 < y ∨ 64 < z ∨ 1024 < x * y * z)

/-- Where the first of some instructions that a reason names lies. -/
def firstOf (is : List SpvInst) (bad : SpvInst → Bool) : Option Nat := (is.find? bad).map (·.ofs)

/-- The word at which a module has a finding of its own for a reason of Table 6.5, if it has one; `type` and `k` tell its place. -/
def moduleFinding (type k reason : Nat) (ws : List Nat) : Option Nat :=
  let m := moduleOf ws
  let model := modelOf type k
  if reason = 0x04 then (if headerBad ws then some 0 else none)
  else if reason = 0x06 then
    match m.all OP_ENTRY_POINT with
    | [e] => if e.args.getD 0 0 = model then none else some e.ofs
    | [] => some 0
    | _ :: e :: _ => some e.ofs
  else if reason = 0x08 then firstOf (m.all OP_CAPABILITY) (fun i => !(CAPABILITIES.contains (i.args.getD 0 0)))
  else if reason = 0x09 then firstOf (m.all OP_EXTENSION) (fun i => decide (litString i.args ≠ chars "SPV_KHR_non_semantic_info"))
  else if reason = 0x0A then firstOf (m.all OP_EXT_INST_IMPORT) (fun i =>
    decide (litString (i.args.drop 1) ≠ chars "GLSL.std.450") && !(isNonSemantic i))
  else if reason = 0x0B then
    match firstOf (m.all OP_MEMORY_MODEL) (fun i => decide (i.args.getD 0 0 ≠ 0 ∨ (i.args.getD 1 0 ≠ 1 ∧ i.args.getD 1 0 ≠ 3))) with
    | some w => some w
    | none =>
      match firstOf m.modes (fun i => !(modeOk model (i.args.getD 1 0))) with
      | some w => some w
      | none =>
        let has := fun ms => m.modes.any (fun i => ms.contains (i.args.getD 1 0))
        if model = 4 ∧ has [7] = false ∨ model = 5 ∧ has [17, 38] = false then (m.all OP_ENTRY_POINT).head?.map (·.ofs) else none
  else if reason = 0x0D then
    ((firstOf (m.all OP_VARIABLE) (variableBad m model)).or (storageBad m model)).or
      (firstOf m.modes (fun i => modeOk 5 (i.args.getD 1 0) && groupBad (m.groupSize i)))
  else none

/-! ### The interface between stages and attributes (reason 0x07) -/

/-- A location of a vertex input has no attribute, or one whose FORMAT is not of the input's kind: R32_UINT feeds unsigned integers, every
other format floating point (Tables 5.7 and 6.3). -/
def attributeBad (m : SpvModule) (attrs : List Nat) (v : SpvInst) : Bool :=
  (m.interface v).any (fun l =>
    let n := m.numeric l.2
    match attrs[l.1]? with
    | some fmt => if fmt = 0x0D then decide (n.1 ≠ 21 ∨ n.2.2.1 ≠ 0) else decide (n.1 ≠ 22)
    | none => true)

/-- A location of a fragment input has no vertex output of its type. -/
def inputBad (vert frag : SpvModule) (v : SpvInst) : Bool :=
  let outs := (vert.vars 3).flatMap vert.interface
  (frag.interface v).any (fun l => !(outs.any (fun o => decide (o.1 = l.1 ∧ vert.numeric o.2 = frag.numeric l.2))))

/-- Where the interface of a graphics pipeline fails, in a module; `attrs` holds the formats of the record's attributes. -/
def interfaceFinding (type k : Nat) (mods : List (List Nat)) (attrs : List Nat) : Option Nat :=
  let vert := moduleOf (mods.getD 0 [])
  let frag := moduleOf (mods.getD 1 [])
  if type = 2 then none
  else if k = 0 then firstOf (vert.vars 1) (attributeBad vert attrs)
  else firstOf (frag.vars 1) (inputBad vert frag)

/-- Where validation fails in module `k` by the translator: the instruction it names among those that count (R148). -/
def validationFindings (k : Nat) (ws : List Nat) (t : Translation) : List Nat :=
  (t.findings.filter (fun f => decide (f.1 = k))).map (fun f => match (moduleOf ws).kept[f.2]? with | some i => i.ofs | none => 0)

/-- The findings of a reason: module and word, module 0 first. -/
def reasonFindings (type : Nat) (mods : List (List Nat)) (attrs : List Nat) (t : Translation) (reason : Nat) : List (Nat × Nat) :=
  (List.range mods.length).flatMap (fun k =>
    (if reason = 0x05 then validationFindings k (mods.getD k []) t
      else if reason = 0x07 then (interfaceFinding type k mods attrs).toList
      else (moduleFinding type k reason (mods.getD k [])).toList).map (fun w => (k, w)))

/-- The first reason of a list with a finding: reason, module and word (Table 6.4, Table 6.5). -/
def firstReason (type : Nat) (mods : List (List Nat)) (attrs : List Nat) (t : Translation) (rs : List Nat) : Option (Nat × Nat × Nat) :=
  match rs with
  | [] => none
  | r :: rest =>
    match reasonFindings type mods attrs t r with
    | (k, w) :: _ => some (r, k, w)
    | [] => firstReason type mods attrs t rest

end Sys2Proof.Machine
end

