-- ==== Sys2Proof/Machine/Sched.lean ====
section
/-! DEFINITION. Shader ingest, the sharing of clusters, preemption, async compute fill and the deadline scheduler (chapter 6). -/

namespace Sys2Proof.Machine

/-! ### Ingest (R146 to R156) -/

/-- The control cores take the ingest of the next waiting instance in round-robin order; one runs at a time (R154). -/
def ingestStart (s : State) : State :=
  if s.rnd.ingests.any (fun i => i.startedAt.isSome) then s
  else
    match ((List.range 257).map (fun i => (s.rnd.ingestRr + i) % 257)).find? (fun n => s.rnd.ingests.any (fun i => decide (i.inst = n))) with
    | none => s
    | some n =>
      match s.rnd.ingests.find? (fun i => decide (i.inst = n)) with
      | none => s
      | some i =>
        let rest := s.rnd.ingests.erase i
        let s := { s with rnd := { s.rnd with ingests := { i with startedAt := some (now s) } :: rest, ingestRr := (n + 1) % 257 } }
        if inSlice s n i.addr 256 then writeMem s (i.addr + 64) [0xFF] else s

/-- The status of an ingest reason (Table 6.4, Table 6.5). -/
def reasonStatus (r : Nat) : Nat :=
  if r = 0 then ST_OK else if r ≤ 2 then ST_NOT_OWNER else if r ≤ 7 then ST_BAD_DESC else if r ≤ 0x0B then ST_UNSUPPORTED else ST_NO_SPACE

/-- The fields of a pipeline record hold no reserved or out-of-range value (Table 6.3). -/
def recordGood (r : Page) : Bool :=
  let type := u8 r 0
  let attrs := u8 r 1
  decide ((type = 1 ∨ type = 2) ∧ attrs ≤ 16 ∧ u16 r 2 = 0 ∧ u64 r 8 % 4 = 0 ∧ 5 ≤ u32 r 16 ∧ u64 r 24 % 4 = 0 ∧ bytesAt r 32 32 = 0)
  && (if type = 2 then decide (attrs = 0 ∧ u32 r 20 = 0 ∧ u64 r 24 = 0) else decide (5 ≤ u32 r 20))
  && (List.range 16).all (fun i =>
    let o := 128 + 8 * i
    if i < attrs then decide (1 ≤ u8 r (o + 1) ∧ u8 r (o + 1) ≤ 0x0D ∧ u16 r (o + 4) ≤ 2048 ∧ u8 r (o + 6) ≤ 1 ∧ u8 r (o + 7) = 0)
    else decide (u64 r o = 0))

/-- The bytes of the record that the tenant writes. -/
def pipelineBytes (s : State) (addr : Nat) : List Byte := readMem s addr 64 ++ readMem s (addr + 128) 128

/-- The bytes of module `k` of a record, and its length in words. -/
def moduleWords (r : Page) (k : Nat) : Nat := if k = 0 then u32 r 16 else u32 r 20
def moduleBytes (s : State) (r : Page) (k : Nat) : List Byte := readMem s (if k = 0 then u64 r 8 else u64 r 24) (4 * moduleWords r k)

/-- The words of module `k` of a record. -/
def moduleList (s : State) (r : Page) (k : Nat) : List Nat :=
  (List.range (moduleWords r k)).map (fun i => readNum s ((if k = 0 then u64 r 8 else u64 r 24) + 4 * i) 4)

/-- Vertex and fragment module, or the compute module. -/
def modulesOf (s : State) (r : Page) : List (List Nat) := (if u8 r 0 = 2 then [0] else [0, 1]).map (moduleList s r)

/-- The firmware version that translates: the measurement of the running image. -/
def firmwareVersion (s : State) : Nat := (s.boot.pcrs.getD 2 0)

/-- The translation of the record at `addr`: a function of its bytes, its modules without NonSemantic instructions, and the firmware
version alone (R148, R150). -/
def translation (s : State) (addr : Nat) (r : Page) : Translation :=
  Config.translate (pipelineBytes s addr) ((modulesOf s r).map (fun m => (moduleOf m).keptWords)) (firmwareVersion s)

/-- The FORMATs of a record's attributes (Table 6.3). -/
def attrFormats (r : Page) : List Nat := (List.range (min (u8 r 1) 16)).map (fun k => u8 r (129 + 8 * k))

/-- The outcome of the checks of a record, in the order of Table 6.4: reason, module and word of the failure (R153, Table 6.3). -/
def ingestFinding (s : State) (n addr : Nat) (r : Page) : Nat × Nat × Nat :=
  let none_ := 0xFFFFFFFF
  if inSlice s n addr 256 = false then (0x01, 0xFF, none_)
  else if modulesInside s n r = false then (0x02, if inSlice s n (u64 r 8) (4 * u32 r 16) then 1 else 0, none_)
  else if addr % 64 ≠ 0 ∨ recordGood r = false then (0x03, 0xFF, none_)
  else
    let t := translation s addr r
    let ms := modulesOf s r
    match firstReason (u8 r 0) ms (attrFormats r) t [4, 5, 6, 7, 8, 9, 0x0A, 0x0B] with
    | some f => f
    | none =>
      if 262144 < u32 r 16 then (0x0C, 0, none_)
      else if 262144 < u32 r 20 then (0x0C, 1, none_)
      else (firstReason (u8 r 0) ms (attrFormats r) t [0x0D]).getD (0, 0xFF, none_)

/-- The key of a translation: SHA-256 of record bytes 0–63 and 128–255 with the module words (R155). -/
def cacheKey (s : State) (addr : Nat) (r : Page) : Nat := Config.sha256 (pipelineBytes s addr ++ moduleBytes s r 0 ++ moduleBytes s r 1)

def cacheUsed (s : State) : Nat := (s.rnd.cache.map (·.sizeMiB)).sum
def syncCache (s : State) : State := wrF s SHD_CACHE_USED.MIB (cacheUsed s)

/-- The unpinned entry bound least recently (R155). -/
def lruEntry (s : State) : Option CacheEntry :=
  (s.rnd.cache.filter (fun e => !e.pinned)).foldl (fun b e => match b with | none => some e | some b => if e.lastUse < b.lastUse then some e else some b) none

/-- Entries are evicted until `size` MiB fit; with every entry pinned there is none to evict (R155).  The registrations of an
evicted translation go with it. -/
def makeRoom (fuel size : Nat) (s : State) : Option State :=
  match fuel with
  | 0 => none
  | n + 1 =>
    if cacheUsed s + size ≤ 256 then some s
    else match lruEntry s with
      | none => none
      | some e =>
        let s := incF s SHD_CACHE_EVICT.COUNT
        makeRoom n size { s with rnd := { s.rnd with cache := s.rnd.cache.erase e, regs := s.rnd.regs.filter (fun r => !(decide (r.inst = e.inst ∧ r.key = e.key))) } }

/-- An address is registered; a further address than 1,024 drops the registration bound least recently (R152). -/
def register (r : Registration) (s : State) : State :=
  let regs := s.rnd.regs.filter (fun x => !(decide (x.inst = r.inst ∧ x.addr = r.addr)))
  let mine := regs.filter (fun x => x.inst = r.inst)
  let regs := if mine.length < 1024 then regs else
    match mine.foldl (fun b e => match b with | none => some e | some b => if e.lastUse < b.lastUse then some e else some b) (none : Option Registration) with
    | some old => regs.erase old
    | none => regs
  { s with rnd := { s.rnd with regs := regs ++ [r] } }

/-- MiB that a translation takes in the cache: at least one, at most all. -/
def cacheMiB (t : Translation) : Nat := max 1 (min t.sizeMiB 256)

/-- The device's bytes of a record, for an outcome (reason, module, word) (Table 6.3). -/
def writeRecord (s : State) (i : Ingest) (start : Nat) (f : Nat × Nat × Nat) (cached : Bool) : State :=
  let seq := if f.1 = 0 then i.buildSeq else readNum s (i.addr + 76) 4
  let b : Nat := at8 0 (reasonStatus f.1) + at8 1 f.1 + at8 2 f.2.1 + at8 3 (if cached then 1 else 0) + at32 4 f.2.2
    + at32 8 ((now s - start) / 1000) + at32 12 seq + at64 16 (now s)
  writeMem s (i.addr + 64) (toBytes 64 b)

/-- The translation of an accepted record, kept in the cache: found there, or stored once room is made (R155). -/
def cacheTranslation (s : State) (i : Ingest) (r : Page) : Option (Bool × Translation × State) :=
  let key := cacheKey s i.addr r
  match s.rnd.cache.find? (fun e => decide (e.inst = i.inst ∧ e.key = key)) with
  | some e => some (true, e.tr, s)
  | none =>
    let t := translation s i.addr r
    (makeRoom 257 (cacheMiB t) s).map (fun s =>
      let e : CacheEntry := { inst := i.inst, key := key, sizeMiB := cacheMiB t, pinned := false, lastUse := s.rnd.binds, compute := decide (u8 r 0 = 2), tr := t }
      (false, t, syncCache { s with rnd := { s.rnd with cache := s.rnd.cache ++ [e] } }))

/-- The registration of an accepted record (R152): its attributes are those that ATTR_COUNT counts (Table 6.3). -/
def registrationOf (s : State) (i : Ingest) (r : Page) (t : Translation) : Registration :=
  { inst := i.inst, addr := i.addr, buildSeq := i.buildSeq, compute := decide (u8 r 0 = 2), tr := t,
    attrs := (List.range (min (u8 r 1) 16)).map (fun k => u64 r (128 + 8 * k)), key := cacheKey s i.addr r, lastUse := s.rnd.binds }

/-- The stream that waited for the ingest goes on behind BIND_PIPELINE. -/
def passBind (c : Nat) (s : State) : State :=
  let x := getCtx s c
  csGoOn c (placeContext c (setCtx s c { x with stream := x.stream.map (fun t => { t with ofs := t.ofs + 12, last := t.ofs }) }))

/-- An ingest has its outcome (reason, module, word): the record shows it, and the stream goes on or stops at BIND_PIPELINE (R152,
R153). -/
def ingestResult (i : Ingest) (start : Nat) (r : Page) (f : Nat × Nat × Nat) (tr : Option (Bool × Translation)) (s : State) : State :=
  let s := if inSlice s i.inst i.addr 256 then writeRecord s i start f (match tr with | some t => t.1 | none => false) else s
  let c := i.ctx
  let x := getCtx s c
  let s := setCtx s c { x with stream := x.stream.map (fun t => { t with ingest := false }) }
  match tr with
  | some (_, t) => let g := registrationOf s i r t; passBind c (bindReg c g (register g s))
  | none => csGoOn c (stopStream c (reasonStatus f.1) (match x.stream with | some t => t.ofs | none => 0) s)

/-- The running ingest reaches its result (R153, R155). -/
def ingestComplete (s : State) : State :=
  match s.rnd.ingests.find? (fun i => i.startedAt.isSome) with
  | none => s
  | some i =>
    let start := i.startedAt.getD 0
    let s := dropIngest i.ctx s
    let r := pipelineRecord s i.addr
    let f := ingestFinding s i.inst i.addr r
    if f.1 ≠ 0 then ingestResult i start r f none s
    else match cacheTranslation s i r with
      | some (hit, t, s) => ingestResult i start r f (some (hit, t)) s
      | none => ingestResult i start r (0x0E, 0xFF, 0xFFFFFFFF) none s

/-- A reset or destroy of an instance discards its ingests, registrations and cache entries (R156). -/
def discardIngest (n : Nat) (s : State) : State :=
  let s := { s with rnd := { s.rnd with ingests := s.rnd.ingests.filter (fun i => i.inst ≠ n), regs := s.rnd.regs.filter (fun r => r.inst ≠ n), cache := s.rnd.cache.filter (fun e => e.inst ≠ n) } }
  syncIngest (syncCache s)

/-! ### Preemption (R162 to R164) -/

/-- A cluster takes the context that gets it next, as soon as it can: the one it is reserved for, else the named one (R162, R168). -/
def takeNextCtx (k : Nat) (s : State) : State :=
  let x := getCluster s k
  let want := match x.resv with | some r => some r | none => x.next
  let grant := if x.resv.isSome then none else x.next.filter (ctxReady s)
  match want.filter (fun c => canTake s c k) with
  | some c => startOn k c { x with fill := false, grant := grant } s
  | none => stopOn k { x with grant := grant } s

/-- The context is a P0 context that an enabled SHD_HDn_COMP names (R159). -/
def composes (s : State) (c : Nat) : Bool :=
  (List.range 12).any (fun h => flag s (SHD_HD_COMP.ENABLE h) && decide (rdF s (SHD_HD_COMP.CTX h) = c))

/-- The priority a context is scheduled with (R159). -/
def priority (s : State) (c : Nat) : Nat :=
  let p := rdF s (RND_CTX_CFG.PRIO c)
  if p = 0 ∧ composes s c = false then 1 else p

/-- SHD_CTXn_SCHED.DEMOTED of the contexts that are P0 (R159). -/
def syncDemoted (s : State) : State :=
  forEach (List.range 512) (fun c s =>
    let d := decide (rdF s (RND_CTX_CFG.PRIO c) = 0) && !(composes s c)
    if flag s (SHD_CTX_SCHED.DEMOTED c) = d then s else wrB s (SHD_CTX_SCHED.DEMOTED c) d) s

/-- The scheduler asks for a cluster: the request is held while an NP job has not run 50 µs, and an NP job that has run them is
preempted as an overrun (R164). -/
def schedPreempt (k : Nat) (next : Option Nat) (s : State) : State :=
  let x := getCluster s k
  match x.ctx with
  | none => s
  | some c =>
    if flag s (SHD_CTX_SCHED.NP c) = true ∧ priority s c ≠ 0 ∧ x.preempt = none then
      if now s < x.jobAt + 50000 then setCluster s k { x with npHold := true, next := next }
      else requestPreempt k next (incF s (SHD_CTX_NP_OVERRUN.COUNT c))
    else requestPreempt k next s

/-- 10 µs after the request without a boundary the cluster stops mid-wave (R162). -/
def preemptMidwave (k : Nat) (s : State) : State :=
  let x := getCluster s k
  match x.ctx, x.preempt with
  | some c, some t =>
    if now s < t + 10000 ∨ x.midwave = true then s
    else incF (setCluster s k { x with midwave := true }) (SHD_CTX_PREEMPT.COUNT c)
  | _, _ => s

/-- The preempted cluster is free (R162). -/
def preemptStop (k : Nat) (s : State) : State :=
  let x := getCluster s k
  match x.ctx, x.preempt with
  | some c, some _ => takeNextCtx k (saveStop c x.midwave s)
  | _, _ => s

/-- A cluster has resumed the oldest save of its context (R162). -/
def resumeComplete (k : Nat) (s : State) : State :=
  match (getCluster s k).ctx with
  | some c => setCtx s c { getCtx s c with saves := (getCtx s c).saves.tail }
  | none => s

/-- An NP job reaches 50 µs: the held request goes out (R164). -/
def npHoldExpiry (k : Nat) (s : State) : State :=
  let x := getCluster s k
  match x.ctx with
  | some c =>
    if x.npHold = true ∧ x.jobAt + 50000 ≤ now s then
      requestPreempt k x.next (incF (setCluster s k { x with npHold := false }) (SHD_CTX_NP_OVERRUN.COUNT c))
    else s
  | none => s

/-! ### Grants at an epoch boundary (R160) -/

/-- Contexts with work of a priority, from the rotating pointer on. -/
def readyAt (s : State) (p : Nat) : List Nat :=
  let cs := (s.rnd.ctxs.map (·.1)).filter (fun c => ctxReady s c && decide (priority s c = p))
  cs.filter (fun c => decide (s.rnd.grantRr ≤ c)) ++ cs.filter (fun c => decide (c < s.rnd.grantRr))

/-- One more cluster to each context in turn that its cap lets take one, until `n` are given, with the context that got the last. -/
def deal (fuel n : Nat) (qs : List (Nat × Nat × Nat)) (last : Option Nat) : List (Nat × Nat × Nat) × Option Nat :=
  match fuel, n with
  | 0, _ => (qs, last)
  | _, 0 => (qs, last)
  | f + 1, n + 1 =>
    match qs.findIdx? (fun q => decide (q.2.1 < q.2.2)) with
    | none => (qs, last)
    | some i =>
      match qs[i]? with
      | some q => deal f n (qs.take i ++ qs.drop (i + 1) ++ [(q.1, q.2.1 + 1, q.2.2)]) (some q.1)
      | none => (qs, last)

/-- The most clusters that a boundary grants to a context: those reserved for it count among the ones its save area covers (R163). -/
def grantCap (s : State) (c : Nat) : Nat :=
  if rdF s (INST_SHARE.SHARE (ctxHolder s c)) = 0 then 0 else maxClusters s c - (reservedFor s c).length

/-- Quotas of one priority out of `n` clusters, in proportion to SHARE, with the remainders from the rotating pointer on, which goes
past the context that got the last one (R76, R160). -/
def quotas (s : State) (n : Nat) (cs : List Nat) : List (Nat × Nat) × State :=
  let sh := fun c => rdF s (INST_SHARE.SHARE (ctxHolder s c))
  let total := (cs.map sh).sum
  let q := cs.map (fun c =>
    let cap := grantCap s c
    (c, min (n * sh c / max total 1) cap, cap))
  let (q, last) := deal 48 (n - (q.map (fun x => x.2.1)).sum) q none
  (q.map (fun x => (x.1, x.2.1)), { s with rnd := { s.rnd with grantRr := match last with | some w => (w + 1) % 512 | none => s.rnd.grantRr } })

/-- Quotas of all priorities in strict order. -/
def allQuotas (n : Nat) (ps : List Nat) (s : State) : List (Nat × Nat) × State :=
  match ps with
  | [] => ([], s)
  | p :: rest =>
    let (q, s) := quotas s n (readyAt s p)
    let (r, s) := allQuotas (n - (q.map (·.2)).sum) rest s
    (q ++ r, s)

/-- Clusters that a boundary can grant: not retired, not in reset, not reserved. -/
def grantable (s : State) : List Nat := (List.range 24).filter (fun k => usable s k && (getCluster s k).resv.isNone)

/-- A context gets a cluster: at once where it is idle, after a preemption where other work runs on it. -/
def giveCluster (c k : Nat) (s : State) : State :=
  let x := getCluster s k
  match x.ctx with
  | none => placeOn [k] (setCluster s k { x with grant := some c, fill := false })
  | some o => if o = c then setCluster s k { x with grant := some c, fill := false } else schedPreempt k (some c) (setCluster s k { x with grant := some c })

/-- `need` clusters of `ks` go to `c`: first those that run it, then idle ones, then others. -/
def pickFor (s : State) (c need : Nat) (ks : List Nat) : List Nat :=
  let mine := ks.filter (fun k => (getCluster s k).ctx = some c)
  let idle := ks.filter (fun k => (getCluster s k).ctx = none)
  let rest := ks.filter (fun k => (getCluster s k).ctx ≠ none ∧ (getCluster s k).ctx ≠ some c)
  (mine ++ idle ++ rest).take need

def grantAll (qs : List (Nat × Nat)) (ks : List Nat) (s : State) : State :=
  match qs with
  | [] => forEach ks (fun k s =>
      let x := getCluster s k
      let s := setCluster s k { x with grant := none }
      if x.ctx.isSome = true ∧ x.fill = false then schedPreempt k none s else s) s
  | (c, n) :: rest =>
    let own := pickFor s c n ks
    grantAll rest (ks.filter (fun k => !(own.contains k))) (forEach own (giveCluster c) s)

/-- The grants of an epoch boundary (R159, R160). -/
def schedEpoch (s : State) : State :=
  let s := syncDemoted s
  let ks := grantable s
  let (qs, s) := allQuotas ks.length [0, 1, 2, 3] s
  goOnAll (grantAll qs ks s)

/-! ### Async compute fill (R161) -/

/-- The context has a workgroup ready for one more cluster, and may hold one more (R161, R163). -/
def fillReady (s : State) (c : Nat) : Bool :=
  decide ((fillClusters s c).length < fillUnits s c ∧ (clustersHeld s c).length < maxClusters s c)

/-- The ready DISPATCH work that idle cluster `k` takes: highest priority, then largest SHARE, then the rotating pointer. -/
def fillChoice (s : State) (k : Nat) : Option Nat :=
  let cs := (s.rnd.ctxs.map (·.1)).filter (fun c => fillReady s c && canTake s c k)
  let cs := cs.filter (fun c => decide (s.rnd.fillRr ≤ c)) ++ cs.filter (fun c => decide (c < s.rnd.fillRr))
  let better := fun a b => decide (priority s a < priority s b) || (decide (priority s a = priority s b)
    && decide (rdF s (INST_SHARE.SHARE (ctxHolder s b)) < rdF s (INST_SHARE.SHARE (ctxHolder s a))))
  cs.foldl (fun b c => match b with | none => some c | some b => if better c b then some c else some b) none

/-- An idle unreserved cluster takes fill work; the context it is granted to keeps the grant. -/
def asyncFill (k : Nat) (s : State) : State :=
  let x := getCluster s k
  if clusterIdle s k = false ∨ x.resv.isSome = true ∨ usable s k = false ∨ x.preempt.isSome = true then s
  else match fillChoice s k with
    | none => s
    | some c => ctxGoOn c (startOn k c { x with fill := decide (x.grant ≠ some c) } { s with rnd := { s.rnd with fillRr := (c + 1) % 512 } })

/-! ### The deadline scheduler (R165 to R171) -/

def MARGIN_NS : Nat := 500000
def LEAD_NS : Nat := 200000

/-- The registers of a head in force at its next window (R171). -/
def readPlan (s : State) (h : Nat) (p : HeadPlan) : HeadPlan :=
  { p with enable := flag s (SHD_HD_COMP.ENABLE h), ctx := rdF s (SHD_HD_COMP.CTX h), need := rdF s (SHD_HD_COMP.NEED h), floorUs := rdF s (SHD_HD_EST.FLOOR_US h) }

/-- Latest start L of a window that ends at `sAt` (R166). -/
def latestStart (p : HeadPlan) (sAt : Nat) : Nat := sAt - estimate p - MARGIN_NS

/-- The frame that a head scans, counted from 1. -/
def scanFrame (s : State) (h : Nat) : Nat := frameOf s (groupOf h) + 1

/-- The window of a head is open (R167): its composition is complete once compositor work has started in it and the context is idle. -/
def windowOpen (s : State) (h : Nat) (p : HeadPlan) (sAt : Nat) : Bool :=
  p.enable && decide (now s < sAt) && decide (latestStart p sAt ≤ now s + LEAD_NS)
    && !(decide (p.frame = scanFrame s h) && p.begun && ctxIdle s p.ctx)

/-- Clusters that the open windows of a context reserve at most: its largest NEED among them (R169). -/
def wantedBy (s : State) (c : Nat) : Nat :=
  ((List.range 12).filter (fun h => (getPlan s h).open_ && decide ((getPlan s h).ctx = c))).foldl
    (fun n h => max n (min (getPlan s h).need (maxClusters s c))) 0

/-- A reservation is no larger than its context's open windows need: the highest-numbered clusters are released first, and all of them
when the last window closes (R167, R169). -/
def releaseClosed (s : State) : State :=
  forEach ((List.range 24).reverse) (fun k s =>
    let x := getCluster s k
    match x.resv with
    | some c => if (reservedFor s c).length ≤ wantedBy s c then s else setCluster s k { x with resv := none }
    | none => s) s

/-- S is reached: the reservation is released, and a composition that has not completed is a miss (R170). -/
def compositionDeadline (h : Nat) (s : State) : State :=
  let p := getPlan s h
  if p.open_ = false ∨ now s < p.s then s
  else
    let missed := !(ctxIdle s p.ctx)
    let s := setPlan s h { p with open_ := false }
    releaseClosed (if missed then incF s (SHD_HD_MISS.COUNT h) else s)

/-- The plan of a head: it follows the registers until the frame's window opens, and keeps what the window opened with until S (R171). -/
def updatePlan (h : Nat) (s : State) : State :=
  match headS s h with
  | none => setPlan s h { getPlan s h with open_ := false }
  | some sAt =>
    let s := compositionDeadline h s
    let p := getPlan s h
    let inFrame := decide (p.frame = scanFrame s h)
    let p := if inFrame then p else readPlan s h { p with open_ := false }
    if windowOpen s h p sAt then
      let p := if inFrame then p else { p with begun := false, late := false, frame := scanFrame s h }
      wrF (setPlan s h { p with open_ := true, s := sAt }) (SHD_HD_EST.E_US h) (min (estimate p / 1000) 65535)
    else setPlan s h { p with open_ := false }

/-- An element placed before the first one that it does not come after. -/
def insertBy (le : Nat → Nat → Bool) (x : Nat) (l : List Nat) : List Nat :=
  match l with
  | [] => [x]
  | y :: ys => if le x y then x :: y :: ys else y :: insertBy le x ys

/-- The heads with open windows, by S ascending, then head index ascending (R169). -/
def openHeads (s : State) : List Nat :=
  let hs := (List.range 12).filter (fun h => (getPlan s h).open_)
  hs.foldr (insertBy (fun a b => decide ((getPlan s a).s ≤ (getPlan s b).s))) []

def reservedTotal (s : State) : Nat := ((List.range 24).filter (fun k => (getCluster s k).resv.isSome)).length
def availClusters (s : State) : Nat := ((List.range 24).filter (fun k => !(clusterRetired s k))).length

/-- The clusters a reservation takes, in the order of R168: those that run the context, idle ones, then by priority of their work. -/
def reserveOrder (s : State) (c : Nat) : List Nat :=
  let free := (List.range 24).filter (fun k => usable s k && (getCluster s k).resv.isNone)
  let mine := free.filter (fun k => (getCluster s k).ctx = some c)
  let rest := free.filter (fun k => (getCluster s k).ctx ≠ some c)
  let busy := rest.filter (fun k => !(clusterIdle s k))
  let runs := fun p => (busy.filter (fun k => match (getCluster s k).ctx with | some o => decide (priority s o = p) | none => false)).reverse
  mine ++ rest.filter (clusterIdle s) ++ runs 3 ++ runs 2 ++ runs 1

/-- A cluster is reserved for a compositor context (R168). -/
def reserveCluster (c k : Nat) (s : State) : State :=
  let idle := clusterIdle s k
  let s := setCluster s k { getCluster s k with resv := some c }
  match (getCluster s k).ctx with
  | some o =>
    if o = c then noteStart c s
    else if idle then placeContext c (stopOn k (getCluster s k) s)
    else schedPreempt k (some c) s
  | none => placeContext c s

def reserveHead (h : Nat) (s : State) : State :=
  let p := getPlan s h
  let want := min p.need (maxClusters s p.ctx)
  let have_ := (reservedFor s p.ctx).length
  if want ≤ have_ then s
  else forEach ((reserveOrder s p.ctx).take (min (want - have_) (availClusters s - reservedTotal s))) (reserveCluster p.ctx) s

/-- The evaluation made every 1 µs of DTIME (R167); work that clusters took in the meantime goes on. -/
def deadlineTick (s : State) : State :=
  let s := forEach (List.range 12) updatePlan s
  let s := forEach (openHeads s) reserveHead s
  let s := forEach (openHeads s) (fun h s => placeContext (getPlan s h).ctx s) s
  goOnAll (releaseClosed s)

/-- L is reached with the reservation incomplete (R170). -/
def latestStartReached (h : Nat) (s : State) : State :=
  let p := getPlan s h
  let want := min p.need (maxClusters s p.ctx)
  let freed := (reservedFor s p.ctx).filter (fun k => let x := getCluster s k; x.ctx = none ∨ x.ctx = some p.ctx)
  if p.open_ = true ∧ p.late = false ∧ latestStart p p.s ≤ now s ∧ freed.length < want
  then incF (setPlan s h { p with late := true }) (SHD_HD_LATE.COUNT h) else s

/-! ### The meanings -/

def execIngestStart (t : Nat) (s : State) : Host.Outcome State Fault Refusal := act t ingestStart s
def execDeadlineTick (t : Nat) (s : State) : Host.Outcome State Fault Refusal := act t deadlineTick s
def execPreemptMidwaveTimeout (t k : Nat) (s : State) : Host.Outcome State Fault Refusal := act t (preemptMidwave k) s
def execPreemptStop (t k : Nat) (s : State) : Host.Outcome State Fault Refusal := act t (preemptStop k) s
def execResumeComplete (t k : Nat) (s : State) : Host.Outcome State Fault Refusal := act t (resumeComplete k) s
def execNpHoldExpiry (t k : Nat) (s : State) : Host.Outcome State Fault Refusal := act t (npHoldExpiry k) s
def execLatestStartReached (t h : Nat) (s : State) : Host.Outcome State Fault Refusal := act t (latestStartReached h) s
def execCompositionDeadline (t h : Nat) (s : State) : Host.Outcome State Fault Refusal := act t (compositionDeadline h) s
def execAsyncFill (t k : Nat) (s : State) : Host.Outcome State Fault Refusal := act t (asyncFill k) s

end Sys2Proof.Machine
end

