-- ==== Sys2Proof/Machine/Fabric.lean ====
section
/-! DEFINITION. The instance fabric: reset and destroy of instances, manager commands, SR-IOV changes and the epoch
boundary (R49 to R64, R73 to R80, R83, R459 to R461). -/

namespace Sys2Proof.Machine

def setState (s : State) (n st : Nat) : State := wrF s (INST_STATE.STATE n) st
def bumpGen (s : State) (n : Nat) : State := wrF s (INST_STATE.GEN n) ((instGen s n + 1) % 65536)

/-! ### Reset and destroy -/

/-- The units of a kind that instance `n` holds under any generation, those whose lease is ending among them. -/
def heldBy (s : State) (n kind : Nat) : List Nat :=
  ((leaseUnits s).filter (fun k => k.1 = kind ∧ (getLease s k.1 k.2).holder = n
    ∧ ((getLease s k.1 k.2).state = .held ∨ (getLease s k.1 k.2).state = .revoking))).map (·.2)

/-- Work of instance `n` is discarded: the steps of Table 3.4 that a reset and a destroy share.  A request that timed out is no longer
outstanding and stays remembered (log entry 195). -/
def discardWork (n : Nat) (s : State) : State :=
  let s := setInst s n { getInst s n with mbReq := none, inPage := 0, deficit := 0 }
  let s := resetRings n s
  let s := forEach (heldBy s n K_CTX) dropContext s
  let s := forEach (heldBy s n K_CHUNK) (fun u s => detachChunk u ST_STALE_GEN s) s
  let s := forEach (heldBy s n K_PIPE) dropFlip s
  let s := forEach (heldBy s n K_AUDIO) (silence none) s
  let s := forEach (heldBy s n K_HAPTIC) (fun u s => stopHaptic u none s) s
  let s := stopCaptures n s
  discardIngest n s

/-- A reset of instance `n` is taken (R53, R56); while RESETTING it starts no second sequence (R52). -/
def takeReset (n : Nat) (s : State) : State :=
  let st := instState s n
  let i := getInst s n
  let s := bumpGen (if st = RESETTING then s else cancelInstance n 5 s) n
  if st = RESETTING then setInst s n { i with resetAt := now s }
  else discardWork n (setState (setInst s n { i with before := st, resetAt := now s }) n RESETTING)

/-- A function-level reset that waits is complete (R56, R460). -/
def flrDone (n : Nat) (s : State) : State :=
  if (getInst s n).flr then send (setInst s n { getInst s n with flr := false }) (.flrDone n) else s

/-- The drain of a reset is over, in time or not (R56, R57). -/
def finishReset (n : Nat) (s : State) : State :=
  if instState s n ≠ RESETTING then s
  else
    let late := decide ((getInst s n).resetAt + 100000 ≤ now s)
    let s := setState s n (getInst s n).before
    let s := if late then raiseF s (INST_STATUS.DRAIN_TIMEOUT n) else s
    resumeBatch (.reset n) (if late then ST_TIMEOUT else ST_OK) (flrDone n s)

/-- The link withholds credits past t0 + 100 µs (R57). -/
def drainTimeout (n : Nat) (s : State) : State :=
  if (getInst s n).resetAt + 100000 ≤ now s then finishReset n s else s

/-- A destroy of instance `n` is taken (R53, R59). -/
def takeDestroy (n : Nat) (s : State) : State :=
  let s := bumpGen (cancelInstance n 5 s) n
  let s := discardWork n (setState (setInst s n { getInst s n with resetAt := now s }) n DESTROYING)
  forEach ((leaseUnits s).filter (fun k => (getLease s k.1 k.2).holder = n)) (fun k s => startRevoke k.1 k.2 1 s) s

/-- The destroy is complete: leases ended, slice freed and its zero-fill started (R59, R369). -/
def finishDestroy (n : Nat) (s : State) : State :=
  if instState s n ≠ DESTROYING then s
  else
    let s := forEach ((leaseUnits s).filter (fun k => (getLease s k.1 k.2).holder = n)) (fun k s => finishRevoke k.1 k.2 s) s
    let base := rdF s (INST_SLICE.BASE n)
    let size := rdF s (INST_SLICE.SIZE n)
    let s := { s with mem := { s.mem with fills := s.mem.fills ++ [(base, base + size, n)] } }
    let s := wrB (setState s n ABSENT) (INST_STATUS.SCRUB_PEND n) true
    let s := wrF (wr s (.INST_SLICE n) 0) (INST_PASIDS.COUNT n) 0
    let s := setInst s n { getInst s n with mbTimedOut := [] }
    resumeBatch (.destroy n) ST_OK (resumeBatch (.reset n) ST_OK (flrDone n s))

/-! ### SR-IOV and function-level resets (R83, R80, R460, R461) -/

/-- The instance states that a destroy applies to (Table 3.3). -/
def live (st : Nat) : Bool := decide (st = CREATED ∨ st = ENABLED ∨ st = PARKED ∨ st = RESETTING)

/-- The instances above `v` are destroyed by the host, with journal origin 0x06 (R59, Table 3.16). -/
def destroyAbove (v : Nat) (s : State) : State :=
  forEach ((List.range 256).map (· + 1))
    (fun n s => if v < n ∧ live (instState s n) = true then
        let s := takeDestroy n s
        journal s 0x06 0x04 n ST_OK 0xFF 0 0 (now s)
      else s) s

def numVFsLower (v : Nat) (s : State) : State :=
  let s := { s with host := { s.host with numVFs := v } }
  destroyAbove v s

def vfEnableClear (s : State) : State := destroyAbove 0 { s with host := { s.host with vfEnable := false } }

/-- VF Enable becomes 1 with NumVFs `v` (R459); in Seedling mode it cannot be set (R409). -/
def vfEnableSet (v : Nat) (s : State) : State :=
  if flag s BOOT_STATUS.SEEDLING then s else { s with host := { s.host with vfEnable := true, numVFs := min v (totalVfs s) } }

/-- The MSI-X table, masks and pending bits of a function return to their reset values (R461), and so does its configuration space. -/
def resetMsix (fn : Nat) (s : State) : State :=
  { s with host := { s.host with fnCfg := Sparse.erase s.host.fnCfg fn, msix := Sparse.clear s.host.msix (fn * 256) (fn * 256 + 256), msixPend := s.host.msixPend.filter (fun k => k / 64 ≠ fn) } }

/-- A VF function-level reset (R56, R460, R461); one that met INST_RESET has been taken with it (R76). -/
def vfFlr (n : Nat) (s : State) : State :=
  if n = 0 ∨ exists? s n = false then s
  else if instState s n = ABSENT then send (resetMsix n s) (.flrDone n)
  else if instState s n = DESTROYING then resetMsix n (setInst s n { getInst s n with flr := true })
  else if (getInst s n).flr = true ∧ (getInst s n).resetAt = now s then s
  else
    let s := takeReset n (resetMsix n s)
    let s := setInst s n { getInst s n with flr := true }
    journal s 0x03 0x03 n ST_OK 0xFF 0 0 (now s)

/-- A configuration write of the host: while the PF asks for a retry, it is answered with Configuration Request Retry Status alone (R394,
R404). -/
def onConfig (f : State → State) (s : State) : State := if configReady s then f s else send s .configRetry

/-- The effects of a PF function-level reset on I0 (R49, R80, R202, R447): its generation, its work as Table 3.4 has it for any instance,
the commands of the batch that have not started, and the PF's interrupts. -/
def resetPf (s : State) : State :=
  let s := bumpGen s 0
  let b := s.fab.batch.bind (fun b => if b.current = none then none else some { b with todo := [], dropped := true })
  let s := { s with fab := { s.fab with batch := b } }
  let s := cancelInstance 0 5 (discardWork 0 (resetMsix 0 s))
  journal s 0x04 0x03 0 ST_OK 0xFF 0 0 (now s)

/-- A PF function-level reset; with a conventional reset of the same stamp it is one reset (Table 15.9). -/
def pfFlr (s : State) : State :=
  if s.host.convAt = some (now s) then s
  else let s := send (resetPf s) (.flrDone 0); { s with host := { s.host with flrAt := some (now s) } }

/-! ### The epoch boundary (R61, R62) -/

/-- The share that a boundary now copies: SHARE_NEXT as it was before this DTIME (R61). -/
def nextShare (s : State) (n : Nat) : Nat :=
  let i := getInst s n
  if i.shareAt = some (now s) then i.shareWas else rdF s (INST_SHARE.SHARE_NEXT n)

def epochOf (n : Nat) (s : State) : State :=
  let share := nextShare s n
  let s := if rdF s (INST_SHARE.SHARE n) = share then s else wrF s (INST_SHARE.SHARE n) share
  let st := instState s n
  let s := if st = ENABLED ∧ share = 0 then setState s n PARKED
           else if st = PARKED ∧ 0 < share then setState s n ENABLED else s
  if (getInst s n).deficit ≠ 0 ∧ (share = 0 ∨ ringsEmpty s n = true) then setInst s n { getInst s n with deficit := 0 } else s

/-- Epochs begin at the multiples of 250,000 (R61). -/
def epochBoundary (s : State) : State := if now s % 250000 = 0 then schedEpoch (forEach (List.range 257) epochOf s) else s

/-! ### Manager commands (R73 to R75, Table 3.13) -/

/-- The command at the front of the batch, if its opcode is `op` and no command is being applied: taken at this DTIME. -/
def takeCommand (op : Nat) (s : State) : Option (State × Rec32) :=
  match s.fab.batch with
  | none => none
  | some b =>
    match b.current, b.todo with
    | none, c :: rest =>
      if cOpcode c = op then some ({ s with fab := { s.fab with batch := some { b with todo := rest } } }, c) else none
    | _, _ => none

/-- Reserved bytes of a command: byte 1, bytes 16–23 and the ARGS bytes its row leaves out (Table 3.12, R13). -/
def commandReserved (c : Rec32) (args : List (Nat × Nat)) : Bool :=
  decide (u8 c 1 = 0 ∧ u64 c 16 = 0) &&
  (List.range 10).all (fun i => args.any (fun p => decide (p.1 ≤ i + 6 ∧ i + 6 < p.1 + p.2)) || decide (u8 c (i + 6) = 0))

/-- A command with opcode `op`: refused with the status of its checks, or applied by `run`, which either gives its result
at once or leaves the batch waiting for the result point (R74). -/
def command (op : Nat) (args : List (Nat × Nat)) (check : State → Rec32 → List (Bool × Nat))
    (run : Rec32 → State → State × BatchWait) (s : State) : State :=
  match takeCommand op s with
  | none => s
  | some (s, c) =>
    let st := pickStatus ((staleCommand s c, ST_STALE_GEN) :: (!(commandReserved c args), ST_BAD_DESC) :: check s c)
    if st ≠ ST_OK then finishCommand c (now s) st s
    else
      let (s', w) := run c s
      if w = .none then finishCommand c (now s) ST_OK s'
      else match s'.fab.batch with
        | none => s'
        | some b => { s' with fab := { s'.fab with batch := some { b with current := some (c, 0, now s), wait := w } } }

/-- A tenant in one of the listed states (Table 3.13). -/
def badTarget (s : State) (n : Nat) (sts : List Nat) : Bool :=
  !(decide (1 ≤ n ∧ n ≤ 256) && sts.contains (instState s n))

/-- The slice of a new instance: chunks that hold data, in no other slice, placed range or pending scrub, and no DEAD
page (R352, R364, Table 3.13). -/
def sliceFree (s : State) (base size : Nat) : Bool :=
  decide (base + size ≤ 15872) &&
  (List.range 256).all (fun i => !(overlap base size (rdF s (INST_SLICE.BASE (i + 1))) (rdF s (INST_SLICE.SIZE (i + 1))))) &&
  s.mem.fills.all (fun f => !(overlap base size f.1 (f.2.1 - f.1))) &&
  (List.range size).all (fun i => chunkData s (base + i) && !(placed s (base + i))) &&
  s.mem.pages.all (fun p => !(decide (p.2.state = .dead ∧ base ≤ p.1 / 512 ∧ p.1 / 512 < base + size)))

/-- PASIDs allotted to all instances. -/
def pasidsUsed (s : State) : Nat := ((List.range 256).map (fun i => rdF s (INST_PASIDS.COUNT (i + 1)))).sum

def instCreate (s : State) : State :=
  command 0x01 [(6, 4), (10, 4), (14, 1)]
    (fun s c =>
      let n := cInstance c
      let pas := u8 c 14
      [(badTarget s n [ABSENT] || decide (s.host.numVFs < n) || !s.host.vfEnable, ST_BAD_DESC),
       (decide (u32 c 10 = 0 ∨ pas = 0 ∨ PASIDS_PER_VF < pas), ST_BAD_DESC),
       (!(sliceFree s (u32 c 6) (u32 c 10)) || decide (PASIDS_TOTAL < pasidsUsed s + pas), ST_NO_SPACE)])
    (fun c s =>
      let n := cInstance c
      let s := wrF (wrF (setState s n CREATED) (INST_SLICE.BASE n) (u32 c 6)) (INST_SLICE.SIZE n) (u32 c 10)
      let s := setInst s n { getInst s n with shareWas := 16 }
      (wrF (wrF (wrF s (INST_PASIDS.COUNT n) (u8 c 14)) (INST_SHARE.SHARE n) 16) (INST_SHARE.SHARE_NEXT n) 16, .none)) s

def instEnable (s : State) : State :=
  command 0x02 [] (fun s c => [(badTarget s (cInstance c) [CREATED], ST_BAD_DESC)])
    (fun c s => let n := cInstance c
      (setState s n (if 0 < rdF s (INST_SHARE.SHARE_NEXT n) then ENABLED else PARKED), .none)) s

/-- INST_RESET; a function-level reset of its target that meets it is taken first, and fails it (R76). -/
def instReset (s : State) : State :=
  let s := match batchCommand s 3 with
    | some c => if flrMeets s (cInstance c) = true ∧ cInstance c ≠ 0 then vfFlr (cInstance c) s else s
    | none => s
  command 0x03 [] (fun s c => [(badTarget s (cInstance c) [CREATED, ENABLED, PARKED, RESETTING], ST_BAD_DESC)])
    (fun c s => (takeReset (cInstance c) s, .reset (cInstance c))) s

def instDestroy (s : State) : State :=
  command 0x04 [] (fun s c => [(badTarget s (cInstance c) [CREATED, ENABLED, PARKED, RESETTING], ST_BAD_DESC)])
    (fun c s => (takeDestroy (cInstance c) s, .destroy (cInstance c))) s

/-- SHARE_SET sets SHARE_NEXT at acceptance (R61); share 0 is refused for I0. -/
def shareSet (s : State) : State :=
  command 0x05 [(6, 1)]
    (fun s c => [(decide (256 < cInstance c ∨ instState s (cInstance c) = ABSENT ∨ (cInstance c = 0 ∧ u8 c 6 = 0)), ST_BAD_DESC)])
    (fun c s =>
      let n := cInstance c
      let i := getInst s n
      let s := setInst s n { i with shareAt := some (now s), shareWas := if i.shareAt = some (now s) then i.shareWas else rdF s (INST_SHARE.SHARE_NEXT n) }
      (wrF s (INST_SHARE.SHARE_NEXT n) (u8 c 6), .none)) s

/-- A unit of a kind exists, and a bin heap chunk lies inside the target's slice (R65). -/
def unitExists (s : State) (n kind unit : Nat) : Bool :=
  decide (unit < unitsOf kind) && (decide (kind ≠ K_CHUNK) || inSlice s n (unit * CHUNK) CHUNK)

/-- What a grant does to the unit beside its lease: a context slot starts afresh for a new or rebound holder, and a value field
group forgets its records when it goes from FREE to another than its last holder (R114, R243). -/
def grantUnit (kind unit n gen : Nat) (old : Lease) (s : State) : State :=
  if kind = K_CTX then (if old.state = .held ∧ old.gen = gen then s else freshContext unit s)
  else if kind = K_FIELDS ∧ old.state = .free ∧ old.lastHolder ≠ n then clearGroup unit s
  else s

/-- The retirement of a unit with a lease kind meets its grant, and comes first (R289). -/
def grantMeetsRetire (s : State) (kind unit : Nat) : Bool :=
  (decide (kind = K_PIPE) && retireMeets s U_PIPE unit) || (decide (kind = K_HAPTIC) && retireMeets s U_HAPTIC unit)

/-- LEASE_GRANT (R75, R289). -/
def leaseGrant (s : State) : State :=
  command 0x06 [(6, 1), (8, 2), (10, 4)]
    (fun s c =>
      let l := getLease s (u8 c 6) (u16 c 8)
      let other := decide (l.state = .revoking ∨ (l.state = .held ∧ l.holder ≠ cInstance c))
      [(badTarget s (cInstance c) [CREATED, ENABLED, PARKED], ST_BAD_DESC),
       (!(unitExists s (cInstance c) (u8 c 6) (u16 c 8)), ST_BAD_DESC),
       (other && !(grantMeetsRetire s (u8 c 6) (u16 c 8)), ST_NO_SPACE),
       (decide (l.state = .retired) || grantMeetsRetire s (u8 c 6) (u16 c 8), ST_RETIRED)])
    (fun c s =>
      let kind := u8 c 6
      let unit := u16 c 8
      let n := cInstance c
      let l := getLease s kind unit
      let term := u32 c 10
      let s := setLease s kind unit { l with state := .held, holder := n, gen := instGen s n, termMs := term, granted := now s, expiry := if term = 0 then 0 else now s + term * 1000000 }
      (grantUnit kind unit n (instGen s n) l s, .none)) s

/-- LEASE_REVOKE; of a FREE unit it is ST_OK whatever INSTANCE names (Table 3.13). -/
def leaseRevoke (s : State) : State :=
  command 0x07 [(6, 1), (8, 2)]
    (fun s c =>
      let l := getLease s (u8 c 6) (u16 c 8)
      [(decide (unitsOf (u8 c 6) ≤ u16 c 8), ST_BAD_DESC),
       (decide ((l.state = .held ∨ l.state = .revoking) ∧ l.holder ≠ cInstance c), ST_NOT_OWNER),
       (decide (l.state = .retired), ST_RETIRED)])
    (fun c s =>
      let kind := u8 c 6
      let unit := u16 c 8
      if (getLease s kind unit).state = .free then (s, .none)
      else (startRevoke kind unit 1 s, .revoke kind unit (cInstance c))) s

/-- The device answers a request itself, and signals the tenant's mailbox vector (R72, R106). -/
def deviceAnswers (n seq st : Nat) (s : State) : State :=
  signal (setInst s n { getInst s n with inPage := deviceReply (instGen s n) seq st }) n 7

/-- No TENANT_REPLY within INST_MB_TIMEOUT (R72 step 6): nothing has answered before that DTIME (R32). -/
def mailboxTimeout (n : Nat) (s : State) : State :=
  match (getInst s n).mbReq with
  | none => s
  | some r =>
    if now s < r.takenAt + rdF s INST_MB_TIMEOUT.TIMEOUT_MS * 1000000 then s
    else deviceAnswers n r.seq ST_TIMEOUT (setInst s n { getInst s n with mbReq := none, mbTimedOut := r.seq :: (getInst s n).mbTimedOut.filter (· ≠ r.seq) })

/-- TENANT_REPLY (R72 steps 5 and 6); it is matched against the request outstanding before this tick (R76), and a reply with a
reserved header byte set or a reserved status code is none (R13).  A request whose time is up is answered before it. -/
def tenantReply (s : State) : State :=
  let s := match batchCommand s 8 with
    | some c => mailboxTimeout (cInstance c) s
    | none => s
  command 0x08 []
    (fun s c =>
      let i := getInst s (cInstance c)
      let seq := mSeq i.window
      let isReply := decide (mType i.window = 0x8000 ∧ u8 i.window 8 < 0x10 ∧ bytesAt i.window 9 7 = 0)
      let matched := match i.mbReq with | some r => isReply && !r.lost && decide (r.seq = seq ∧ r.takenAt < now s) | none => false
      let late := isReply && i.mbTimedOut.contains seq && !matched
      [(badTarget s (cInstance c) [CREATED, ENABLED, PARKED, RESETTING], ST_BAD_DESC), (!matched && !late, ST_BAD_DESC), (late, ST_TIMEOUT)])
    (fun c s =>
      let n := cInstance c
      let i := getInst s n
      let page : Page := BitVec.ofNat 2048 (setBits i.window.toNat 47 32 (instGen s n))
      (signal (setInst s n { i with inPage := page, mbReq := none }) n 7, .none)) s

/-! ### BATCH (R73) -/

/-- The manager's doorbell submits the batch in the outbound page (R73). -/
def batch (gen : Nat) (page : Page) (s : State) : State :=
  let s := setInst s 0 { getInst s 0 with outPage := page }
  if gen ≠ instGen s 0 ∨ flrMeets s 0 = true then incF s (INST_STALE_WRITE.COUNT 0)
  else if s.fab.batch.isSome then incF s (INST_MB_OVERRUN.COUNT 0)
  else
    let count := u8 page 2
    let seq := u32 page 4
    if headerGood page then
      let b : Batch := { seq := seq, count := count, todo := pageCommands page count, results := [], current := none, wait := .none, dropped := false }
      skipReserved 9 { s with fab := { s.fab with batch := some b } }
    else
      let cs := if 1 ≤ count ∧ count ≤ 7 then pageCommands page count else []
      sendBatchReply count seq (now s) (cs.map (fun c => commandResult c ST_BAD_DESC (genOf s (cInstance c)) 0 (now s))) s

/-! ### Tenant mailboxes (R71, R72) -/

/-- A SETUP payload holds no reserved KIND and a clear reserved byte, as far as LENGTH reaches (R13, Table 3.10). -/
def setupGood (p : Page) : Bool :=
  (decide (mLength p = 0) || decide (1 ≤ u8 p 16 ∧ u8 p 16 ≤ 7)) && (decide (mLength p < 2) || decide (u8 p 17 = 0))

/-- A request is good: type LEASE_REQUEST to QUERY, LENGTH up to 240, STATUS and reserved bytes 0 (Table 3.9); of a LEASE_REQUEST and
a LEASE_RELEASE the device checks the header only (Table 3.1). -/
def requestGood (p : Page) : Bool :=
  decide (1 ≤ mType p ∧ mType p ≤ 4 ∧ mLength p ≤ 240 ∧ bytesAt p 8 8 = 0) && (decide (mType p ≠ 3) || setupGood p)

/-- A latched mailbox doorbell of instance `n` is served (R72). -/
def serveRequest (n gen : Nat) (page : Page) (s : State) : State :=
  doorbell n gen (fun s =>
    let s := mailboxTimeout n s
    if (getInst s n).mbReq.isSome then setDb (incF s (INST_MB_OVERRUN.COUNT n)) n ST_NO_SPACE
    else
      let s := setDb s n ST_OK
      let st := pickStatus [(decide (mGen page ≠ gen), ST_STALE_GEN), (!(requestGood page), ST_BAD_DESC)]
      if st ≠ ST_OK then deviceAnswers n (mSeq page) st s
      else
        let i := getInst s n
        let s := setInst s n { i with mirror := page, mbReq := some { seq := mSeq page, takenAt := now s }, mbTimedOut := i.mbTimedOut.filter (· ≠ mSeq page) }
        postEvent s 0 EV_MAILBOX n 0 n) s

/-- Another mailbox doorbell of this DTIME tick waits behind the one at hand (R76). -/
def mailboxMeets (s : State) : Bool :=
  s.pending.any (fun c => match c with
    | .leaseRequest t _ _ _ => decide (t = now s)
    | .leaseRelease t _ _ _ => decide (t = now s)
    | .setup t _ _ _ => decide (t = now s)
    | .query t _ _ _ => decide (t = now s)
    | .registerWrite t fn off size _ => decide (t = now s ∧ fn ≠ 0 ∧ size = 4 ∧ off = 0x8000 + (Reg.page fn .INST_MB_DOORBELL).key % 2 ^ 32)
    | _ => false)

/-- The mailbox doorbells of one tick are served round-robin from the pointer, which moves past each winner (R76). -/
def serveMailboxes (s : State) : State :=
  let p := s.fab.mbRr
  let order := ((List.range 257).map (fun i => (p + i) % 257)).flatMap (fun n => s.fab.mbLatch.filter (fun r => decide (r.1 = n)))
  forEach order (fun r s => let s := serveRequest r.1 r.2.1 r.2.2 s
    { s with fab := { s.fab with mbRr := (r.1 + 1) % 257 } }) { s with fab := { s.fab with mbLatch := [] } }

def latchMailbox (n gen : Nat) (page : Page) (s : State) : State :=
  let s := setInst s n { getInst s n with outPage := page }
  { s with fab := { s.fab with mbLatch := s.fab.mbLatch ++ [(n, gen, page)] } }

/-- A tenant writes its outbound page and rings its mailbox doorbell, which is latched, or only counted where the tenant is gone; with the
last doorbell of the tick they are served (R72, R76). -/
def tenantRequest (n gen : Nat) (page : Page) (s : State) : State :=
  if n = 0 ∨ exists? s n = false then s
  else
    let gone := decide (instState s n = ABSENT ∨ instState s n = DESTROYING)
    let s := if gone then incF s (INST_STALE_WRITE.COUNT n) else latchMailbox n gen page s
    if mailboxMeets s then s else serveMailboxes s

/-! ### The meanings -/

def execBatch (t gen : Nat) (page : Page) (s : State) : Host.Outcome State Fault Refusal := act t (onBar0 (batch gen page)) s
def execInstCreate (t : Nat) (s : State) : Host.Outcome State Fault Refusal := act t instCreate s
def execInstEnable (t : Nat) (s : State) : Host.Outcome State Fault Refusal := act t instEnable s
def execInstReset (t : Nat) (s : State) : Host.Outcome State Fault Refusal := act t instReset s
def execInstDestroy (t : Nat) (s : State) : Host.Outcome State Fault Refusal := act t instDestroy s
def execShareSet (t : Nat) (s : State) : Host.Outcome State Fault Refusal := act t shareSet s
def execLeaseGrant (t : Nat) (s : State) : Host.Outcome State Fault Refusal := act t leaseGrant s
def execLeaseRevoke (t : Nat) (s : State) : Host.Outcome State Fault Refusal := act t leaseRevoke s
def execTenantReply (t : Nat) (s : State) : Host.Outcome State Fault Refusal := act t tenantReply s
def execEpochBoundary (t : Nat) (s : State) : Host.Outcome State Fault Refusal := act t epochBoundary s
def execVfFlr (t n : Nat) (s : State) : Host.Outcome State Fault Refusal := act t (onConfig (vfFlr n)) s
def execResetComplete (t n : Nat) (s : State) : Host.Outcome State Fault Refusal := act t (finishReset n) s
def execDrainTimeout (t n : Nat) (s : State) : Host.Outcome State Fault Refusal := act t (drainTimeout n) s
def execDestroyComplete (t n : Nat) (s : State) : Host.Outcome State Fault Refusal := act t (finishDestroy n) s
def execNumvfsLower (t v : Nat) (s : State) : Host.Outcome State Fault Refusal := act t (onConfig (numVFsLower v)) s
def execVfEnableClear (t : Nat) (s : State) : Host.Outcome State Fault Refusal := act t (onConfig vfEnableClear) s
def execVfEnableSet (t v : Nat) (s : State) : Host.Outcome State Fault Refusal := act t (onConfig (vfEnableSet v)) s
def execPfFlr (t : Nat) (s : State) : Host.Outcome State Fault Refusal := act t (onConfig pfFlr) s
def execLeaseRequest (t n gen : Nat) (page : Page) (s : State) : Host.Outcome State Fault Refusal := act t (tenantRequest n gen page) s
def execLeaseRelease (t n gen : Nat) (page : Page) (s : State) : Host.Outcome State Fault Refusal := act t (tenantRequest n gen page) s
def execSetup (t n gen : Nat) (page : Page) (s : State) : Host.Outcome State Fault Refusal := act t (tenantRequest n gen page) s
def execQuery (t n gen : Nat) (page : Page) (s : State) : Host.Outcome State Fault Refusal := act t (tenantRequest n gen page) s
def execMailboxTimeout (t n : Nat) (s : State) : Host.Outcome State Fault Refusal := act t (mailboxTimeout n) s

end Sys2Proof.Machine
end

