-- ==== Sys2Proof/Machine/Retire.lean ====
section
/-! DEFINITION. Retirement of a unit at the end of its fault's reaction, and its return to service (R70, R289 to R291). -/

namespace Sys2Proof.Machine

/-- The lease kind whose units a retirement kind names, if any (Table 3.5, Table 11.5). -/
def leaseKindOf (kind : Nat) : Option Nat := if kind = U_PIPE then some K_PIPE else if kind = U_HAPTIC then some K_HAPTIC else none

/-- The unit's bit in the SHL_RET_ registers; pages are counted (Table 11.9). -/
def retBit (kind unit : Nat) (b : Bool) (s : State) : State :=
  if kind = U_HEAD then wrBit s .SHL_RET_HEAD unit b
  else if kind = U_PIPE then wrBit s (.SHL_RET_PIPE (unit / 32)) (unit % 32) b
  else if kind = U_CLUSTER then wrBit s .SHL_RET_CLUSTER unit b
  else if kind = U_TDM then wrBit s .SHL_RET_PORTS unit b
  else if kind = U_HAPTIC then wrBit s .SHL_RET_PORTS (4 + unit) b
  else if kind = U_TOUCH then wrBit s .SHL_RET_PORTS (20 + unit) b
  else if b then incF s SHL_RET_PAGES.COUNT else s

/-- What becomes of the unit itself at its retirement (R290, Table 7.6, R144, R324, R348, R330). -/
def holdUnit (kind unit : Nat) (s : State) : State :=
  if kind = U_PIPE then wrB s (LYR_STATUS.RETIRED unit) true
  else if kind = U_CLUSTER then retireCluster unit s
  else if kind = U_TDM then retirePort unit s
  else if kind = U_HAPTIC then retireHaptic unit s
  else if kind = U_TOUCH then retireTouchPort unit s
  else s

/-- A unit in service again (R291). -/
def serveAgain (kind unit : Nat) (s : State) : State :=
  if kind = U_PIPE then wrB s (LYR_STATUS.RETIRED unit) false
  else if kind = U_CLUSTER then wrBit s .RND_CLUSTER_RETIRED unit false
  else if kind = U_TDM then
    let s := stopPort unit s
    if flag s (AUD_T_CFG.EN unit) then startPort unit s else s
  else if kind = U_HAPTIC then setHapState s unit (if flag s (HAP_K_CFG.EN unit) then HK_IDLE else HK_OFF)
  else if kind = U_TOUCH then wrF s (TCH_P_STATUS.STATE unit) (if flag s (TCH_P_CFG.EN unit) then TP_ENUMERATING else TP_OFF)
  else s

/-- The lease record of a retired unit (R70): its holder, and the lease ended. -/
def retireLease (kind unit : Nat) (s : State) : Nat × State :=
  let l := getLease s kind unit
  match l.state with
  | .held => (l.holder, startRevoke kind unit 3 s)
  | .revoking => (l.holder, setLease s kind unit { l with retireNow := true })
  | .free => (0, setLease s kind unit { l with state := .retired, endReason := 3 })
  | .retired => (0, s)

/-- The lease of a retired unit ends, with the journal entry of origin 0x05; a unit without a lease kind is journalled with ARGS
zero and INSTANCE 0 (R70, R78). -/
def retireRecord (kind unit : Nat) (s : State) : State :=
  match leaseKindOf kind with
  | some k =>
    let (holder, s) := retireLease k unit s
    journalUnit s 0x05 0x07 holder k unit
  | none => journalUnit s 0x05 0x07 0 0 0

/-- The retirement that a fault left due (R289). -/
def retireUnit (d : RetireDue) (s : State) : State :=
  let s := { s with shl := { s.shl with retired := (d.kind, d.unit) :: s.shl.retired, retiredAt := (d.kind, d.unit, now s) :: s.shl.retiredAt.filter (fun x => decide (x.2.2 = now s)), due := s.shl.due.filter (fun x => !(decide (x.kind = d.kind ∧ x.unit = d.unit))) } }
  let s := retBit d.kind d.unit true (holdUnit d.kind d.unit (retireRecord d.kind d.unit s))
  let s := if d.kind = U_PIPE then staleRow d.unit s else s
  let f : FaultRep := { id := d.faultId, kind := d.kind, unit := d.unit, inst := d.inst, detail := d.detail, sub := d.sub }
  let s := writeLog s 2 (faultBlk d.faultId) 0x04 (if d.kind = U_PAGE then 0 else d.unit) (d.faultId + d.kind * 256)
  faultEvents f 2 d.count s

/-- The retirement due of a unit. -/
def dueOf (s : State) (kind unit : Nat) : Option RetireDue := s.shl.due.find? (fun d => decide (d.kind = kind ∧ d.unit = unit))

/-- The reaction of the fault that retires a unit has ended; a page's ends with its remap sequence (R289, R363). -/
def unitRetire (kind unit : Nat) (s : State) : State :=
  if kind = U_PAGE then s
  else match dueOf s kind unit with
    | some d => retireUnit d s
    | none => s

/-! ### Unretirement (R291) -/

/-- How many units a kind has; pages are not bounded by the UNIT field. -/
def unitsOfKind (kind : Nat) : Nat :=
  if kind = U_HEAD then 12 else if kind = U_PIPE then 96 else if kind = U_CLUSTER then 24 else if kind = U_TDM then 4
  else if kind = U_HAPTIC then 16 else if kind = U_TOUCH then 8 else 128

/-- A unit in use: a head or a pipe with active ENABLE 1, or any other unit whose lease is not RETIRED. -/
def unitInUse (s : State) (kind unit : Nat) : Bool :=
  if kind = U_HEAD then headOn s.dsp.active unit
  else if kind = U_PIPE then aFlag s (LYR_HEAD.ENABLE unit)
  else match leaseKindOf kind with
    | some k => decide ((getLease s k unit).state ≠ .retired)
    | none => false

/-- SHL_UNRETIRE with GO. -/
def unretireGo (s : State) : State :=
  let kind := rdF s SHL_UNRETIRE.KIND
  let unit := rdF s SHL_UNRETIRE.UNIT
  let st := pickStatus [(!(retirable kind), ST_BAD_DESC), (retirable kind && unitInUse s kind unit, ST_BAD_DESC), (safe s, ST_SAFE_STATE),
    (decide (kind = U_PAGE), ST_UNSUPPORTED)]
  if st = ST_OK ∧ isRetired s kind unit = true then
    wrF { s with shl := { s.shl with selfTest := some (kind, unit), testFailed := false } } SHL_UNRETIRE.RESULT 0xFF
  else wrF s SHL_UNRETIRE.RESULT st

/-- A write of SHL_UNRETIRE: discarded with a UNIT beyond the kind's range (R299), or with GO while a test runs (R291). -/
def writeUnretire (v : Nat) (s : State) : State :=
  let go := bit v 31
  if unitsOfKind (bitsOf v 15 12) ≤ bitsOf v 6 0 ∨ (go = true ∧ s.shl.selfTest.isSome = true) then logDiscard s (Reg.SHL_UNRETIRE).key
  else
    let s := writeFields s .SHL_UNRETIRE v
    if go then unretireGo s else s

/-- A unit returns to service, its lease FREE and its count cleared (R70, R291). -/
def unretire (kind unit : Nat) (s : State) : State :=
  let s := { s with shl := { s.shl with retired := s.shl.retired.filter (· ≠ (kind, unit)), faults := Sparse.set [] s.shl.faults (kind * 16777216 + unit) [] } }
  let s := serveAgain kind unit (retBit kind unit false s)
  let s := match leaseKindOf kind with
    | some k => journalUnit (setLease s k unit { getLease s k unit with state := .free, endReason := 0, lastHolder := 0 }) 0x07 0 0 k unit
    | none => journalUnit s 0x07 0 0 0 0
  writeLog s 0 (kindBlk kind) 0x05 unit (kind * 256)

/-- The self-test ends; a fault of the unit during it fails it. -/
def selfTestDone (pass : Bool) (s : State) : State :=
  match s.shl.selfTest with
  | none => s
  | some (kind, unit) =>
    let ok := pass && !s.shl.testFailed
    let s := { s with shl := { s.shl with selfTest := none, testFailed := false } }
    if ok then wrF (unretire kind unit s) SHL_UNRETIRE.RESULT ST_OK else wrF s SHL_UNRETIRE.RESULT ST_FAULT_PERMANENT

def execUnitRetire (t kind unit : Nat) (s : State) : Host.Outcome State Fault Refusal := act t (unitRetire kind unit) s
def execUnretire (t : Nat) (v : Word) (s : State) : Host.Outcome State Fault Refusal := act t (writeUnretire v.toNat) s
def execUnretireSelftestComplete (t : Nat) (pass : Bool) (s : State) : Host.Outcome State Fault Refusal := act t (selfTestDone pass) s

end Sys2Proof.Machine
end

