-- ==== Sys2Proof/Machine/Memory.lean ====
section
/-! DEFINITION. Memory: requests, the device MMU, ECC errors and what they lead to, patrol scrub, the remap of pages, zero-fill
and changes of ECC (R355 to R369, Table 11.4). -/

namespace Sys2Proof.Machine

/-! ### The page map (R367) -/

/-- First page of the spare pool, and its pages. -/
def SPARE_BASE : Nat := (REGION31 + 0x14200000) / 4096
def SPARES : Nat := 16384

/-- A page's map entry as it reads (Table 14.6). -/
def entryWord (s : State) (p : Nat) : Nat :=
  let e := pageEntry s p
  let st := match e.state with | .normal => 0 | .copying => 1 | .remapped => 2 | .dead => 3
  let pend := s.mem.fills.any (fun f => decide (f.1 ≤ p / 512 ∧ p / 512 < f.2.1 ∧ Sparse.get 0 s.mem.filled f.1 < (p + 1 - f.1 * 512) * 64))
  at32 0 (e.target.getD p) + at16 4 (pageOwner s p) + at8 6 st + at8 7 ((if eccOn s (p / 262144) then 1 else 0) + (if pend then 2 else 0))

/-! ### Page remap (R363, R364) -/

/-- The lowest free spare that a page may take: the last 256 only for region 31. -/
def spareFor (s : State) (p : Nat) : Option Nat :=
  ((List.range (if p / 262144 = 31 then SPARES else SPARES - 256)).map (· + SPARE_BASE)).find? (fun q => !(s.mem.sparesUsed.contains q))

def setPage (p : Nat) (e : PageEntry) (s : State) : State := { s with mem := { s.mem with pages := Sparse.set {} s.mem.pages p e } }

/-- The remap sequence of a page begins; with no spare the page is DEAD, and the retirement complete (Table 14.5, R364). -/
def startRemap (p : Nat) (s : State) : State :=
  match spareFor s p with
  | some q =>
    let s := setPage p { target := some q, state := .copying } s
    wrF { s with mem := { s.mem with sparesUsed := q :: s.mem.sparesUsed } } MEM_SPARE_FREE.PAGES (rdF s MEM_SPARE_FREE.PAGES - 1)
  | none =>
    let s := incF (setPage p { state := .dead } s) MEM_DEAD.COUNT
    match dueOf s U_PAGE p with
    | some d => retireUnit d s
    | none => s

/-- The bytes of page `q` as page `p` holds them. -/
def copyPage (p q : Nat) (s : State) : State :=
  let moved := (s.mem.bytes.filter (fun b => decide (b.1 / 4096 = p))).map (fun b => (b.1 % 4096 + q * 4096, b.2))
  let kept := Sparse.clear s.mem.bytes (q * 4096) (q * 4096 + 4096)
  let marks := (s.mem.poison.filter (fun k => decide (k / 64 = p))).map (fun k => k % 64 + q * 64)
  { s with mem := { s.mem with
      bytes := moved.foldl (fun m b => Sparse.set 0 m b.1 b.2) kept
      poison := s.mem.poison.filter (fun k => decide (k / 64 ≠ p ∧ k / 64 ≠ q)) ++ marks
      flaws := s.mem.flaws.filter (fun f => decide (f.1 / 64 ≠ p ∧ f.1 / 64 ≠ q)) } }

/-- Pages that page `p` stands in for have `q` for it (R363, R366). -/
def retarget (p q : Nat) (s : State) : State :=
  let was := fun (e : Nat × PageEntry) => decide (e.2.state = .remapped ∧ e.2.target = some p)
  { s with
    mem := { s.mem with pages := s.mem.pages.map (fun e => if was e then (e.1, { e.2 with target := some q }) else e) }
    shl := { s.shl with pages := s.shl.pages.map (fun x => if x.2 = p then (x.1, q) else x) } }

/-- A fault against a page; where it retires the page, the remap begins (R287, R363). -/
def pageFault (id cls p : Nat) (s : State) : State :=
  let was := retireIsDue s U_PAGE p
  let s := reportFault { id := id, kind := U_PAGE, unit := p, cls := cls } s
  if was = false ∧ retireIsDue s U_PAGE p = true then startRemap p s else s

/-! ### Protected surfaces (Table 11.4) -/

/-- The plate's bytes meet the 64-byte block. -/
def plateHas (q : Plate) (b : Nat) : Bool := decide (q.addr < b * 64 + 64 ∧ b * 64 < q.addr + 4 * q.w * q.h)

/-- Plate store: the plates of the block are to be rewritten, and the regions that show them guarded. -/
def losePlates (b : Nat) (s : State) : State :=
  forEach (List.range s.art.plates.length) (fun p s =>
    match s.art.plates[p]? with
    | none => s
    | some q =>
      if plateHas q b = false then s
      else forEach (platePlaces s p) (fun k s => setRegion s k.1 k.2 { getRegion s k.1 k.2 with plateDue := some p, plateOk := false }) (markPlate p true s)) s

/-- A record of the value store is lost. -/
def loseRecord (f : Nat) (s : State) : State :=
  let x := getField s f
  if x.record.isSome then setField s f { x with record := none, prev := none, lost := true } else s

/-- Value store: both records of the block are lost, and the block is written anew without them. -/
def loseRecords (b : Nat) (s : State) : State :=
  let f := (b * 64 - VALUE_STORE) / 32
  loseRecord (f + 1) (loseRecord f { s with mem := freshWords s.mem (b * 64) 64 })

/-- Journal backing: entries still held on chip are rewritten, the others of the page read as zero. -/
def rewriteJournal (p : Nat) (s : State) : State :=
  let n := rdF s INST_JBACK.SIZE * 65536
  let slot := (p * 4096 - rdF s INST_JBACK.BASE * CHUNK) / 32
  let next := nextJseq s
  let held := (List.range 8192).filterMap (fun i => if i < next ∧ 1 ≤ next - 1 - i then some (next - 1 - i) else none)
  let entry := fun i => match held.find? (fun j => decide (j % n = slot + i)) with
    | some j => (Sparse.get 0 s.fab.journal (j % 8192)).toNat
    | none => 0
  writeMem s (p * 4096) ((List.range 128).flatMap (fun i => toBytes 32 (entry i)))

/-- Translation cache: the entries on the page are discarded.  Where an entry lies in the cache is not the spec's: which ones
these are is open. -/
def loseTranslations (s : State) : State :=
  let gone := fun (e : CacheEntry) => bit (fresh s) (s.rnd.cache.findIdx (fun x => x == e))
  let cache := s.rnd.cache.filter (fun e => !(gone e))
  let regs := s.rnd.regs.filter (fun r => !(s.rnd.cache.any (fun e => gone e && decide (e.inst = r.inst ∧ e.key = r.key))))
  syncCache (spend { s with rnd := { s.rnd with cache := cache, regs := regs } })

/-- The block lies in the range of chunks. -/
def blockIn (r : Option (Nat × Nat)) (b : Nat) : Bool := rangeHas r (b * 64 / CHUNK)

/-- A block of a protected surface. -/
def protectedBlock (s : State) (b : Nat) : Bool :=
  blockIn s.mem.plateStore b || blockIn (fontRange s) b || blockIn (journalRange s) b
  || decide (VALUE_STORE ≤ b * 64 ∧ b * 64 < SHADER_CACHE + 2 ^ 28)

/-- A stored block that holds one: fault 0x12 rather than 0x11. -/
def protected? (s : State) (k : Nat) : Bool := (nameBlocks s.mem k).any (protectedBlock s)

/-- What becomes of a protected surface's content. -/
def loseContent (b : Nat) (s : State) : State :=
  if blockIn s.mem.plateStore b then losePlates b s
  else if blockIn (fontRange s) b then { s with val := { s.val with rewriting := true } }
  else if blockIn (journalRange s) b then rewriteJournal (b / 64) s
  else if b * 64 < VALUE_STORE then s
  else if b * 64 < SHADER_CACHE then loseRecords b s
  else if b * 64 < SHADER_CACHE + 2 ^ 28 then loseTranslations s
  else s

/-! ### Errors (R360, R361) -/

/-- The error that a stored block's codeword holds: 0 none, 1 correctable, 2 uncorrectable.  A poison marker reads as uncorrectable;
with ECC off none is detected. -/
def errorOf (s : State) (k : Nat) : Nat :=
  if eccOn s (k / 16777216) = false then 0 else if s.mem.poison.contains k then 2 else Sparse.get 0 s.mem.flaws k

/-- A codeword's error comes about: one that is met by the next request to the block (R360). -/
def addFlaw (k err : Nat) (s : State) : State :=
  if err = 0 ∨ eccOn s (k / 16777216) = false ∨ s.mem.poison.contains k = true then s
  else { s with mem := { s.mem with flaws := Sparse.set 0 s.mem.flaws k (max (min err 2) (Sparse.get 0 s.mem.flaws k)) } }

def lastError (b : Nat) (ue : Bool) (s : State) : State :=
  wrB (wrF (wrF s MEM_ECC_LAST_LO.ADDR_LO (b * 64)) MEM_ECC_LAST_HI.ADDR_HI (b * 64 / 2 ^ 32)) MEM_ECC_LAST_HI.UE ue

/-- A corrected error: counted, and fault 0x10 for its page. -/
def corrected (k : Nat) (s : State) : State := pageFault 0x10 1 (k / 64) (lastError k false (incF s MEM_ECC_CE.COUNT))

/-- An uncorrectable error: counted, and fault 0x11 or 0x12 for its page. -/
def uncorrectable (k : Nat) (s : State) : State :=
  let s := lastError k true (incF s MEM_ECC_UE.COUNT)
  if protected? s k then forEach (nameBlocks s.mem k) (fun b s => if protectedBlock s b then loseContent b s else s) (pageFault 0x12 2 (k / 64) s)
  else pageFault 0x11 2 (k / 64) s

/-- A request meets the error `e` of a block, which may have been rewritten since (R361). -/
def meetError (k e : Nat) (s : State) : State := if e = 0 then s else if e = 1 then corrected k s else uncorrectable k s

/-- The block is written back corrected, or reads as uncorrectable from here on until it is written whole (R360, R361). -/
def markBlock (k : Nat) (s : State) : State :=
  let mark := decide (Sparse.get 0 s.mem.flaws k = 2) && !(s.mem.poison.contains k)
  { s with mem := { s.mem with flaws := Sparse.set 0 s.mem.flaws k 0, poison := if mark then k :: s.mem.poison else s.mem.poison } }

/-- A request meets what a stored block's codeword holds. -/
def meetBlock (k : Nat) (s : State) : State := if errorOf s k = 0 then s else meetError k (errorOf s k) (markBlock k s)

/-- The copy completes, its reads having met what the old page's codewords hold: REMAPPED, the pair recorded, and the retirement completed (Table 14.5). -/
def remapComplete (p : Nat) (s : State) : State :=
  let e := pageEntry s p
  match e.state, e.target with
  | .copying, some q =>
    let s := forEach ((List.range 64).map (fun i => p * 64 + i)) meetBlock { s with touched := { addr := p * 4096, len := 4096 } :: { addr := q * 4096, len := 4096 } :: s.touched }
    let s := setPage p { target := some q, state := .remapped } (retarget p q (copyPage p q s))
    let s := { s with shl := { s.shl with pages := s.shl.pages ++ [(p, q)] } }
    match dueOf s U_PAGE p with
    | some d => retireUnit d s
    | none => s
  | _, _ => s

/-- The latch point of a field: an uncorrectable error of its record is a fault of the value store's page (R246, R248, Table 11.4). -/
def fieldLatch (f : Nat) (ecc : Bool) (s : State) : State :=
  let a := VALUE_STORE + 32 * f
  let s := if ecc then addFlaw (storedBlock s.mem (a / 64)) 2 s else s
  if fdEnable (getField s f).active then latchField f (poisonedRange s a 32) (touch s a 32) else s

/-! ### Requests (R355 to R357, R366, R368) -/

/-- A zero-fill under way that writes block `b`. -/
def fillOf (s : State) (b : Nat) : Option (Nat × Nat × Nat) := s.mem.fills.find? (fun f => decide (f.1 * 32768 ≤ b ∧ b < f.2.1 * 32768))

/-- The access is inside what its source reaches: an instance, or the device itself (0x101 and above), whose fills write the pages
of a freed slice too (R366, R369). -/
def mmuOk (s : State) (src b : Nat) (k : Traffic) : Bool :=
  if src ≤ 256 then reaches s src (b * 64) 64 && (decide (src = 0) || decide (pageOwner s (b / 64) = src))
  else decide (0x1FE ≤ pageOwner s (b / 64)) || (decide (k = .zeroFill) && (fillOf s b).isSome)

/-- What a read of block `b` delivers: in the page map, its entries (R367). -/
def blockData (s : State) (b : Nat) : List Byte :=
  if REGION31 ≤ b * 64 ∧ b * 64 < VALUE_STORE then (List.range 8).flatMap (fun i => toBytes 8 (entryWord s ((b * 64 - REGION31) / 8 + i)))
  else readMem s (b * 64) 64

/-- A whole-block write arrives behind older requests to the block: they still meet the error it held, the first of them alone one
that it corrects (R357, R360). -/
def rewrite (c k : Nat) (s : State) : State :=
  let x := getChannel s c
  let e := errorOf s k
  let mine := fun (r : MemReq) => decide (r.block = k) && !r.rewritten
  let first := (oldestReq (x.queue.filter mine)).map (·.seq)
  setChannel s c { x with queue := x.queue.map (fun r =>
    if mine r then { r with rewritten := true, err := if e = 2 ∨ first = some r.seq then e else 0 } else r) }

/-- A fill is over: its pages' marks are clear, and SCRUB_PEND of its instance with the last of them (R369). -/
def endFill (f : Nat × Nat × Nat) (s : State) : State :=
  let s := { s with mem := { s.mem with fills := s.mem.fills.erase f, filled := Sparse.set 0 s.mem.filled f.1 0 } }
  if f.2.2 ≠ 0 ∧ s.mem.fills.any (fun x => decide (x.2.2 = f.2.2)) = false then wrB s (INST_STATUS.SCRUB_PEND f.2.2) false else s

/-- A fill has written block `b`, in order from its first one on. -/
def fillGoesOn (b : Nat) (s : State) : State :=
  match fillOf s b with
  | none => s
  | some f =>
    let n := Sparse.get 0 s.mem.filled f.1
    if b ≠ f.1 * 32768 + n then s
    else if b + 1 = f.2.1 * 32768 then endFill f s
    else { s with mem := { s.mem with filled := Sparse.set 0 s.mem.filled f.1 (n + 1) } }

/-- A request joins the queue of the channel that holds its stored block, which it wakes (R374). -/
def enqueue (c : Nat) (r : MemReq) (s : State) : State :=
  let s := { s with mem := { s.mem with nextSeq := s.mem.nextSeq + 1 } }
  let x := getChannel s c
  setChannel s c { x with queue := x.queue ++ [{ r with seq := s.mem.nextSeq - 1, arrive := now s }], lastReq := now s }

/-- A request arrives: one that fails the MMU's check delivers zeros marked poisoned, and a write of it is discarded (R368).  A
write is visible from here on (R357), and a fill writes whole blocks of zeros (R369).  `err` is an error that its codeword holds by now. -/
def arrive (src addr : Nat) (k : Traffic) (write : Option (Nat × List Byte)) (err : Nat) (s : State) : State :=
  let b := addr % 2 ^ 35 / 64
  if mmuOk s src b k = false then
    let s := incF s MEM_MMU_FAULT.COUNT
    match write with
    | some _ => s
    | none => { s with mem := { s.mem with lastData := List.replicate 64 0, lastPoison := true } }
  else
    let q := storedBlock s.mem b
    let c := channelAt s (q * 64)
    let s := addFlaw q err (wakeChannel c s)
    let w := if k = .zeroFill then some (0, List.replicate 64 0) else write.map (fun w => (w.1 % 64, w.2.take (64 - w.1 % 64)))
    let r : MemReq := { seq := 0, arrive := 0, cls := trafficClass k, fill := decide (k = .zeroFill), inst := src, block := q, write := w, data := blockData s b, poisoned := storedDead s.mem (b * 64) }
    let s := match w with
      | some w => putMem (if w.2.length = 64 then rewrite c q s else s) (b * 64 + w.1) w.2
      | none => s
    enqueue c r (if k = .zeroFill then fillGoesOn b s else s)

/-- A channel serves a request: a read delivers its data, and what its codeword holds is met by a read and by a write of less than
a whole block (R360, R361).  It serves none in a pause (R372). -/
def serve (c : Nat) (s : State) : State :=
  let x := getChannel s c
  match if paused s c then none else pickChannel s x with
  | none => s
  | some (r, b, row, hits) =>
    let s := setChannel s c { x with queue := x.queue.filter (fun q => decide (q.seq ≠ r.seq)), openRows := Sparse.set (0, 0) x.openRows b (row, hits), rr := (b + 1) % 16 }
    let e := if r.rewritten then r.err else errorOf s r.block
    let meet := fun s => if r.rewritten then meetError r.block e s else meetBlock r.block s
    match r.write with
    | some w => if w.2.length = 64 then s else meet s
    | none =>
      if r.patrol then meet s
      else meet { s with mem := { s.mem with lastData := r.data, lastPoison := r.poisoned || decide (e = 2) } }

/-- `n` requests of a channel are served. -/
def serveN (c n : Nat) (s : State) : State := forEach (List.range n) (fun _ s => serve c s) s

/-- The channel that serves accesses of block `b`. -/
def channelOf (s : State) (b : Nat) : Nat := channelAt s (storedBlock s.mem b * 64)

/-- A request arrives at its channel, which then serves `n` of its requests. -/
def memoryRequest (src addr : Nat) (k : Traffic) (write : Option (Nat × List Byte)) (err n : Nat) (s : State) : State :=
  serveN (channelOf s (addr % 2 ^ 35 / 64)) n (arrive src addr k write err s)

/-! ### Patrol scrub (R362) -/

/-- A data block of a region with ECC on. -/
def patrolBlock (s : State) (b : Nat) : Bool := eccOn s (b / 16777216) && decide (b % 16777216 < 0xF00000)

/-- The next block of the patrol after `b`: the next one of its region, or the first of the next region with ECC on. -/
def patrolNext (s : State) (b : Nat) : Nat :=
  if patrolBlock s (b + 1) = true ∧ b % 16777216 + 1 < 16777216 then b + 1
  else
    let r := b / 16777216
    (((List.range 32).map (fun i => (r + 1 + i) % 32)).find? (eccOn s)).getD 31 * 16777216

/-- Patrol scrub reads its next block: a request of class 5 at the block's channel, which then serves `n` of its requests; what the
read finds is handled without a reader (R361, R362, R374).  `err` is an error that the codeword holds by now. -/
def patrolRead (err n : Nat) (s : State) : State :=
  let b := s.mem.patrol
  let s := { s with mem := { s.mem with patrol := patrolNext s b } }
  if patrolBlock s b then
    let q := storedBlock s.mem b
    let c := channelAt s (q * 64)
    let s := addFlaw q err (wakeChannel c s)
    serveN c n (enqueue c { seq := 0, arrive := 0, cls := trafficClass .patrol, inst := 0x1FF, block := q, write := none, patrol := true } s)
  else s

/-! ### Traffic of the engines (R355, R361, R374) -/

/-- The channels that hold blocks of a range. -/
def touchesChannel (s : State) (t : Access) (c : Nat) : Bool :=
  (List.range (ceilDiv (t.addr % 64 + t.len) 64)).any (fun i => decide (channelOf s (t.addr / 64 + i) = c))

/-- The errors that the accesses of a command found, each block once. -/
def foundErrors (ts : List Access) : List (Nat × Nat) := (ts.flatMap (·.found)).eraseDups

/-- The accesses of a command's engines wake the channels that they reach and restart their idle time (R374). -/
def wakeTouched (s : State) : State :=
  let ts := s.touched
  forEach ((List.range 4).filter (fun c => ts.any (fun t => touchesChannel s t c))) (fun c s =>
    let s := wakeChannel c s
    setChannel s c { getChannel s c with lastReq := now s }) { s with touched := [] }

/-- What the memory accesses of a command's engines do to the memory: they wake its channels, and what their codewords hold is met,
once for each block (R361, R374). -/
def settleMem (s : State) : State :=
  forEach (foundErrors s.touched) (fun f s =>
    if errorOf s f.1 = f.2 then meetBlock f.1 s else if eccOn s (f.1 / 16777216) then meetError f.1 f.2 s else s) (wakeTouched s)

/-- No block of memory is known to be in error, and no page is DEAD. -/
def memClean (s : State) : Bool := s.mem.poison.isEmpty && s.mem.flaws.isEmpty && s.mem.pages.all (fun p => decide (p.2.state ≠ .dead))

/-- A command with effect `f` whose engines access memory; in memory without errors they meet none. -/
def engineWork (f : State → State) (s : State) : State := if memClean s then wakeTouched (f s) else settleMem (f s)

/-! ### Zero-fill and changes of ECC (R359, R369) -/

/-- The fill that starts at chunk `k` completes: every block that it had not written yet holds zeros. -/
def fillComplete (k : Nat) (s : State) : State :=
  match s.mem.fills.find? (fun f => decide (f.1 = k)) with
  | none => s
  | some f => endFill f (zeroMem s (f.1 * CHUNK) (f.2.1 * CHUNK))

/-- The region holds a slice or pending scrub. -/
def regionSlices (s : State) (r : Nat) : Bool :=
  (List.range 256).any (fun i => overlap (r * 512) 512 (rdF s (INST_SLICE.BASE (i + 1))) (rdF s (INST_SLICE.SIZE (i + 1))))
  || s.mem.fills.any (fun f => overlap (r * 512) 512 f.1 (f.2.1 - f.1))

/-- The region holds a placed range. -/
def regionPlaced (s : State) (r : Nat) : Bool :=
  [fontRange s, s.mem.plateStore, journalRange s].any (fun x => match x with | some (b, z) => overlap (r * 512) 512 b z | none => false)

/-- A write of MEM_ECC_EN (R359): discarded where a region whose bit changes holds a slice, a placed range or pending scrub; a
region whose bit changes is zero-filled.  Under SETUP_LOCK its bits do not change. -/
def eccChange (v : Nat) (s : State) : State :=
  let old := (rd s .MEM_ECC_EN).toNat
  if locked s then writeFields s .MEM_ECC_EN v
  else
    let moved := (List.range 31).filter (fun r => decide (bit v r ≠ bit old r))
    if moved.any (fun r => regionSlices s r || regionPlaced s r) then logDiscard s (Reg.MEM_ECC_EN).key
    else
      let s := writeFields s .MEM_ECC_EN v
      { s with mem := { s.mem with fills := s.mem.fills ++ moved.map (fun r => (r * 512, r * 512 + 512, 0)) } }

def execMemoryRequest (t src addr : Nat) (k : Traffic) (write : Option (Nat × List Byte)) (err n : Nat) (s : State) : Host.Outcome State Fault Refusal :=
  actIn 4 t (memoryRequest src addr k write err n) s
def execPatrolScrubRead (t : Nat) (find : PatrolFind) (s : State) : Host.Outcome State Fault Refusal :=
  actIn 4 t (patrolRead find.err find.served) s
def execZeroFillComplete (t k : Nat) (s : State) : Host.Outcome State Fault Refusal := actIn 4 t (fillComplete k) s
def execEccRegionChange (t : Nat) (v : Word) (s : State) : Host.Outcome State Fault Refusal := act t (onBar0 (eccChange v.toNat)) s

end Sys2Proof.Machine
end

