-- ==== Sys2Proof/Machine/Shallot.lean ====
section
/-! DEFINITION. Shallot: the fault bus, the watchdogs and monitors, the manager's kicks, and host presence (R280 to R288, R292, R296,
Tables 11.2 and 11.3). -/

namespace Sys2Proof.Machine

/-! ### Host presence (R296) -/

/-- ABSENT_REASON: the lowest reason that holds. -/
def absentReason (s : State) : Nat := if s.shl.linkDown then 1 else if s.shl.perstLow then 2 else if s.shl.mgrExpired then 3 else 0

/-- HOST_ABSENT and ABSENT_REASON follow; a change is logged (Table 11.8, machine 0x05). -/
def refreshHost (s : State) : State :=
  let old := rdF s SHL_STATUS.ABSENT_REASON
  let new := absentReason s
  let s := wrB (wrF s SHL_STATUS.ABSENT_REASON new) SHL_STATUS.HOST_ABSENT (decide (new ≠ 0))
  if old = new then s else logState s .shl 5 0 old new

/-- The link is out of L0.  Whether its reference clock is present no command tells: CLK_STATUS.PCIE_REF is open until L0 (R388). -/
def linkOff (s : State) : State :=
  spend (wrF { s with host := { s.host with linkUp := false } } CLK_STATUS.PCIE_REF (fresh s % 2))

/-- The link has been out of L0 for 10 ms. -/
def linkDown10ms (s : State) : State :=
  let s := linkOff s
  refreshHost { s with shl := { s.shl with linkDown := true } }

/-- The link enters L0, which it does only with its reference clock present and in range (R388). -/
def linkL0 (s : State) : State :=
  let s := wrB s CLK_STATUS.PCIE_REF true
  refreshHost { s with host := { s.host with linkUp := true }, shl := { s.shl with linkDown := false } }

/-- SHL_MGR_KICK (R284). -/
def mgrKick (gen : Nat) (s : State) : State :=
  if gen ≠ instGen s 0 then incF s (INST_STALE_WRITE.COUNT 0)
  else if rdF s SHL_MGR_WD.PERIOD_MS = 0 then s
  else refreshHost { s with shl := { s.shl with mgrKick := some (now s), mgrExpired := false } }

/-- The manager watchdog expires at or after the last kick plus the period (R283). -/
def mgrExpiry (s : State) : State :=
  match s.shl.mgrKick with
  | none => s
  | some k => if now s < k + rdF s SHL_MGR_WD.PERIOD_MS * 1000000 then s else refreshHost { s with shl := { s.shl with mgrExpired := true } }

/-! ### Watchdogs and monitors (Table 11.2) -/

/-- A fault of class safe state. -/
def safeFault (id : Nat) (s : State) : State := reportFault { id := id, cls := 3 } s

/-- A fault of Shallot itself, which no module reset holds; while one does, no event can go out (R281, R292, R393). -/
def shallotFault (id : Nat) (s : State) : State :=
  if running s then safeFault id s else enterSafe id (faultLog { id := id, cls := 3 } 3 0 s)

/-- The manager command in progress completes with ST_FAULT_TRANSIENT: its change was not taken (R288). -/
def cutCommand (s : State) : State :=
  match s.fab.batch with
  | none => s
  | some b =>
    match b.current, b.todo with
    | none, c :: rest => finishCommand c (now s) ST_FAULT_TRANSIENT { s with fab := { s.fab with batch := some { b with todo := rest } } }
    | _, _ => s

/-- The control cores are restarted (R288): requests outstanding time out, and an ingest in progress and a link training restart.
`taken`: the change of a manager command in progress was taken. -/
def restartCores (taken : Bool) (s : State) : State :=
  let lose := fun (i : Inst) => { i with mbReq := i.mbReq.map (fun r => { r with lost := true }) }
  let again := fun (i : Ingest) => { i with startedAt := i.startedAt.map (fun _ => now s) }
  let s := if taken then s else cutCommand s
  let s := forEach (List.range 12) (fun h s => setHead s h { getHead s h with lastFirst := false }) s
  { s with fab := { s.fab with insts := s.fab.insts.map (fun p => (p.1, lose p.2)) }, rnd := { s.rnd with ingests := s.rnd.ingests.map again } }

def controlCoreFault (taken : Bool) (s : State) : State := restartCores taken (reportFault { id := 0x0A, kind := U_CORES } s)

/-- Fault 0x0D on a head: its frame after the next commit point sends the transition pattern (Table 11.3). -/
def headTiming (h : Nat) (s : State) : State :=
  setHead (reportFault { id := 0x0D, kind := U_HEAD, unit := h } s) h { getHead s h with patternNext := true }

/-- Fault 0x0D counts for every enabled head of the group; one that is retired and disabled reports it (R288). -/
def groupTiming (g : Nat) (s : State) : State :=
  if 3 ≤ g then s
  else forEach (headsOf g) (fun h s => if headOn s.dsp.active h then headTiming h s else reportIdle { id := 0x0D, kind := U_HEAD, unit := h } s) s

/-- Frame period × 1.01 + 1 ms after the group's last commit point (Table 11.2). -/
def frameWdEnd (s : State) (g : Nat) : Nat := (getGroup s g).commitAt + ceilDiv (framePeriod s g * 101) 100 + 1000000

/-- The frame watchdog of a group expires, once for a commit point. -/
def frameWd (g : Nat) (s : State) : State :=
  let x := getGroup s g
  if 3 ≤ g ∨ now s < frameWdEnd s g ∨ x.wdFor = some x.commitAt then s
  else groupTiming g (setGroup s g { x with wdFor := some x.commitAt })

/-- A 100 ms window of the Shallot oscillator, in which DTIME advanced by `adv` ns: more than 1,000 ppm from 100 ms is fault 0x06. -/
def dtimeWindow (adv : Nat) (s : State) : State := if adv + 100000 < 100000000 ∨ 100100000 < adv then safeFault 6 s else s

/-! ### The fault bus (R285, R286) -/

/-- The reaction of an Artichoke fault found on head `h`, region `r` (Table 10.5). -/
def artReaction (h r code line : Nat) (s : State) : State :=
  if 12 ≤ h then s
  else if code = 1 then
    let x := getRegion s h r
    if x.sigGuard = true ∨ x.sigDue.isSome = true then s else artFault h r 1 true (setRegion s h r { x with sigDue := some (now s), matched := 0 })
  else if code = 2 then plateScanFault h r line s
  else if code = 3 then
    match regionPlate s h r with
    | some p => forEach (platePlaces s p) (plateFaultAt 3 p) (markPlate p true s)
    | none => s
  else if code = 7 then writeStatusBlock h (setSinkGuard h true (artFault h 0 7 true s))
  else if 4 ≤ code ∧ code ≤ 6 then linkLost (View.lead s.dsp.active h) (setSinkState h (if code = 4 then 3 else if code = 5 then 4 else 5) (artFault h 0 code true s))
  else s

/-- A fault on the fault bus, by its ID.  `unit` is the unit of Table 11.3: a channel, a cluster, a pipe, a group for 0x0D, a head for
0x0E, head × 16 + region for 0x0F, a 64-byte block of memory for 0x10 to 0x12, a port or a channel; for 0x05 a DETAIL of 0 is the
unlocked root PLL (R388); `line`, `col` and `last` place a pipe's fault pixels and the failed line of 0x0E. -/
def faultReport (id unit detail line col last : Nat) (retryOk : Bool) (s : State) : State :=
  if id = 0 then s
  else if id = 5 then safeFault 5 (if detail = 0 then wrB s CLK_STATUS.ROOT_LOCK false else s)
  else if id ≤ 8 then safeFault id s
  else if id = 9 then (if unit < 4 then reportFault { id := 9, kind := U_CHANNEL, unit := unit } s else s)
  else if id = 0x0A then controlCoreFault retryOk s
  else if id = 0x0B then (if 24 ≤ unit ∨ 3 < detail then s else if detail = 3 then failedReset unit s else clusterFault unit detail retryOk s)
  else if id = 0x0C then (if detail < 3 then pipeFault unit detail line col last s else s)
  else if id = 0x0D then groupTiming unit s
  else if id = 0x0E then
    (if unit < 12 then setHead (reportFault { id := 0x0E, kind := U_HEAD, unit := unit } s) unit { getHead s unit with patternFrom := some (min ((getHead s unit).patternFrom.getD (line + 1)) (line + 1)) } else s)
  else if id = 0x0F then artReaction (unit / 16) (unit % 16) detail line s
  else if id = 0x10 then meetError (unit % 2 ^ 29) 1 s
  else if id = 0x11 ∨ id = 0x12 then meetError (unit % 2 ^ 29) 2 s
  else if id = 0x13 then portFault unit s
  else if id = 0x14 then
    (if 16 ≤ unit ∨ detail = 0 then overcurrent unit s
     else if hapOn s unit = false then reportIdle { id := 0x14, kind := U_HAPTIC, unit := unit, detail := min detail 3 } s
     else if detail ≤ 2 then endDrive unit (tellDrive unit ST_FAULT_TRANSIENT (hapFault unit detail s))
     else endDrive unit (hapFault unit 3 s))
  else if id = 0x15 then
    (if unit < 8 ∧ flag s (TCH_P_CFG.EN unit) = true then
      let s' := reportFault { id := 0x15, kind := U_TOUCH, unit := unit } s
      if isRetired s U_TOUCH unit then s' else resetTouchPort unit s'
     else if unit < 8 then reportIdle { id := 0x15, kind := U_TOUCH, unit := unit } s
     else s)
  else s

def execLockstepMismatch (t : Nat) (s : State) : Host.Outcome State Fault Refusal := actPd0 t (shallotFault 1) s
def execShallotCoreWdExpiry (t : Nat) (s : State) : Host.Outcome State Fault Refusal := actPd0 t (shallotFault 3) s
def execGroupFrameWdExpiry (t g : Nat) (s : State) : Host.Outcome State Fault Refusal := act t (frameWd g) s
def execDtimeMonitorWindow (t adv : Nat) (s : State) : Host.Outcome State Fault Refusal := act t (dtimeWindow adv) s
def execManagerWdExpiry (t : Nat) (s : State) : Host.Outcome State Fault Refusal := act t mgrExpiry s
def execMgrKick (t gen : Nat) (s : State) : Host.Outcome State Fault Refusal := act t (mgrKick gen) s
def execLinkDown10ms (t : Nat) (s : State) : Host.Outcome State Fault Refusal := act t linkDown10ms s
def execPcieLinkL0 (t : Nat) (s : State) : Host.Outcome State Fault Refusal := actIn 3 t linkL0 s

end Sys2Proof.Machine
end

