-- ==== Sys2Proof/Machine/Power.lean ====
section
/-! DEFINITION. Power input, domains, temperature and resets (R377 to R398), and the pins of PD0 (R294, R381). -/

namespace Sys2Proof.Machine

/-! ### Pins -/

/-- SAFE_STATE_N is released to high impedance (R294). -/
def safeStateReleased (s : State) : Bool :=
  s.pwr.pd0 && running s && flag s SHL_STATUS.LOADED && !(flag s SHL_STATUS.SAFE) && !(flag s BOOT_STATUS.SEEDLING)

/-- PWR_WARN_N is driven low (R381). -/
def pwrWarnLow (s : State) : Bool := flag s PWR_STATUS.BROWNOUT

/-! ### Domains (R383 to R385) -/

/-- The power-up order of Table 15.4. -/
def powerOrder : List Nat := [1, 2, 4, 5, 3, 6, 12]

/-- The power-up sequence begins: module reset asserted, PD1 switched on. -/
def powerUp (s : State) : State :=
  { s with pwr := { s.pwr with phase := .held, kept := false, seq := powerOrder, rising := [] } }

/-- The start condition of Table 15.1, with VIN recovered and no thermal condition (R378, R391, Table 15.9). -/
def startAllowed (vin store : Nat) (s : State) : Bool :=
  decide (6000 ≤ vin ∧ vin ≤ 40000 ∧ 34000 ≤ store) && s.pwr.pwrEn && s.pwr.pd0 && !s.pwr.hot && !s.pwr.openSwitch
  && !(flag s PWR_STATUS.BROWNOUT)

/-- The domains are off and wait for a start. -/
def waitsForPower (s : State) : Bool := decide (s.pwr.phase = .held ∧ s.pwr.kept = false ∧ s.pwr.seq = [])

def tryPowerUp (vin store : Nat) (s : State) : State := if startAllowed vin store s = true ∧ waitsForPower s = true then powerUp s else s

/-- Units still retired are held out of service again after a module reset (R289), and their pages read from their spares (R365). -/
def retireAgain (s : State) : State :=
  let s := forEach s.shl.retired (fun k s => if k.1 = U_PAGE then s else holdUnit k.1 k.2 s) s
  let pairs := s.shl.pages
  let dead := s.shl.retired.filter (fun k => decide (k.1 = U_PAGE) && !(pairs.any (fun p => decide (p.1 = k.2))))
  let s := forEach pairs (fun p s => setPage p.1 { target := some p.2, state := .remapped } s) s
  let s := forEach dead (fun k s => setPage k.2 { state := .dead } s) s
  let s := { s with mem := { s.mem with sparesUsed := pairs.map (·.2) } }
  wrF (wrF s MEM_SPARE_FREE.PAGES (SPARES - pairs.length)) MEM_DEAD.COUNT dead.length

/-- The blocks of PD1 leave reset: the root PLL has locked and the boot ROM runs (R393). -/
def releaseFirst (s : State) : State := wrB { s with pwr := { s.pwr with phase := .first } } CLK_STATUS.ROOT_LOCK true

/-- The locks as the clock monitor sees them once the root PLL runs: the pixel PLLs run whenever PD6 is on (R387, R397). -/
def lockClocks (s : State) : State :=
  let s := wrB s CLK_STATUS.ROOT_LOCK true
  if domainGood s 6 then wrF s CLK_STATUS.PIX_LOCK 7 else s

/-- Every other block leaves reset: the device epoch (R23, R393). -/
def releaseSecond (s : State) : State :=
  refreshHost (retireAgain { s with pwr := { s.pwr with phase := .run }, time := {}, meet := {} })

/-- What follows from a domain's rails being good (Table 15.4). -/
def domainUp (d : Nat) (s : State) : State :=
  if d = 1 then releaseFirst s
  else if d = 2 then (if s.pwr.phase = .first then releaseSecond s else s)
  else if d = 6 then wrF s CLK_STATUS.PIX_LOCK 7
  else s

/-- A domain reports its rails good: the next one of the power-up order is switched on, or an on-demand domain is on. -/
def domainReports (d : Nat) (s : State) : State :=
  if s.pwr.rising.any (fun x => decide (x.1 = d)) then
    wrBit { s with pwr := { s.pwr with rising := s.pwr.rising.filter (fun x => decide (x.1 ≠ d)) } } .PWR_DOMAIN d true
  else if s.pwr.seq.head? = some d ∨ (d = 5 ∧ s.pwr.seq.head? = some 4) then
    domainUp d (wrBit { s with pwr := { s.pwr with seq := s.pwr.seq.filter (· ≠ d) } } .PWR_DOMAIN d true)
  else s

/-- PD10 or PD11 has held no context and no reservation for GATE_IDLE_US (R385). -/
def renderGate (d : Nat) (s : State) : State :=
  if (d ≠ 10 ∧ d ≠ 11) ∨ flag s PWR_CTRL.RENDER_GATE = false ∨ domainBusy s (d - 10) = true
    ∨ now s < Sparse.get 0 s.rnd.idleSince (d - 10) + rdF s PWR_CTRL.GATE_IDLE_US * 1000 then s
  else switchOff d { s with pwr := { s.pwr with gated := if domainGood s d then some (d, now s) else s.pwr.gated } }

/-- The render domains while they are not gated: on, but for PD11 at throttle step 4 and above (R385). -/
def renderOn (s : State) : State :=
  if flag s PWR_CTRL.RENDER_GATE then s
  else
    let s := switchOn 10 s
    if rdF s PWR_THROTTLE.STEP < 4 then switchOn 11 s else s

/-! ### Module reset (R392, R393, R395) -/

def CAUSE_COLD : Nat := 0
def CAUSE_PWR_EN : Nat := 1
def CAUSE_PWR_RESET : Nat := 2
def CAUSE_BROWN_OUT : Nat := 3
def CAUSE_THERMAL : Nat := 4
def CAUSE_RETRY : Nat := 5

/-- Registers that a module reset keeps (R395, R447), with the live values of the PD0 monitors. -/
def keptRegs (s : State) : State → State := fun r =>
  let copy := fun (r : State) (x : Reg) => wr r x (rd s x)
  [Reg.SHL_LOG_HEAD, .SHL_RET_HEAD, .SHL_RET_PIPE 0, .SHL_RET_PIPE 1, .SHL_RET_PIPE 2, .SHL_RET_CLUSTER, .SHL_RET_PORTS, .SHL_RET_PAGES,
   .PWR_STATUS, .PWR_IIN, .PWR_DOMAIN].foldl copy r

/-- The order of Table 15.5. -/
def downOrder : List Nat := [13, 10, 11, 7, 8, 9, 12, 6, 3, 4, 5, 2, 1]

/-- The orderly power-down: each domain but PD0 is switched off in its turn (Table 15.5). -/
def powerDown (s : State) : State :=
  let s := forEach downOrder (fun d s => if domainGood s d then send (switchOff d s) (.domainOff d) else switchOff d s) s
  wr { s with pwr := { s.pwr with kept := false, seq := [], rising := [], phase := .held } } .CLK_STATUS 0

/-- A module reset begins: everything outside PD0 returns to its reset values but what Table 15.8 keeps; `off` with the domains
switched off.  A time state other than FREE changes to FREE, which is logged (Table 2.2). -/
def moduleReset (cause : Nat) (off : Bool) (s : State) : State :=
  if s.pwr.phase ≠ .run then (if off then powerDown (flashCut s) else s)
  else
    let s := if off then flashCut s else flashDone s
    let s0 : State :=
      { pending := s.pending, free := s.free, out := s.out, flash := s.flash, otp := s.otp,
        time := { run := false, acc := 0 },
        boot := { store0 := s.boot.store0, store1 := s.boot.store1 },
        host := { perst := s.host.perst },
        shl := { firmware := s.shl.firmware, log := s.shl.log, retired := s.shl.retired, pages := s.shl.pages, perstLow := s.shl.perstLow, moduleResets := s.shl.moduleResets + 1 },
        hap := heldHaptics s,
        pwr := { phase := .held, kept := true, pwrEn := s.pwr.pwrEn, openSwitch := s.pwr.openSwitch, rideAt := s.pwr.rideAt.map (fun _ => none),
                 hot := s.pwr.hot, seq := powerOrder.filter (fun d => !(domainGood s d)), rising := [] } }
    let s' := wrF (keptRegs s s0) PWR_STATUS.RESET_CAUSE cause
    let s' := wr s' .CLK_STATUS (rd s .CLK_STATUS)
    let s' := writeLog s' 0 .shl 0x0A 0 (s.shl.moduleResets + 1)
    let old := rdF s TIME_STATUS.STATE + 4 * rdF s TIME_STATUS.SOURCE_ACTIVE
    let s' := if old = 0 then s' else logState s' .time 0x01 0 old 0
    if off then powerDown s' else forEach [7, 8, 9, 10, 11, 13] switchOff s'

/-- The stages of a module reset whose domains stay powered (R393); PD2 is good but in a start that failed before it was. -/
def stageRelease (s : State) : State :=
  if s.pwr.kept = false then s
  else match s.pwr.phase with
    | .held => releaseFirst s
    | .first => if domainGood s 2 then releaseSecond s else s
    | .run => s

/-- PWR_RESET (R398). -/
def pwrReset (v : Nat) (s : State) : State :=
  if v % 65536 ≠ 0x5EED then logDiscard s (Reg.PWR_RESET).key
  else if bit v 31 then moduleReset CAUSE_PWR_RESET false s else s

/-! ### The input (R377, R378, R381) -/

/-- The monitors' readings: VIN in mV, the store in mV (reported in 0.25 V units), the input current in mA (Table 15.10). -/
def meter (vin store iin : Nat) (s : State) : State :=
  wrF (wrF (wrF s PWR_STATUS.VIN_MV (min vin 65535)) PWR_STATUS.STORE (min (store / 250) 255)) PWR_IIN.IIN_MA (min iin 65535)

/-- The brown-out sequence begins (Table 15.2). -/
def beginBrownOut (s : State) : State :=
  if flag s PWR_STATUS.BROWNOUT then s
  else
    let s := wrB s PWR_STATUS.BROWNOUT true
    logState { s with pwr := { s.pwr with rideAt := some (if s.time.run then some (now s) else none) } } .pwr 6 0 0 1

def brownOut (vin store iin : Nat) (s : State) : State :=
  let s := meter vin store iin s
  if vin < 5500 then beginBrownOut s else s

/-- Over-voltage: the input switch opens (R378). -/
def overVoltage (vin store iin : Nat) (s : State) : State :=
  let s := meter vin store iin s
  if vin ≤ 42000 then s
  else beginBrownOut (wrB { s with pwr := { s.pwr with openSwitch := true } } PWR_STATUS.OVERVOLT true)

/-- VIN has stayed in range for 1 ms: a brown-out ends, counted where it is within its ride-through; the switch closes; a module that
is off starts (R377, R378, Table 15.2). -/
def vinRecovered (vin store iin : Nat) (s : State) : State :=
  let s := meter vin store iin s
  if vin < 6000 ∨ 40000 < vin then s
  else
    let s := wrB { s with pwr := { s.pwr with openSwitch := false } } PWR_STATUS.OVERVOLT false
    let s := if flag s PWR_STATUS.BROWNOUT then
        let s := wrB s PWR_STATUS.BROWNOUT false
        let s := if s.pwr.rideAt.isSome then incF s PWR_BO_COUNT.COUNT else s
        logState { s with pwr := { s.pwr with rideAt := none } } .pwr 6 0 1 0
      else s
    tryPowerUp vin store s

/-- 10 ms of ride-through have passed without recovery (R381). -/
def rideThroughEnd (s : State) : State :=
  match s.pwr.rideAt with
  | none => s
  | some t0 =>
    let early : Bool := match t0 with | some t => decide (now s < t + 10000000) | none => false
    if flag s PWR_STATUS.BROWNOUT = false ∨ early = true then s
    else moduleReset CAUSE_BROWN_OUT true { s with pwr := { s.pwr with rideAt := none } }

/-- VIN and the store are too low for PD0: everything volatile is lost (R377). -/
def pd0Loss (vin store iin : Nat) (s : State) : State :=
  if 5200 ≤ vin ∨ 9000 ≤ store then meter vin store iin s
  else
    let s := flashCut s
    let s0 : State :=
      { pending := s.pending, free := s.free, out := s.out, flash := s.flash, otp := s.otp,
        time := { run := false },
        boot := { store0 := s.boot.store0, store1 := s.boot.store1 }, host := { perst := s.host.perst },
        pwr := { phase := .held, kept := false, pd0 := false, pwrEn := s.pwr.pwrEn } }
    wr s0 .PWR_DOMAIN 0

/-- PD0 powers up: a cold start, followed by a module reset (R392). -/
def pd0Up (vin store iin : Nat) (s : State) : State :=
  if s.pwr.pd0 = true ∨ (vin < 5800 ∧ store ≤ 9000) then s
  else
    let s := wr { s with pwr := { s.pwr with pd0 := true }, shl := { s.shl with perstLow := s.host.perst, moduleResets := 1 } } .PWR_DOMAIN 1
    tryPowerUp vin store (meter vin store iin (writeLog s 0 .shl 0x0A 0 1))

/-- PWR_EN rises; the level holds whether PD0 has power or not (R377, R384). -/
def pwrEnRise (vin store iin : Nat) (s : State) : State :=
  let s := { s with pwr := { s.pwr with pwrEn := true } }
  if s.pwr.pd0 then tryPowerUp vin store (meter vin store iin s) else s

/-- PWR_EN has been low for 1 ms (R392, Table 15.9). -/
def pwrEnLow (s : State) : State :=
  let s := { s with pwr := { s.pwr with pwrEn := false, rideAt := none } }
  if s.pwr.pd0 then moduleReset CAUSE_PWR_EN true s else s

def startBegins (vin store iin : Nat) (s : State) : State := tryPowerUp vin store (meter vin store iin s)

/-! ### Temperature (R389 to R391) -/

/-- A temperature as PWR_THERM reports it: s8, saturating. -/
def s8sat (t : Int) : Nat := unsigned 8 (max (-128) (min 127 t))

/-- Clusters C12 to C23 are parked: their work is preempted (R390). -/
def parkClusters (s : State) : State :=
  forEach ((List.range 12).map (· + 12)) (fun k s =>
    let x := getCluster s k
    let s := setCluster s k { x with grant := none, resv := none }
    if x.ctx.isSome then schedPreempt k none s else s) s

/-- The throttle step changes (Table 15.6). -/
def setStep (n : Nat) (s : State) : State :=
  let old := rdF s PWR_THROTTLE.STEP
  let s := wrF { s with pwr := { s.pwr with stepAt := some (now s) } } PWR_THROTTLE.STEP n
  if old < 4 ∧ 4 ≤ n then parkClusters s
  else if 4 ≤ old ∧ n < 4 ∧ seedling s = false then switchOn 11 s
  else s

/-- One step of R390 for a reading of T_DIE. -/
def throttle (t : Int) (s : State) : State :=
  let limit : Int := rdF s PWR_THROTTLE.THROTTLE_C
  let step := rdF s PWR_THROTTLE.STEP
  if limit ≤ t then
    let s := { s with pwr := { s.pwr with coolSince := none } }
    let ready : Bool := match s.pwr.stepAt with | some a => decide (a + 10000000 ≤ now s) | none => true
    if step < 5 ∧ ready = true then setStep (step + 1) s else s
  else if t < limit - 5 then
    match s.pwr.coolSince with
    | none => { s with pwr := { s.pwr with coolSince := some (now s) } }
    | some a => if 0 < step ∧ a + 100000000 ≤ now s then setStep (step - 1) { s with pwr := { s.pwr with coolSince := some (now s) } } else s
  else { s with pwr := { s.pwr with coolSince := none } }

/-- T_DIE: the highest of the eight readings (R389). -/
def dieHighest (d : DieSensors) : Int :=
  [d.render1, d.memory, d.display, d.pcie, d.cores, d.dpPhy, d.shallot].foldl max d.render0

/-- The readings of one millisecond: the die sensors, of which T_DIE is the highest, and the module sensor (R389 to R391). -/
def thermalSample (die : DieSensors) (tMod : Int) (s : State) : State :=
  let t := dieHighest die
  let s := wrF (wrF s PWR_THERM.T_DIE (s8sat t)) PWR_THERM.T_MOD (s8sat tMod)
  let s := if 115 ≤ t then (if s.pwr.hotFault then s else safeFault 7 { s with pwr := { s.pwr with hotFault := true } })
    else { s with pwr := { s.pwr with hotFault := false } }
  let s := throttle t s
  let s := if rdF s PWR_THROTTLE.STEP ≠ 0 then incF s PWR_THROTTLE_MS.COUNT else s
  if 4 ≤ rdF s PWR_THROTTLE.STEP ∧ (List.range 12).all (fun i => (getCluster s (12 + i)).ctx.isNone) = true then switchOff 11 s else s

/-- The hardware trip of PD0 (R391). -/
def thermalTrip (tDie tMod : Int) (s : State) : State :=
  if tDie < 125 ∧ tMod < 110 then s
  else
    let s := wrF (wrF s PWR_THERM.T_DIE (s8sat tDie)) PWR_THERM.T_MOD (s8sat tMod)
    moduleReset CAUSE_THERMAL true { s with pwr := { s.pwr with hot := true } }

/-- T_DIE has read below 90 °C for 60 s (R391). -/
def thermalRecovery (vin store iin : Nat) (s : State) : State := tryPowerUp vin store (meter vin store iin { s with pwr := { s.pwr with hot := false } })

/-! ### Conventional PCIe reset (R394) -/

/-- What a conventional reset does to the functions: VF Enable 0, tenants destroyed, interrupts masked, and I0 as by a PF
function-level reset, once for triggers of one stamp, a PF function-level reset among them. -/
def resetFunctions (s : State) : State :=
  if s.host.convAt = some (now s) then s
  else
    let s := { s with host := { s.host with vfEnable := false, numVFs := 0, convAt := some (now s) } }
    let s := destroyAbove 0 s
    let s := if s.host.flrAt = some (now s) then s else resetPf s
    { s with host := { s.host with fnCfg := [], msix := [], msixPend := [] } }

/-- The level of PERST_N, which Shallot sees while PD0 has power (R296, Table 11.1). -/
def setPerst (low : Bool) (s : State) : State := { s with host := { s.host with perst := low }, shl := { s.shl with perstLow := low && s.pwr.pd0 } }

/-- PERST_N low (0), a hot reset (1), or the link going down (2); the functions themselves may be in reset. -/
def conventionalReset (kind : Nat) (s : State) : State :=
  let again := s.host.perst
  let s := if kind = 0 then setPerst true s else s
  if running s = false then s
  else
    let s := if kind = 0 ∨ kind = 2 then linkOff s else s
    refreshHost (if again then s else resetFunctions s)

/-- PERST_N rises without a module reset: configuration requests are answered 20 ms later (R394, R404). -/
def perstRise (s : State) : State :=
  if s.host.perst = false then s
  else
    let s := setPerst false s
    if running s = false then s else refreshHost { s with host := { s.host with cfgFrom := max s.host.cfgFrom (now s + 20000000) } }

/-! ### The meanings -/

def execBrownOut (t vin store iin : Nat) (s : State) : Host.Outcome State Fault Refusal := actPd0 t (brownOut vin store iin) s
def execOvervoltage (t vin store iin : Nat) (s : State) : Host.Outcome State Fault Refusal := actPd0 t (overVoltage vin store iin) s
def execVinRecovered (t vin store iin : Nat) (s : State) : Host.Outcome State Fault Refusal := actPd0 t (vinRecovered vin store iin) s
def execRideThroughExpiry (t : Nat) (s : State) : Host.Outcome State Fault Refusal := actPd0 t rideThroughEnd s
def execPd0PowerUp (t vin store iin : Nat) (s : State) : Host.Outcome State Fault Refusal := actIf true t (pd0Up vin store iin) s
def execPd0PowerLoss (t vin store iin : Nat) (s : State) : Host.Outcome State Fault Refusal := actPd0 t (pd0Loss vin store iin) s
def execPwrEnRise (t vin store iin : Nat) (s : State) : Host.Outcome State Fault Refusal := actIf true t (pwrEnRise vin store iin) s
def execPwrEnLow (t : Nat) (s : State) : Host.Outcome State Fault Refusal := actIf true t pwrEnLow s
def execStartAllowed (t vin store iin : Nat) (s : State) : Host.Outcome State Fault Refusal := actPd0 t (startBegins vin store iin) s
def execDomainGood (t d : Nat) (s : State) : Host.Outcome State Fault Refusal := actPd0 t (domainReports d) s
def execRenderGateIdle (t d : Nat) (s : State) : Host.Outcome State Fault Refusal := act t (renderGate d) s
def execThermalSample (t : Nat) (die : DieSensors) (tMod : Int) (s : State) : Host.Outcome State Fault Refusal := actEarly t (thermalSample die tMod) s
def execThermalTrip (t : Nat) (tDie tMod : Int) (s : State) : Host.Outcome State Fault Refusal := actPd0 t (thermalTrip tDie tMod) s
def execThermalRecovery (t vin store iin : Nat) (s : State) : Host.Outcome State Fault Refusal := actPd0 t (thermalRecovery vin store iin) s
def execPwrReset (t : Nat) (v : Word) (s : State) : Host.Outcome State Fault Refusal := act t (pwrReset v.toNat) s
def execConventionalPcieReset (t kind : Nat) (s : State) : Host.Outcome State Fault Refusal := actIf true t (conventionalReset kind) s
def execPerstNRise (t : Nat) (s : State) : Host.Outcome State Fault Refusal := actIf true t perstRise s
def execResetStageRelease (t : Nat) (s : State) : Host.Outcome State Fault Refusal := actPd0 t stageRelease s

end Sys2Proof.Machine
end

