-- ==== Sys2Proof/Machine/Store.lean ====
section
/-! DEFINITION. The persistent store and its commits, the images in flash and their validity, OTP, and the requests of BOOT_CTRL
(R400 to R402, R406, R411 to R413, R420). -/

namespace Sys2Proof.Machine

/-! ### Records (R412, Table 16.5) -/

/-- A record of the persistent store. -/
structure StoreRec where
  seq : Nat := 0
  attempts : Nat := 0
  lastReason : Nat := 0
  /-- BOOT_SLOT: 0 A, 1 B. -/
  slot : Nat := 0
  trial : Nat := 0
  staged : Nat := 0
  blobSeq : Nat := 0
  /-- The 8,192 bytes of TRAINING, as a number. -/
  training : Nat := 0
  updState : Nat := 0
  updSrc : Nat := 0
  digest : Nat := 0
  /-- The 96 bytes of MGMT, as a number. -/
  mgmt : Nat := 0
deriving DecidableEq, Repr

/-- `n` bytes from offset `o` of a stored area; what is not listed is erased. -/
def areaBytes (b : List Byte) (o n : Nat) : List Byte := let l := (b.drop o).take n; l ++ List.replicate (n - l.length) 0xFF

def areaNum (b : List Byte) (o n : Nat) : Nat := ofBytes (areaBytes b o n)

def byteCrc (b : List Byte) : Nat := crc32c (b.map BitVec.toNat)

/-- The body of a record. -/
def recordBody (r : StoreRec) : List Byte :=
  toBytes 1 r.attempts ++ toBytes 1 r.lastReason ++ toBytes 1 r.slot ++ toBytes 1 r.trial ++ toBytes 4 r.staged ++ toBytes 4 r.blobSeq
  ++ toBytes 28 0 ++ toBytes 8192 r.training ++ toBytes 1 r.updState ++ toBytes 15 r.updSrc ++ toBytes 48 r.digest ++ toBytes 96 r.mgmt

/-- A committed record as it lies in its copy. -/
def recordBytes (r : StoreRec) : List Byte :=
  let b := recordBody r
  toBytes 4 0x53504D4C ++ toBytes 4 0 ++ toBytes 8 r.seq ++ toBytes 4 b.length ++ toBytes 4 (byteCrc b) ++ b

/-- The record of a valid copy (R412). -/
def readRecord (b : List Byte) : Option StoreRec :=
  let len := areaNum b 16 4
  if areaNum b 0 4 = 0x53504D4C ∧ areaNum b 4 4 = 0 ∧ len ≤ 65512 ∧ areaNum b 20 4 = byteCrc (areaBytes b 24 len) then
    some { seq := areaNum b 8 8, attempts := areaNum b 24 1, lastReason := areaNum b 25 1, slot := areaNum b 26 1, trial := areaNum b 27 1,
           staged := areaNum b 28 1, blobSeq := areaNum b 32 4, training := areaNum b 64 8192, updState := areaNum b 8256 1,
           updSrc := areaNum b 8257 1, digest := areaNum b 8272 48, mgmt := areaNum b 8320 96 }
  else none

/-- The newest record, and the copy that holds it. -/
def newest (s : State) : Option (Nat × StoreRec) :=
  match readRecord s.boot.store0, readRecord s.boot.store1 with
  | some a, some b => if a.seq < b.seq then some (1, b) else some (0, a)
  | some a, none => some (0, a)
  | none, some b => some (1, b)
  | none, none => none

/-- The record in force; the defaults where no copy is valid. -/
def record (s : State) : StoreRec := match newest s with | some p => p.2 | none => {}

/-- The copy that the next commit writes: the one that does not hold the newest record, copy 0 where neither is valid. -/
def commitCopy (s : State) : Nat := match newest s with | some p => 1 - p.1 | none => 0

def setCopy (s : State) (c : Nat) (b : List Byte) : State :=
  { s with boot := if c = 0 then { s.boot with store0 := b } else { s.boot with store1 := b } }

/-- A commit (R413); one that fails leaves its copy invalid and the other as it stands. -/
def commitRecord (r : StoreRec) (ok : Bool) (s : State) : State :=
  let c := commitCopy s
  if ok then
    let b := recordBytes { r with seq := (record s).seq + 1 }
    noteFlash (2 + c) 0 65536 b.length (setCopy s c b)
  else setCopy s c []

/-! ### Log entries (R407, R420) -/

def bootLog (reason : Nat) (s : State) : State := writeLog s 0 .boot 0x09 0 reason

/-- A commit outside a start; a failed one is logged (R420). -/
def commitRunning (r : StoreRec) (ok : Bool) (s : State) : State :=
  let s := commitRecord r ok s
  if ok then s else bootLog 0x0A s

/-! ### Images (R400, R401, Table 16.2) -/

/-- An image of `n` bytes ends with a well-formed trailer of the type. -/
def trailerOk (type : Nat) (b : List Byte) : Bool :=
  let n := b.length
  let o := n - 212
  decide (212 ≤ n ∧ areaNum b o 4 = 0x47494D4C ∧ areaNum b (o + 4) 1 = type ∧ areaNum b (o + 5) 1 = 0 ∧ areaNum b (o + 6) 2 ≤ 63
    ∧ (type = 3 → areaNum b (o + 6) 2 = 0) ∧ (type ≠ 3 → areaNum b (o + 8) 4 = 0) ∧ areaNum b (o + 12) 4 = o ∧ areaNum b (o + 16) 1 = 4
    ∧ areaNum b (o + 113) 3 = 0)

def imageSvn (b : List Byte) : Nat := areaNum b (b.length - 206) 2
def imageSeq (b : List Byte) : Nat := areaNum b (b.length - 204) 4
/-- The image without its trailer. -/
def imageBody (b : List Byte) : List Byte := b.take (b.length - 212)
def signerHash (b : List Byte) : Nat := Config.sha384 (areaBytes b (b.length - 196) 97)

/-- The key slot holds this key. -/
def slotHolds (h : Nat) (k : KeySlot) : Bool := match k with | .enrolled x => decide (x = h) | _ => false

/-- Every key slot is empty. -/
def slotsEmpty (s : State) : Bool := s.otp.slots.all (fun k => decide (k = .empty))

/-- The signer of an image is accepted; at install, with every slot empty, any signer of a setup blob is (R401). -/
def signerAccepted (s : State) (type h : Nat) (install : Bool) : Bool :=
  if type = 3 then s.otp.slots.any (slotHolds h) || (install && slotsEmpty s) else decide (h = Config.firmwareKeyHash)

/-- The signature over the bytes before the last 96. -/
def signatureOk (key : Nat) (b : List Byte) : Bool := Config.verify key (Config.sha384 (b.take (b.length - 96))) (areaNum b (b.length - 96) 96)

/-- The minimum SVN of a type (R402). -/
def minSvn (s : State) (type : Nat) : Nat := if type = 1 then s.otp.minBoot else if type = 2 then s.otp.minMain else 0

/-- An image is valid for an area of this type (R401). -/
def imageOk (s : State) (type : Nat) (b : List Byte) (install : Bool := false) : Bool :=
  trailerOk type b && signerAccepted s type (signerHash b) install && signatureOk (areaNum b (b.length - 196) 97) b && decide (minSvn s type ≤ imageSvn b)

/-- The image in an area of a flash device; none where it holds none. -/
def imageIn (f : Sparse Byte) (base size : Nat) : Option (List Byte) := (trailerAt f base size).map (fun t => flashRead f base (t + 212 - base))

/-- The image of an area, if it is valid. -/
def validIn (s : State) (f : Sparse Byte) (base size type : Nat) : Option (List Byte) :=
  match imageIn f base size with
  | some b => if imageOk s type b then some b else none
  | none => none

/-- The flash device of a boot slot: A or B. -/
def slotFlash (s : State) (slot : Nat) : Sparse Byte := if slot = 0 then s.flash.a else s.flash.b

/-- An area erased and written from its start. -/
def writeArea (f : Sparse Byte) (base size : Nat) (b : List Byte) : Sparse Byte := flashWrite (Sparse.clear f base (base + size)) base b

/-! ### BOOT_CTRL (R411) -/

/-- The device is starting: neither RUN nor Seedling mode has been reached. -/
def STAGE_RUN : Nat := 6
def STAGE_SEEDLING : Nat := 7
def stage (s : State) : Nat := rdF s BOOT_STATUS.STAGE
def starting (s : State) : Bool := decide (stage s < STAGE_RUN)

/-- A commit and then a module reset with cause start retry; where the commit fails the request ends with it (R420). -/
def retryWith (r : StoreRec) (ok : Bool) (s : State) : State :=
  let s := commitRunning r ok s
  if ok then moduleReset CAUSE_RETRY false s else s

def retryRequest (ok : Bool) (s : State) : State := retryWith { record s with attempts := 0 } ok s
def seedlingRequest (ok : Bool) (s : State) : State := retryWith { record s with attempts := 3, lastReason := 0x0F } ok s

def INSTALLING : Nat := 3
def updState (s : State) : Nat := rdF s UPD_STATUS.STATE

/-- A write of BOOT_CTRL: its key, then RETRY or SEEDLING, of which a request during an install waits for its end (Table 16.9). -/
def bootCtrl (v : Nat) (ok : Bool) (s : State) : State :=
  if v % 65536 ≠ 0x5EED ∨ (bit v 31 = true ∧ bit v 30 = true) then logDiscard s (Reg.BOOT_CTRL).key
  else if bit v 31 then retryRequest ok s
  else if bit v 30 then
    (if updState s = INSTALLING then { s with upd := { s.upd with seedling := true } } else seedlingRequest ok s)
  else s

/-- A write of BOOT_CTRL with RETRY, and with SEEDLING; `ok`: the commit succeeds. -/
def execRetry (t : Nat) (v : Word) (ok : Bool) (s : State) : Host.Outcome State Fault Refusal :=
  act t (fun s => if bit v.toNat 31 then bootCtrl v.toNat ok s else s) s
def execSeedling (t : Nat) (v : Word) (ok : Bool) (s : State) : Host.Outcome State Fault Refusal :=
  act t (fun s => if bit v.toNat 30 then bootCtrl v.toNat ok s else s) s

end Sys2Proof.Machine
end

