-- ==== Sys2Proof/Machine/Update.lean ====
section
/-! DEFINITION. Field update: packages, their delivery by the PF and by CoAP, and the install (R414 to R421). -/

namespace Sys2Proof.Machine

def U_IDLE : Nat := 0
def RECEIVING : Nat := 1
def COMPLETE : Nat := 2
def INSTALLED : Nat := 4
def FAILED : Nat := 5

def setUpdState (st : Nat) (s : State) : State := wrF s UPD_STATUS.STATE st
def setUpdResult (st : Nat) (s : State) : State := wrF s UPD_STATUS.RESULT st

/-! ### The manifest (R414, Table 16.6) -/

/-- N of a manifest. -/
def mfChunks (m : List Byte) : Nat := areaNum m 12 4
def mfHash (m : List Byte) (n : Nat) : Nat := areaNum m (224 + 48 * n) 48

/-- A component of a manifest. -/
structure Component where
  type : Nat
  first : Nat
  count : Nat
  len : Nat
  hash : Nat
deriving DecidableEq, Repr

def mfComponent (m : List Byte) (i : Nat) : Component :=
  let o := 32 + 64 * i
  { type := areaNum m o 1, first := areaNum m (o + 4) 2, count := areaNum m (o + 6) 2, len := areaNum m (o + 8) 4, hash := areaNum m (o + 16) 48 }

def mfComponents (m : List Byte) : List Component := (List.range (areaNum m 6 2)).map (mfComponent m)

/-- The size of the area a component is written to (Table 16.1). -/
def targetSize (type : Nat) : Nat := if type = 1 then SLOT_SIZE else if type = 2 then FW_SIZE else BLOB_SIZE

def componentOk (m : List Byte) (i : Nat) : Bool :=
  let c := mfComponent m i
  let o := 32 + 64 * i
  decide (1 ≤ c.type ∧ c.type ≤ 3 ∧ areaNum m (o + 1) 1 = 0 ∧ areaNum m (o + 2) 2 ≤ (if c.type = 3 then 0 else 63) ∧ areaNum m (o + 12) 4 = 0 ∧ 1 ≤ c.count
    ∧ c.first + c.count ≤ mfChunks m ∧ c.len ≤ c.count * 65536 ∧ (c.count - 1) * 65536 < c.len ∧ c.len ≤ targetSize c.type)
  && (List.range i).all (fun j => decide ((mfComponent m j).type ≠ c.type))

/-- A manifest is accepted (R414, R415): every field in range, and its signature. -/
def manifestOk (s : State) (m : List Byte) : Bool :=
  let n := mfChunks m
  let k := areaNum m 6 2
  let o := 224 + 48 * n
  let h := Config.sha384 (areaBytes m o 97)
  decide (areaNum m 0 4 = 0x464E414D ∧ areaNum m 4 2 = 1 ∧ 1 ≤ k ∧ k ≤ 3 ∧ 1 ≤ n ∧ n ≤ 767 ∧ m.length = 420 + 48 * n
    ∧ areaNum m 8 4 = 420 + 48 * n ∧ areaNum m 24 8 = 0 ∧ areaNum m (32 + 64 * k) (64 * (3 - k)) = 0 ∧ areaNum m o 1 = 4 ∧ areaNum m (o + 97) 3 = 0)
  && (List.range k).all (componentOk m)
  && (decide (h = Config.firmwareKeyHash) || s.otp.slots.any (slotHolds h)) && signatureOk (areaNum m o 97) m

/-! ### The chunk area (R399, R413) -/

def chunkAddr (i : Nat) : Nat := CHUNK_OFS + i % 384 * 65536
def readIndex (s : State) (i n : Nat) : List Byte := flashRead (if i < 384 then s.flash.a else s.flash.b) (chunkAddr i) n

def writeIndex (i : Nat) (b : List Byte) (s : State) : State :=
  noteFlash (i / 384) (chunkAddr i) 65536 b.length
    (if i < 384 then { s with flash := { s.flash with a := writeArea s.flash.a (chunkAddr i) 65536 b } }
     else { s with flash := { s.flash with b := writeArea s.flash.b (chunkAddr i) 65536 b } })

/-- The kept set follows into UPD_STATUS. -/
def syncKept (s : State) : State := wrF s UPD_STATUS.KEPT s.upd.kept.length

/-- The manifest in force. -/
def setManifest (m : List Byte) (s : State) : State :=
  wr64 { s with upd := { s.upd with manifest := some m } } .UPD_PKG_LO .UPD_PKG_HI (areaNum m 16 8)

/-- Every chunk of the manifest is kept. -/
def allKept (s : State) : Bool :=
  match s.upd.manifest with
  | some m => (List.range (mfChunks m)).all s.upd.kept.contains
  | none => false

/-- Once every chunk is kept, STATE becomes COMPLETE, and the store holds it. -/
def finishIfAll (ok : Bool) (s : State) : Nat × State :=
  if allKept s = false ∨ updState s ≠ RECEIVING then (ST_OK, s)
  else if ok then (ST_OK, setUpdState COMPLETE (commitRunning { record s with updState := COMPLETE } true s))
  else (ST_FAULT_TRANSIENT, commitRunning (record s) false s)

/-- The manifest is delivered (R415). -/
def takeManifest (m : List Byte) (progOk ok : Bool) (s : State) : Nat × State :=
  if s.upd.manifest.isSome then (ST_OK, s)
  else if manifestOk s m = false then (ST_BAD_DESC, s)
  else if progOk = false then (ST_FAULT_TRANSIENT, s)
  else if ok = false then (ST_FAULT_TRANSIENT, commitRunning (record s) false (writeIndex 0 m s))
  else (ST_OK, setManifest m (commitRunning { record s with digest := Config.sha384 m } true (writeIndex 0 m s)))

/-- A chunk is delivered: kept when its hash, read back, is the manifest's (R415). -/
def takeChunk (m : List Byte) (n : Nat) (b : List Byte) (progOk ok : Bool) (s : State) : Nat × State :=
  if mfChunks m ≤ n then (ST_BAD_DESC, s)
  else if s.upd.kept.contains n then finishIfAll ok s
  else if b.length ≠ 65536 then (ST_BAD_DESC, s)
  else if progOk = false then (ST_FAULT_TRANSIENT, s)
  else
    let s := writeIndex (n + 1) b s
    if Config.sha384 (readIndex s (n + 1) 65536) ≠ mfHash m n then (ST_BAD_DESC, s)
    else finishIfAll ok (syncKept { s with upd := { s.upd with kept := n :: s.upd.kept } })

/-- Data of an index arrives (R415, R416). -/
def deliver (i : Nat) (b : List Byte) (progOk ok : Bool) (s : State) : Nat × State :=
  if i = 0 then takeManifest b progOk ok s
  else match s.upd.manifest with
    | some m => takeChunk m (i - 1) b progOk ok s
    | none => (ST_BAD_DESC, s)

/-! ### CoAP (R417, Table 16.7) -/

/-- CoAP codes: GET, 2.04 Changed, 2.05 Content, 4.09 Conflict, 5.00. -/
def COAP_GET : Nat := 0x01
def COAP_CHANGED : Nat := 0x44
def COAP_CONTENT : Nat := 0x45
def COAP_CONFLICT : Nat := 0x89
def COAP_ERROR : Nat := 0xA0

/-- The management port works with the settings of MGMT: from the SETUP step on, and in Seedling mode (R403, R409). -/
def mgmtLive (s : State) : Bool := s.boot.setupDone || decide (stage s = STAGE_SEEDLING ∨ stage s = STAGE_RUN)

/-- The decimal digits of an index, as characters. -/
def decimal (i : Nat) : List Nat :=
  (if 100 ≤ i then [48 + i / 100 % 10] else []) ++ (if 10 ≤ i then [48 + i / 10 % 10] else []) ++ [48 + i % 10]

/-- `<path>/c/<index>`: the resource of an index. -/
def resource (s : State) (i : Nat) : List Nat :=
  ((toBytes 64 ((record s).mgmt / 256 ^ 20)).map BitVec.toNat).takeWhile (fun c => decide (c ≠ 0)) ++ [47, 99, 47] ++ decimal i

/-- The update server of MGMT: its IPv4 address and UDP port (Table 16.5). -/
def server (s : State) : Nat × Nat := ((record s).mgmt / 256 ^ 12 % 2 ^ 32, (record s).mgmt / 256 ^ 16 % 2 ^ 16)

/-- The confirmable GET of a block, sent to the server: its number in the index, at 1,024 bytes (RFC 7959). -/
def sendGet (x : Exchange) (s : State) : State := send s (.coap (some (server s)) COAP_GET x.block (resource s x.index))

def askBlock (x : Exchange) (s : State) : State := sendGet x { s with upd := { s.upd with coap := some { x with failedAt := none } } }

/-- `n` retransmissions of the GET, of which RFC 7252 has at most 4. -/
def resend (n : Nat) (x : Exchange) (s : State) : State := forEach (List.range (min n 4)) (fun _ s => sendGet x s) s

/-- The first index that is missing: the manifest, then the chunks in ascending order. -/
def nextIndex (s : State) : Option Nat :=
  match s.upd.manifest with
  | none => some 0
  | some m => ((List.range (mfChunks m)).find? (fun n => !(s.upd.kept.contains n))).map (· + 1)

/-- The next missing index is fetched, from its first block. -/
def fetchNext (s : State) : State :=
  match nextIndex s with
  | some i => askBlock { index := i, block := 0, got := [] } s
  | none => { s with upd := { s.upd with coap := none } }

/-- The device fetches while a CoAP update receives. -/
def continueCoap (s : State) : State :=
  if updState s = RECEIVING ∧ flag s UPD_STATUS.SRC = true ∧ mgmtLive s = true then fetchNext s else { s with upd := { s.upd with coap := none } }

/-- An exchange has failed, and waits RETRY_S seconds. -/
def exchangeFails (x : Exchange) (s : State) : State := { s with upd := { s.upd with coap := some { x with failedAt := some (now s) } } }

/-- The bytes of an index have all arrived; the third hash failure of one index ends the update. -/
def indexArrives (x : Exchange) (progOk ok : Bool) (s : State) : State :=
  let (st, s) := deliver x.index x.got progOk ok s
  let again : Exchange := { x with block := 0, got := [] }
  if st = ST_OK then continueCoap s
  else if st = ST_BAD_DESC then
    let n := Sparse.get 0 s.upd.fails x.index + 1
    let s := { s with upd := { s.upd with fails := Sparse.set 0 s.upd.fails x.index n } }
    if n < 3 then exchangeFails again s
    else
      let s := commitRunning { record s with updState := FAILED } ok s
      setUpdResult ST_BAD_DESC (setUpdState FAILED { s with upd := { s.upd with coap := none } })
  else exchangeFails again s

/-- A response: the payload of the block asked for and whether more follow, or an exchange that failed. -/
def coapResponse (data : List Byte) (more : Bool) (reply : CoapReply) (progOk ok : Bool) (s : State) : State :=
  match s.upd.coap with
  | none => s
  | some x =>
    let s := if x.failedAt.isSome then s else resend reply.resent x s
    if x.failedAt.isSome then s
    else if reply.good = false ∨ 1024 < data.length ∨ (more = true ∧ data.length ≠ 1024) ∨ (more = true ∧ 63 ≤ x.block) then exchangeFails x s
    else
      let x := { x with got := x.got ++ data }
      if more then askBlock { x with block := x.block + 1 } s else indexArrives x progOk ok s

/-- No answer to the GET and to its four retransmissions. -/
def coapTimeout (s : State) : State :=
  match s.upd.coap with
  | none => s
  | some x => if x.failedAt.isSome then s else exchangeFails x (resend 4 x s)

def coapRetry (s : State) : State :=
  match s.upd.coap with
  | none => s
  | some x =>
    match x.failedAt with
    | none => s
    | some f => if now s < f + rdF s UPD_COAP.RETRY_S * 1000000000 then s else askBlock x s

/-- The health record. -/
def healthRecord (s : State) : List Byte :=
  (List.range 4).flatMap (fun j => toBytes 4 (rd s (.ID_SERIAL j)).toNat) ++ toBytes 8 (now s)
  ++ toBytes 4 (setBits (rd s .TIME_STATUS).toNat 31 16 (holdoverS s))
  ++ ([Reg.SHL_STATUS, .BOOT_STATUS, .PWR_STATUS, .PWR_THERM, .SHL_ALERT, .SHL_LOG_HEAD].flatMap (fun r => toBytes 4 (rd s r).toNat))
  ++ toBytes 12 0

def healthGet (s : State) : State :=
  if mgmtLive s then send s (.coap none COAP_CONTENT 42 ((healthRecord s).map BitVec.toNat)) else s

/-! ### Begin, cancel, transfers (R415, R416, R418) -/

/-- Any package is discarded; a transfer under way ends with it. -/
def dropPackage (s : State) : State :=
  let s := if s.upd.xfer.isSome then readOver 0 64 0 (wrF s UPD_XFER_RESULT.RESULT ST_NO_SPACE) else s
  wr64 (syncKept { s with upd := { seedling := s.upd.seedling } }) .UPD_PKG_LO .UPD_PKG_HI 0

/-- An update begins. -/
def updBegin (src : Nat) (ok : Bool) (s : State) : State :=
  if updState s = INSTALLING then logDiscard s (Reg.UPD_CTRL).key
  else if ok = false then setUpdResult ST_FAULT_TRANSIENT (commitRunning (record s) false s)
  else
    let s := commitRunning { record s with updState := RECEIVING, updSrc := src % 2, digest := 0 } true (dropPackage s)
    let s := setUpdResult ST_OK (setUpdState RECEIVING (wrF s UPD_STATUS.SRC src))
    continueCoap s

def updCancel (ok : Bool) (s : State) : State :=
  if updState s = INSTALLING then logDiscard s (Reg.UPD_CTRL).key
  else if ok = false then setUpdResult ST_FAULT_TRANSIENT (commitRunning (record s) false s)
  else setUpdState U_IDLE (commitRunning { record s with updState := U_IDLE, digest := 0 } true (dropPackage s))

/-- A POST to /w12/upd (R417): only the server of MGMT starts an update. -/
def coapStart (fromServer ok : Bool) (s : State) : State :=
  if fromServer = false ∨ mgmtLive s = false then s
  else if updState s = INSTALLING ∨ (updState s = RECEIVING ∧ flag s UPD_STATUS.SRC = false) then send s (.coap none COAP_CONFLICT 0 [])
  else if ok = false then send (updBegin 1 false s) (.coap none COAP_ERROR 0 [])
  else updBegin 1 true (send s (.coap none COAP_CHANGED 0 []))

/-- A write of UPD_XFER. -/
def updXfer (v : Nat) (s : State) : State :=
  let i := bitsOf v 26 17
  let len := bitsOf v 16 0
  let go := bit v 31
  if 767 < i ∨ len = 0 ∨ 65536 < len ∨ (go = true ∧ rdF s UPD_XFER_RESULT.RESULT = 0xFF) then logDiscard s (Reg.UPD_XFER).key
  else
    let s := wrF (wrF s UPD_XFER.INDEX i) UPD_XFER.LEN len
    if go = false then s
    else
      let st := pickStatus [(flag s UPD_STATUS.SRC || decide (updState s ≠ RECEIVING), ST_NO_SPACE), (decide (i ≠ 0 ∧ len ≠ 65536), ST_BAD_DESC)]
      if st ≠ ST_OK then wrF s UPD_XFER_RESULT.RESULT st
      else
        let a := rd64 s .UPD_XFER_ADDR_LO .UPD_XFER_ADDR_HI
        send (wrF { s with upd := { s.upd with xfer := some (i, len, a) } } UPD_XFER_RESULT.RESULT 0xFF) (.hostRead 0 none a len)

/-- The data of a transfer arrive, or its host read failed; `progOk`: one of two attempts to program succeeded. -/
def xferComplete (data : List Byte) (readOk progOk ok : Bool) (s : State) : State :=
  match s.upd.xfer with
  | none => s
  | some (i, len, _) =>
    let s := readOver 0 64 0 { s with upd := { s.upd with xfer := none } }
    let (st, s) :=
      if readOk = false ∨ data.length ≠ len then (ST_NOT_OWNER, s)
      else if flag s UPD_STATUS.SRC = true ∨ updState s ≠ RECEIVING then (ST_NO_SPACE, s)
      else deliver i data progOk ok s
    wrF s UPD_XFER_RESULT.RESULT st

/-- After a start, and in Seedling mode: STATE and the package are rebuilt from the store and from flash (R418). -/
def resumeUpdate (s : State) : State :=
  let r := record s
  let s := wrF (setUpdState r.updState s) UPD_STATUS.SRC r.updSrc
  if r.updState ≠ RECEIVING ∧ r.updState ≠ COMPLETE then s
  else
    let m := readIndex s 0 (min (ofBytes (readIndex s 0 12 |>.drop 8)) 65536)
    if Config.sha384 m ≠ r.digest then continueCoap (setUpdState RECEIVING s)
    else
      let kept := (List.range (min (mfChunks m) 767)).filter (fun n => decide (Config.sha384 (readIndex s (n + 1) 65536) = mfHash m n))
      let s := syncKept (setManifest m { s with upd := { s.upd with kept := kept } })
      continueCoap (setUpdState (if allKept s then COMPLETE else RECEIVING) s)

/-! ### Install (R419, Table 16.8) -/

/-- A component's bytes, from the chunks that hold it. -/
def componentBytes (s : State) (c : Component) : List Byte :=
  ((List.range c.count).flatMap (fun i => readIndex s (c.first + i + 1) 65536)).take c.len

/-- The checks of a component: its hash, and R401. -/
def componentGood (s : State) (c : Component) : Bool :=
  let b := componentBytes s c
  decide (Config.sha384 b = c.hash) && imageOk s c.type b true

/-- A component is written to its target. -/
def writeTarget (c : Component) (b : List Byte) (s : State) : State :=
  let toA := decide (c.type = 1 ∧ (record s).slot ≠ 0)
  let base := if c.type = 1 then SLOT_OFS else if c.type = 2 then FW_OFS else BLOB_OFS
  let size := targetSize c.type
  noteFlash (if toA then 0 else 1) base size b.length
    (if toA then { s with flash := { s.flash with a := writeArea s.flash.a base size b } } else { s with flash := { s.flash with b := writeArea s.flash.b base size b } })

/-- Each component is checked and then written, up to one that fails. -/
def writeTargets : List Component → State → State
  | [], s => s
  | c :: cs, s => if componentGood s c then writeTargets cs (writeTarget c (componentBytes s c) s) else s

/-- UPD_CTRL.INSTALL, accepted only while STATE is COMPLETE. -/
def updInstall (s : State) : State :=
  match s.upd.manifest with
  | some m => if updState s ≠ COMPLETE then logDiscard s (Reg.UPD_CTRL).key else writeTargets (mfComponents m) (setUpdState INSTALLING s)
  | none => logDiscard s (Reg.UPD_CTRL).key

/-- A key operation burnt into OTP (R401). -/
def keyOp (o : Nat × Nat) (slots : List KeySlot) : List KeySlot :=
  if o.1 = 0 then
    (match slots.findIdx? (fun k => decide (k = .empty)) with
     | some i => slots.set i (.enrolled o.2)
     | none => slots)
  else slots.set o.2 .revoked

/-- What the install of a setup blob burns into OTP: its signer, where every slot is empty, and its key operations (R401). -/
def burnKeys (b : List Byte) (s : State) : State :=
  let slots := if slotsEmpty s then s.otp.slots.set 0 (.enrolled (signerHash b)) else s.otp.slots
  { s with otp := { s.otp with slots := (Config.parseBlob (imageBody b)).keyOps.foldl (fun k o => keyOp o k) slots } }

/-- The store record that points at the new content (Table 16.8). -/
def installRecord (cs : List Component) (r : StoreRec) : StoreRec :=
  cs.foldl (fun r c =>
    if c.type = 1 then { r with slot := 1 - r.slot, trial := 1 }
    else if c.type = 2 then { r with staged := setBit r.staged 0 }
    else { r with staged := setBit r.staged 1 }) { r with updState := INSTALLED }

/-- A SEEDLING request that waited for the install is taken. -/
def takeSeedling (ok : Bool) (s : State) : State :=
  if s.upd.seedling then seedlingRequest ok { s with upd := { s.upd with seedling := false } } else s

/-- The install ends: the record is committed last; a failure leaves STATE at COMPLETE. -/
def installComplete (progOk ok : Bool) (s : State) : State :=
  match s.upd.manifest with
  | none => s
  | some m =>
    if updState s ≠ INSTALLING then s
    else
      let cs := mfComponents m
      let bad := !(cs.all (componentGood s))
      let st := pickStatus [(bad, ST_BAD_DESC), (!progOk, ST_FAULT_TRANSIENT)]
      if st ≠ ST_OK then takeSeedling ok (setUpdResult st (setUpdState COMPLETE s))
      else
        let s := match cs.find? (fun c => decide (c.type = 3)) with
          | some c => burnKeys (componentBytes s c) s
          | none => s
        let s := commitRunning (installRecord cs (record s)) ok s
        if ok then takeSeedling ok (setUpdResult ST_OK (setUpdState INSTALLED s))
        else takeSeedling ok (setUpdResult ST_FAULT_TRANSIENT (setUpdState COMPLETE s))

/-- A write of UPD_CTRL: one operation at a time. -/
def updCtrl (v : Nat) (ok : Bool) (s : State) : State :=
  let b := bit v 31
  let c := bit v 30
  let i := bit v 29
  if (b && c) || (b && i) || (c && i) then logDiscard s (Reg.UPD_CTRL).key
  else if b then updBegin (v % 2) ok s
  else if c then updCancel ok s
  else if i then updInstall s
  else s

/-! ### The meanings; `ok` and `progOk`: the store commits, and flash is programmed -/

def execUpdBegin (t src : Nat) (ok : Bool) (s : State) : Host.Outcome State Fault Refusal := act t (updBegin (src % 2) ok) s
def execUpdCancel (t : Nat) (ok : Bool) (s : State) : Host.Outcome State Fault Refusal := act t (updCancel ok) s
def execUpdInstall (t : Nat) (s : State) : Host.Outcome State Fault Refusal := act t updInstall s
def execInstallComplete (t : Nat) (progOk ok : Bool) (s : State) : Host.Outcome State Fault Refusal := act t (installComplete progOk ok) s
def execUpdXfer (t : Nat) (v : Word) (s : State) : Host.Outcome State Fault Refusal := act t (updXfer v.toNat) s
def execUpdXferComplete (t : Nat) (data : List Byte) (readOk progOk ok : Bool) (s : State) : Host.Outcome State Fault Refusal :=
  act t (xferComplete data readOk progOk ok) s
def execCoapUpdateStart (t : Nat) (fromServer ok : Bool) (s : State) : Host.Outcome State Fault Refusal := act t (coapStart fromServer ok) s
def execCoapResponse (t : Nat) (data : List Byte) (more : Bool) (reply : CoapReply) (progOk ok : Bool) (s : State) : Host.Outcome State Fault Refusal :=
  act t (coapResponse data more reply progOk ok) s
def execCoapRetry (t : Nat) (s : State) : Host.Outcome State Fault Refusal := act t coapRetry s
def execCoapHealthGet (t : Nat) (s : State) : Host.Outcome State Fault Refusal := act t healthGet s
def execCoapExchangeTimeout (t : Nat) (s : State) : Host.Outcome State Fault Refusal := act t coapTimeout s

end Sys2Proof.Machine
end

