-- ==== Sys2Proof/Machine/Identity.lean ====
section
/-! DEFINITION. Identity and attestation (R422, R423, Table 16.10). -/

namespace Sys2Proof.Machine

/-- PCR ← SHA-384(PCR ‖ SHA-384(image)), for PCR number `i` (R423). -/
def extend (i : Nat) (image : List Byte) (s : State) : State :=
  let old := s.boot.pcrs.getD i 0
  { s with boot := { s.boot with pcrs := s.boot.pcrs.set i (Config.sha384 (toBytes 48 old ++ toBytes 48 (Config.sha384 image))) } }

/-- Bytes 0 to 271 of the quote. -/
def quoteBody (s : State) : List Byte :=
  let flags := (if seedling s then 1 else 0) + (if safe s then 2 else 0) + (if locked s then 4 else 0)
  toBytes 4 0x544F5551 ++ toBytes 2 1 ++ toBytes 2 flags ++ toBytes 8 (now s)
  ++ (List.range 4).flatMap (fun j => toBytes 4 (rd s (.ID_SERIAL j)).toNat)
  ++ (List.range 8).flatMap (fun k => toBytes 4 (rd s (.ID_NONCE k)).toNat)
  ++ (List.range 4).flatMap (fun i => toBytes 48 (s.boot.pcrs.getD i 0))
  ++ toBytes 2 s.otp.minBoot ++ toBytes 2 s.otp.minMain ++ toBytes 4 (record s).blobSeq ++ toBytes 1 (rdF s BOOT_REASON.REASON)
  ++ toBytes 1 (rdF s BOOT_STATUS.SLOT) ++ toBytes 6 0

/-- The quote, signed by the device key. -/
def quoteBytes (s : State) : List Byte :=
  let b := quoteBody s
  b ++ toBytes 96 (Config.sign (Config.sha384 b) (fresh s))

/-- The two certificates of the identity area, each after its length. -/
def certBytes (s : State) : List Byte :=
  let (a, b) := Config.certificates (flashRead s.flash.a IDENT_OFS 0x10000)
  toBytes 4 a.length ++ a ++ toBytes 4 b.length ++ b

/-- The device certificate belongs to the device: the key of OTP is present, the subject's serialNumber is the string of ID_SERIAL, and its
public key is that of OTP (R422). -/
def certGood (s : State) : Bool :=
  let c := Config.certFields (Config.certificates (flashRead s.flash.a IDENT_OFS 0x10000)).1
  s.otp.key && decide (c.1 = serialText s ∧ c.2 = s.otp.devKey)

/-- ID_CTRL with GO: the operation runs and its output leaves by DMA with the PF's requester ID; a GO while one runs is discarded. -/
def attest (op : Nat) (bytes : List Byte) (s : State) : State :=
  if rdF s ID_CTRL.RESULT = 0xFF then logDiscard s (Reg.ID_CTRL).key
  else send (wrF (wrF s ID_CTRL.OP op) ID_CTRL.RESULT 0xFF) (.dma 0 none (rd64 s .ID_OUT_ADDR_LO .ID_OUT_ADDR_HI) bytes)

def quote (s : State) : State := spend (attest 0 (quoteBytes s) s)
def certs (s : State) : State := attest 1 (certBytes s) s

/-- A write of ID_CTRL. -/
def idCtrl (v : Nat) (s : State) : State :=
  if bit v 31 then (if v % 2 = 0 then quote s else certs s) else wrF s ID_CTRL.OP (v % 2)

/-- The DMA has ended, or the host write failed. -/
def attestComplete (ok : Bool) (s : State) : State :=
  if rdF s ID_CTRL.RESULT ≠ 0xFF then s else wrF s ID_CTRL.RESULT (if ok then ST_OK else ST_NOT_OWNER)

def execQuote (t : Nat) (s : State) : Host.Outcome State Fault Refusal := act t quote s
def execCerts (t : Nat) (s : State) : Host.Outcome State Fault Refusal := act t certs s
def execAttestComplete (t : Nat) (ok : Bool) (s : State) : Host.Outcome State Fault Refusal := act t (attestComplete ok) s

end Sys2Proof.Machine
end

