-- ==== Sys2Proof/Machine/Boot.lean ====
section
/-! DEFINITION. The start up to the SETUP step: failed starts, Seedling mode, the boot slots, staging, memory, firmware and the
Shallot section (R403 to R410, R421 to R423). -/

namespace Sys2Proof.Machine

/-! ### Seedling mode (R409) -/

/-- Seedling mode begins with its reason: PD4, PD5 and PD10 to PD13 off, PD7 to PD9 on, the card on every head whose hot-plug is
high, no commit of the blob pending over it, and update delivery resumed (R409, R410, R418). -/
def enterSeedling (reason : Nat) (s : State) : State :=
  let s := wrF (wrB (wrF s BOOT_STATUS.STAGE STAGE_SEEDLING) BOOT_STATUS.SEEDLING true) BOOT_REASON.REASON reason
  let s := { s with pwr := { s.pwr with seq := s.pwr.seq.filter (fun d => decide (d ≤ 3 ∨ d = 6)), rising := [] } }
  let s := wr s .PWR_DOMAIN (BitVec.ofNat 32 ((rd s .PWR_DOMAIN).toNat &&& 0x3CF))
  let s := { s with dsp := { s.dsp with commits := [] } }
  let s := forEach [7, 8, 9] switchOn s
  let s := forEach ((List.range 12).filter (fun h => flag s (HD_STATUS.HPD h))) cardStart s
  resumeUpdate s

/-- A condition of Table 16.4 marked "Seedling": LAST_REASON is committed, and Seedling mode begins at once. -/
def seedlingWith (reason : Nat) (ok : Bool) (s : State) : State :=
  let s := commitRecord { record s with lastReason := reason } ok s
  enterSeedling (if ok then reason else 0x0A) s

/-! ### Failed starts (R406, R407) -/

/-- A module reset during the power-up sequence: the sequence resumes at the 2.5 ms step, or at PD1 where that is not good. -/
def restart (s : State) : State :=
  let s := wrF { s with shl := { s.shl with moduleResets := s.shl.moduleResets + 1 } } PWR_STATUS.RESET_CAUSE CAUSE_RETRY
  let s := writeLog s 0 .shl 0x0A 0 s.shl.moduleResets
  { s with pwr := { s.pwr with phase := .held, kept := domainGood s 1 } }

/-- The start fails: LAST_REASON is committed, the reason is logged, and a module reset with cause start retry begins. -/
def startFail (reason : Nat) (ok : Bool) (s : State) : State :=
  if ok = false then enterSeedling 0x0A (commitRecord (record s) false s)
  else
    let s := bootLog reason (commitRecord { record s with lastReason := reason } true s)
    if s.pwr.phase = .run then moduleReset CAUSE_RETRY false s else restart s

/-- A domain of the power-up order is not good within 5 ms of its step (R384). -/
def domainTimeout (d : Nat) (ok : Bool) (s : State) : State :=
  if s.pwr.seq.head? = some d ∨ (d = 5 ∧ s.pwr.seq.head? = some 4) then startFail 0x01 ok s else s

/-- A fault of the control cores during a start, once their watchdog is armed, fails the start (Table 16.4). -/
def coreFaultInStart (ok taken : Bool) (s : State) : State :=
  if 1 ≤ stage s ∧ starting s = true then startFail 0x0C ok (reportFault { id := 0x0A, kind := U_CORES } s) else controlCoreFault taken s

/-- RUN has not been reached 3,000 ms after the release of module reset, staging copies not counted. -/
def startDeadline (ok : Bool) (s : State) : State :=
  if starting s = false ∨ now s < 3000000000 + s.boot.copyNs then s else startFail 0x0B ok s

/-! ### The ROM step (R406, R408, R412) -/

/-- The record after the ROM step: the count lowered where the last start was interrupted, a failed trial reverted, and the count
raised. -/
def romRecord (s : State) (r : StoreRec) : StoreRec × Bool :=
  let cause := rdF s PWR_STATUS.RESET_CAUSE
  let a := if 1 ≤ cause ∧ cause ≤ 4 then r.attempts - 1 else r.attempts
  let reverted := decide (r.trial = 1 ∧ 1 ≤ a)
  let r := if reverted then { r with slot := 1 - r.slot, trial := 0 } else r
  ({ r with attempts := a + 1 }, reverted)

/-- The slot that starts: BOOT_SLOT if its image is valid, else the other if valid (R408). -/
def chooseSlot (s : State) (slot : Nat) : Option Nat :=
  let good := fun k => (validIn s (slotFlash s k) SLOT_OFS SLOT_SIZE 1).isSome
  if good slot then some slot else if good (1 - slot) then some (1 - slot) else none

/-- BOOT_STATUS and BOOT_REASON show the record. -/
def showRecord (r : StoreRec) (s : State) : State :=
  wrF (wrF (wrF s BOOT_STATUS.ATTEMPTS r.attempts) BOOT_STATUS.TRIAL r.trial) BOOT_REASON.REASON r.lastReason

/-- The boot ROM reads the store, counts the start and chooses the slot; `pll`: the root PLL has locked; `oks`: the outcomes of the
commits in their order. -/
def bootStart (pll : Bool) (oks : List Bool) (s : State) : State :=
  if stage s ≠ 0 ∨ s.boot.begun = true then s
  else if pll = false then startFail 0x02 (oks.getD 0 true) (wrB s CLK_STATUS.ROOT_LOCK false)
  else
    let s := wrB (lockClocks { s with boot := { s.boot with begun := true } }) ID_STATUS.KEY s.otp.key
    let fresh := (newest s).isNone
    let s := if fresh then bootLog 0 (commitRecord {} (oks.getD 0 true) s) else s
    if fresh = true ∧ oks.getD 0 true = false then enterSeedling 0x0A s
    else
      let oks := if fresh then oks.drop 1 else oks
      let r := record s
      if r.attempts = 3 then enterSeedling r.lastReason s
      else
        let (r, reverted) := romRecord s r
        let s := if reverted then bootLog 0x10 s else s
        let s := commitRecord r (oks.getD 0 true) s
        if oks.getD 0 true = false then enterSeedling 0x0A s
        else
          let s := showRecord r s
          match chooseSlot s r.slot with
          | some k => wrF (wrF s BOOT_STATUS.SLOT k) BOOT_STATUS.STAGE 1
          | none => seedlingWith 0x03 (oks.getD 1 true) s

/-! ### The stages -/

/-- LOADER: the boot image and the Shallot firmware are measured, the latter is copied into Shallot's SRAM, Shallot's self-test passes, and the device certificate is
looked at. -/
def loaderStage (o : BootOutcome) (s : State) : State :=
  let image := (imageIn (slotFlash s (rdF s BOOT_STATUS.SLOT)) SLOT_OFS SLOT_SIZE).getD []
  let s := extend 1 (Config.shallotImage image) (extend 0 image s)
  let s := { s with shl := { s.shl with firmware := Config.shallotImage image } }
  let s := wrF { s with boot := { s.boot with svnBoot := imageSvn image } } ID_FW.BOOT_SVN (imageSvn image)
  if o.selfTest = false then startFail 0x04 (o.store.getD 0 true) s
  else
    let good := certGood s
    let s := wrB s ID_STATUS.CERT good
    wrF (if good then s else bootLog 0x0E s) BOOT_STATUS.STAGE 2

/-- A staged image is copied to the active area of flash A; `bit` is its STAGED bit (R421). -/
def stageCopy (b base size type : Nat) (copyOk ok : Bool) (s : State) : State :=
  if bit (record s).staged b = false ∨ starting s = false ∨ s.pwr.phase ≠ .run then s
  else
    let clear := fun (r : StoreRec) => { r with staged := clearBit r.staged b }
    match validIn s s.flash.b base size type with
    | none =>
      let s := bootLog 0x0D (commitRecord (clear (record s)) ok s)
      if ok then s else enterSeedling 0x0A s
    | some image =>
      if copyOk = false then startFail 0x05 ok s
      else
        let s := noteFlash 0 base size image.length { s with flash := { s.flash with a := writeArea s.flash.a base size image } }
        let r := clear (record s)
        let s := commitRecord (if type = 3 then { r with blobSeq := imageSeq image } else r) ok s
        if ok then s else enterSeedling 0x0A s

/-- The start goes on: no condition of this stage has ended it. -/
def goesOn (s : State) : Bool := starting s && decide (s.pwr.phase = .run)

def stagingStage (o : BootOutcome) (s : State) : State :=
  let s := { s with boot := { s.boot with copyNs := s.boot.copyNs + o.copyNs } }
  let s := stageCopy 0 FW_OFS FW_SIZE 2 (o.copyOk.getD 0 true) (o.store.getD 0 true) s
  let s := stageCopy 1 BLOB_OFS BLOB_SIZE 3 (o.copyOk.getD 1 true) (o.store.getD 1 true) s
  if goesOn s then wrF s BOOT_STATUS.STAGE 3 else s

/-- A set of masks that breaks the rule of R354. -/
def masksBad (ms : List Nat) : Bool := decide (ms.length ≠ 6) || !((List.range 6).all (fun k => maskOk k (ms.getD k 0)))

/-- The masks of the blob where it sets some; those of Table 14.3 stand otherwise, with a log entry where the blob is absent or invalid or
its set breaks the rule (R353, R354). -/
def applyMasks (masks : Option (List Nat)) (s : State) : State :=
  match masks with
  | some [] => s
  | some ms =>
    if masksBad ms then writeLog s 0 .mem 0x01 0 (Reg.MEM_HASH_LO 0).key
    else forEach (List.range 6) (fun k s => wr64 s (.MEM_HASH_LO k) (.MEM_HASH_HI k) (ms.getD k 0)) s
  | none => writeLog s 0 .mem 0x01 0 (Reg.MEM_HASH_LO 0).key

/-- The training record of channel `c` in the persistent store: 2 KiB, none where it is blank (R370, Table 16.8). -/
def trainingOf (r : StoreRec) (c : Nat) : Nat := r.training / 2 ^ (16384 * c) % 2 ^ 16384

/-- The channel trains in full: it has no record, or its record does not verify (R370). -/
def trainsInFull (o : BootOutcome) (s : State) (c : Nat) : Bool :=
  decide (trainingOf (record s) c = 0) || !(o.verified.getD c true)

/-- Full training succeeds in one of three tries. -/
def fullTraining (o : BootOutcome) (c : Nat) : Bool := (List.range 3).any (fun i => (o.tries.getD c []).getD i true)

/-- A channel is trained (R370). -/
def channelTrained (c : Nat) (s : State) : State :=
  setChannel (wrF s (MEM_CH_STATUS.STATE c) CH_ACTIVE) c { getChannel s c with trainedAt := now s }

/-- The training records after the full trainings of this start: what a training finds is open (R370). -/
def newTraining (o : BootOutcome) (s : State) : Nat :=
  (List.range 4).foldl (fun v c =>
    v + (if trainsInFull o s c then 1 + Config.freeNat (s.free + c) % (2 ^ 16384 - 1) else trainingOf (record s) c) * 2 ^ (16384 * c)) 0

/-- MEMORY: training of each channel, the blob's verification and its masks, and the zero-fill. -/
def memoryStage (o : BootOutcome) (s : State) : State :=
  let full := (List.range 4).filter (trainsInFull o s)
  let failed := full.filter (fun c => !(fullTraining o c))
  let store := o.store.getD 0 true
  if failed ≠ [] then startFail 0x06 store (forEach failed (fun c s => wrF s (MEM_CH_STATUS.STATE c) CH_FAILED) s)
  else
    let s := forEach (List.range 4) channelTrained (if full = [] then s else { commitRecord { record s with training := newTraining o s } store s with free := s.free + 4 })
    if full ≠ [] ∧ store = false then enterSeedling 0x0A s
    else
      let blob := validIn s s.flash.a BLOB_OFS BLOB_SIZE 3
      let s := { s with boot := { s.boot with blobDigest := blob.map Config.sha384 } }
      let s := applyMasks (blob.map (fun b => (Config.parseBlob (imageBody b)).masks)) s
      wrF { s with mem := { s.mem with bytes := [], poison := [], flaws := [] } } BOOT_STATUS.STAGE 4

/-- Where main firmware is loaded (Table 14.2). -/
def FW_LOAD : Nat := REGION31 + 0x18200000

/-- FIRMWARE: main firmware is verified, measured and loaded into region 31. -/
def firmwareStage (o : BootOutcome) (s : State) : State :=
  match validIn s s.flash.a FW_OFS FW_SIZE 2 with
  | none => startFail 0x05 (o.store.getD 0 true) s
  | some image =>
    let s := extend 2 image s
    let s := wrF { s with boot := { s.boot with svnMain := imageSvn image } } ID_FW.MAIN_SVN (imageSvn image)
    wrF (writeMem s FW_LOAD image) BOOT_STATUS.STAGE 5

/-- SETUP: the blob is read again and measured, Shallot loads its section, and the management port settings apply. -/
def setupStage (o : BootOutcome) (s : State) : State :=
  let ok := o.store.getD 0 true
  match imageIn s.flash.a BLOB_OFS BLOB_SIZE with
  | none => startFail 0x07 ok s
  | some image =>
    if s.boot.blobDigest ≠ some (Config.sha384 image) then startFail 0x08 ok s
    else
      let s := extend 3 image s
      let body := Config.parseBlob (imageBody image)
      if sectionOk s body.shallot = false then startFail 0x09 ok (safeFault 4 s)
      else
        let s := wrB (loadSection body.shallot s) SHL_STATUS.LOADED true
        let m := ofBytes (areaBytes body.mgmt 0 96)
        let s := if (record s).mgmt = m then s else commitRecord { record s with mgmt := m } ok s
        if (record s).mgmt ≠ m then enterSeedling 0x0A s else { s with boot := { s.boot with setupDone := true } }

/-! ### The meanings; `ok`: the commit of LAST_REASON succeeds -/

def execBootStart (t : Nat) (pll : Bool) (oks : List Bool) (s : State) : Host.Outcome State Fault Refusal := actEarly t (bootStart pll oks) s
def execStartDeadline (t : Nat) (ok : Bool) (s : State) : Host.Outcome State Fault Refusal := act t (startDeadline ok) s
def execDomainGoodTimeout (t d : Nat) (ok : Bool) (s : State) : Host.Outcome State Fault Refusal := actPd0 t (domainTimeout d ok) s
def execControlCoreWdExpiry (t : Nat) (ok taken : Bool) (s : State) : Host.Outcome State Fault Refusal := act t (coreFaultInStart ok taken) s

/-- A report on the fault bus; `ok`: a retry succeeds (fault 0x0B), the store commits (fault 0x0A during a start), or the change of a
manager command in progress was taken (fault 0x0A after it). -/
def execFaultReport (t id unit detail line col last : Nat) (ok : Bool) (s : State) : Host.Outcome State Fault Refusal :=
  if 1 ≤ id ∧ id ≤ 3 then actPd0 t (shallotFault id) s
  else act t (fun s => if id = 0x0A then coreFaultInStart ok ok s else faultReport id unit detail line col last ok s) s

end Sys2Proof.Machine
end

