-- ==== Sys2Proof/Machine/Engines.lean ====
section
/-! DEFINITION. The commands whose engines read and write device memory: their effect, what their accesses do to the memory (R355, R361,
R368, R374), and how an engine reacts to poisoned data (R143, R203, Tables 5.13, 7.6 and 10.5). -/

namespace Sys2Proof.Machine

/-! ### The reaction of the render engine (Table 5.13) -/

/-- A read of the command's delivered poisoned data. -/
def readBad (s : State) : Bool := s.touched.any (·.bad)

/-- Work `f` of context `c`: where it reads poisoned data its cluster faults, in the tile phase by Table 5.13 row 2, whose retry reads
the same data, and otherwise by row 3, where the writes already made stand. -/
def renderWork (tile : Bool) (c : Nat) (f : State → State) (s : State) : State :=
  let u := f s
  if memClean s then wakeTouched u
  else match readBad u, (clustersOf s c).head? with
    | true, some k =>
      clusterFault k (if tile then 1 else 2) false (settleMem { s with mem := if tile then s.mem else u.mem, touched := u.touched, free := u.free })
    | _, _ => settleMem u

/-! ### Layer pipes (Table 7.6) -/

/-- The lines of tile row `row`, of `h` in all. -/
def rowLines (row h : Nat) : List Nat := (List.range 32).filterMap (fun i => if row * 32 + i < h then some (row * 32 + i) else none)

/-- A read for the pipe fails: outside what its surfaces' owner reaches, or poisoned. -/
def fetchFails (s : State) (own : Nat) (r : Nat × Nat) : Bool := !(reaches s own r.1 r.2) || poisonedRange s r.1 r.2

/-- The fault pixels of the pipe in a tile row: on each line, from the first pixel that a failed read supplies to its end. -/
def fetchFaults (s : State) (q : PipeView) (own w : Nat) (ys : List Nat) : List FaultPixels :=
  ys.filterMap (fun y =>
    ((List.range w).find? (fun x => (q.reads x y).any (fetchFails s own))).map (fun x => { line := y, col := x, last := y }))

/-- The reads at both ends of each line that the pipe shows. -/
def lineEnds (q : PipeView) (w : Nat) (ys : List Nat) : List (Nat × Nat) :=
  let x0 := q.dstX.toNat
  let x1 := min (w - 1) (q.dstX + q.dstW - 1).toNat
  ys.flatMap (fun y => q.reads x0 y ++ q.reads x1 y)

/-- The fetch of a pipe for a tile row: in memory without errors it leaves a trace of its traffic alone; where a read fails, the pipe has
fault pixels, and one fault for the frame (R203, R361, R368). -/
def fetchPipe (w : Nat) (ys : List Nat) (p : Nat) (s : State) : State :=
  let q := pipeView s p
  let x := getPipe s p
  let inside := planesInside s x.owner q.shape x.surf0 x.surf1
  if q.retired then s
  else if memClean s = true ∧ inside = true then { s with touched := (lineEnds q w ys).map (fun r => { addr := r.1, len := r.2 }) ++ s.touched }
  else
    let fs := fetchFaults s q x.owner w ys
    let s := forEach ys (fun y s => forEach (List.range w) (fun c s => forEach (q.reads c y) (fun r s => if reaches s x.owner r.1 r.2 then touch s r.1 r.2 else s) s) s) s
    if fs.isEmpty then s
    else
      let l := getLease s K_PIPE p
      let s := if inside then s else incF s MEM_MMU_FAULT.COUNT fs.length
      let s := setPipe s p { getPipe s p with faults := fs ++ x.faults }
      if x.faults.isEmpty then reportFault { id := 0x0C, kind := U_PIPE, unit := p, inst := if l.state = .held then l.holder else 0, detail := 1 } s else s

/-! ### Plates (Table 10.5 row 0x02) -/

/-- The plate row of a region at an active line. -/
def plateRow (s : State) (h r y : Nat) : Option (Nat × Nat) :=
  let y0 := rdF s (ART_R_POS.Y h r)
  if y < y0 ∨ y0 + rdF s (ART_R_SIZE.H h r) ≤ y then none
  else ((regionPlate s h r).bind (fun p => s.art.plates[p]?)).map (fun q => (q.addr + 4 * (y - y0) * q.w, 4 * q.w))

/-- The plate read of a region for a tile row. -/
def fetchPlate (h : Nat) (ys : List Nat) (r : Nat) (s : State) : State :=
  let rows := ys.filterMap (fun y => (plateRow s h r y).map (fun a => (y, a)))
  let s := forEach rows (fun a s => touch s a.2.1 a.2.2) s
  match rows.find? (fun a => poisonedRange s a.2.1 a.2.2) with
  | none => s
  | some a => if (getRegion s h r).guardFrom.isSome then s else plateScanFault h r a.1 s

/-- A tile row of a head is fetched. -/
def fetchRow (h row : Nat) (s : State) : State :=
  let v : View := s.dsp.active
  if 12 ≤ h ∨ headOn v h = false ∨ (getHead s h).retiredLive = true then s
  else
    let ys := rowLines row (vact v h)
    forEach (regionsOf s h) (fetchPlate h ys) (if sourceOf s h = h then forEach (pipesOf v h) (fetchPipe (hact v h) ys) s else s)

/-! ### The meanings -/

def execCsNop (t c : Nat) (s : State) : Host.Outcome State Fault Refusal := act t (renderWork false c (csNop c)) s
def execSetState (t c : Nat) (s : State) : Host.Outcome State Fault Refusal := act t (renderWork false c (setState_ c)) s
def execBindPipeline (t c : Nat) (s : State) : Host.Outcome State Fault Refusal := act t (renderWork false c (bindPipeline c)) s
def execBindTable (t c : Nat) (s : State) : Host.Outcome State Fault Refusal := act t (renderWork false c (bindTable c)) s
def execBeginPass (t c : Nat) (s : State) : Host.Outcome State Fault Refusal := act t (renderWork false c (beginPass c)) s
def execDraw (t c : Nat) (s : State) : Host.Outcome State Fault Refusal := act t (renderWork false c (draw c)) s
def execDrawIndexed (t c : Nat) (s : State) : Host.Outcome State Fault Refusal := act t (renderWork false c (drawIndexed c)) s
def execDrawIndirect (t c : Nat) (s : State) : Host.Outcome State Fault Refusal := act t (renderWork false c (drawIndirect c)) s
def execEndPass (t c : Nat) (s : State) : Host.Outcome State Fault Refusal := act t (renderWork false c (endPass c)) s
def execDispatch (t c : Nat) (s : State) : Host.Outcome State Fault Refusal := act t (renderWork false c (dispatchCmd c)) s
def execDispatchIndirect (t c : Nat) (s : State) : Host.Outcome State Fault Refusal := act t (renderWork false c (dispatchIndirect c)) s
def execBarrier (t c : Nat) (s : State) : Host.Outcome State Fault Refusal := act t (renderWork false c (barrier c)) s
def execTileStore (t c tile : Nat) (s : State) : Host.Outcome State Fault Refusal := act t (renderWork true c (tileStore c tile)) s
def execSplitComplete (t c : Nat) (s : State) : Host.Outcome State Fault Refusal := act t (renderWork true c (splitComplete c)) s
def execWorkgroupComplete (t c d g : Nat) (s : State) : Host.Outcome State Fault Refusal := act t (renderWork false c (workgroupComplete c d g)) s
def execCopyComplete (t id : Nat) (data : List Byte) (s : State) : Host.Outcome State Fault Refusal :=
  act t (engineWork (copyComplete id data)) s
def execEngineSamplePeriod (t : Nat) (s : State) : Host.Outcome State Fault Refusal := actIn 12 t (engineWork samplePeriod) s
def execFontCopyComplete (t : Nat) (s : State) : Host.Outcome State Fault Refusal := actIn 6 t (engineWork fontCopyComplete) s
def execFontRegionRewriteComplete (t : Nat) (s : State) : Host.Outcome State Fault Refusal := actIn 6 t (engineWork fontRewriteComplete) s
def execPlateCrcCheck (t : Nat) (s : State) : Host.Outcome State Fault Refusal := actIn 6 t (engineWork plateCrcCheck) s
def execPlateRewriteComplete (t p : Nat) (ok : Bool) (s : State) : Host.Outcome State Fault Refusal :=
  actIn 6 t (engineWork (plateRewrite p ok)) s
def execWbCaptureComplete (t u : Nat) (s : State) : Host.Outcome State Fault Refusal := actIn 6 t (engineWork (captureComplete u)) s
def execIngestComplete (t : Nat) (s : State) : Host.Outcome State Fault Refusal := act t (engineWork ingestComplete) s
def execPageRemapComplete (t p : Nat) (s : State) : Host.Outcome State Fault Refusal := actIn 4 t (engineWork (remapComplete p)) s
def execValuePost (t : Nat) (s : State) : Host.Outcome State Fault Refusal :=
  act t (engineWork (dispatch OP_VALUE_POST checkValuePost runValuePost)) s
def execFieldLatch (t f : Nat) (ecc : Bool) (s : State) : Host.Outcome State Fault Refusal :=
  actIn 6 t (fun s => if ecc then settleMem (fieldLatch f true s) else engineWork (fieldLatch f false) s) s
def execTileRowScan (t h row : Nat) (s : State) : Host.Outcome State Fault Refusal :=
  actIn 6 t (engineWork (fun s => tileRowScan (uncert s) h row (fetchRow h row s))) s

end Sys2Proof.Machine
end

