-- ==== Sys2Proof/Machine/RegAccess.lean ====
section
/-! DEFINITION. Host accesses: writes and reads of the setup registers, the ring setup pages, the doorbell pages, the mailbox pages
and the windows of BAR0 and BAR2 (R9, R11, R84 to R86, R404, R444 to R452, R457). -/

namespace Sys2Proof.Machine

/-! ### GPIO -/

/-- The GPIO pins that are driven: those with OE 1, in RUN (Table 17.7, R436). -/
def gpioDriven (s : State) : Nat := if s.pwr.phase = .run ∧ stage s = STAGE_RUN then rdF s PWR_GPIO.OE else 0

/-- IN: the levels of the last 1 µs sample, in which a driven pin has its OUT level and an input an open one (R436). -/
def gpioIn (s : State) : Nat :=
  let oe := gpioDriven s
  if s.pwr.gpio.1 = now s / 1000 then s.pwr.gpio.2 else (rdF s PWR_GPIO.OUT &&& oe) ||| (fresh s % 256 &&& (255 - oe))

/-- The sample of this µs stands, whatever is written after it. -/
def keepSample (s : State) : State := spend { s with pwr := { s.pwr with gpio := (now s / 1000, gpioIn s) } }

/-! ### Writes of setup registers -/

/-- A register without a rule of its own: its values are checked, then its fields act (R11, R457). -/
def plainWrite (r : Reg) (v : Nat) (s : State) : State := if admitted r.fields v then writeFields s r v else logDiscard s r.key

/-- A register whose write also meets a condition of its own. -/
def guardedWrite (ok : Bool) (r : Reg) (v : Nat) (s : State) : State := if ok then plainWrite r v s else logDiscard s r.key

/-- LYR_n_FMT: no YCbCr format on a direct pipe, and SITE bits only as Table 7.3 has them (R182, R184). -/
def fmtOk (p v : Nat) : Bool :=
  let f := v % 256
  if isYcc f then decide (p < 48) && (is420 f || !(bit v 14)) else !(bit v 14) && !(bit v 15)

/-- AUD_Tp_WM (Table 12.6). -/
def watermarksOk (v : Nat) : Bool :=
  let ra := bitsOf v 31 24
  let rr := bitsOf v 23 16
  let tr := bitsOf v 15 8
  let ta := v % 256
  decide (rr < ra ∧ ra ≤ 56 ∧ 16 ≤ rr ∧ ta < tr ∧ tr ≤ 48 ∧ 6 ≤ ta)

/-- Every port has EN 0 and every channel is IDLE (R328). -/
def audioQuiet (s : State) : Bool :=
  (List.range 4).all (fun p => !(flag s (AUD_T_CFG.EN p))) && (List.range 64).all (fun a => decide (rdF s (AUD_A_STATUS.STATE a) = 0))

/-- A commit of a head of the group is pending (R222, R225). -/
def groupPending (s : State) (g : Nat) : Bool := (headsOf g).any (headPending s)

/-- A write that starts operations chosen by two bits: both together discard it. -/
def eitherBit (a b : Bool) (r : Reg) (f g other : State → State) (s : State) : State :=
  if a && b then logDiscard s r.key else if a then f s else if b then g s else other s

/-- A write of a register of BAR0, by the register (R444). -/
def writeReg (r : Reg) (v : Nat) (s : State) : State :=
  match r with
  | .ID_OUT_ADDR_LO => guardedWrite (decide (v % 8 = 0)) r v s
  | .ID_CTRL => idCtrl v s
  | .BOOT_CTRL => bootCtrl v true s
  | .UPD_CTRL => updCtrl v true s
  | .UPD_XFER_ADDR_LO => guardedWrite (decide (v % 4 = 0)) r v s
  | .UPD_XFER => updXfer v s
  | .PWR_CTRL => if stage s = STAGE_RUN then renderOn (plainWrite r v s) else plainWrite r v s
  | .PWR_RESET => pwrReset v s
  | .PWR_GPIO => plainWrite r v (keepSample s)
  | .TIME_CTRL => writeTimeCtrl v s
  | .TIME_TAI_OFFSET_LO => writeTaiLo v s
  | .TIME_TAI_OFFSET_HI => writeTaiHi v s
  | .SHL_MGR_KICK => mgrKick (v % 65536) s
  | .SHL_UNRETIRE => writeUnretire v s
  | .HOST_PASID m _ => guardedWrite (let st := instState s (m + 1); decide (st ≠ ENABLED ∧ st ≠ PARKED ∧ st ≠ RESETTING)) r v s
  | .INST_JBACK => guardedWrite (locked s || placeOk s (bitsOf v 13 0) (bitsOf v 29 16) true && placeFree s (bitsOf v 13 0) (bitsOf v 29 16) [fontRange s]) r v s
  | .INST_MGR_MB_DOORBELL => batch (v % 65536) (getInst s 0).outPage s
  | .MEM_ECC_EN => eccChange v s
  | .RND_CTX_CFG _ => syncDemoted (plainWrite r v s)
  | .RND_CTX_SPILL _ => guardedWrite (placeOk s (bitsOf v 13 0) (bitsOf v 30 16) false) r v s
  | .SHD_CTX_SAVE _ => guardedWrite (placeOk s (bitsOf v 13 0) (bitsOf v 30 16) false) r v s
  | .SHD_HD_COMP _ => syncDemoted (plainWrite r v s)
  | .LYR_FMT p => guardedWrite (fmtOk p v && !(pipePending s p)) r v s
  | .LYR_HEAD p => guardedWrite (!(pipePending s p)) r v s
  | .LYR_SRC p => guardedWrite (!(pipePending s p)) r v s
  | .LYR_PITCH p => guardedWrite (!(pipePending s p)) r v s
  | .LYR_CROP_XY p => guardedWrite (!(pipePending s p)) r v s
  | .LYR_CROP_WH p => guardedWrite (!(pipePending s p)) r v s
  | .LYR_DST_XY p => guardedWrite (!(pipePending s p)) r v s
  | .LYR_DST_WH p => guardedWrite (!(pipePending s p)) r v s
  | .LYR_RP p => guardedWrite (!(pipePending s p)) r v s
  | .LYR_COEF_SEL p => guardedWrite (!(pipePending s p)) r v s
  | .LYR_COEF_DATA p => coefWrite p (BitVec.ofNat 32 v) s
  | .HD_CTRL h => guardedWrite (!(headPending s h) && !(decide (h % 2 = 1) && bit v 30)) r v s
  | .HD_HTIM h => guardedWrite (!(headPending s h)) r v s
  | .HD_HSYNC h => guardedWrite (!(headPending s h)) r v s
  | .HD_VTIM h => guardedWrite (!(headPending s h)) r v s
  | .HD_VSYNC h => guardedWrite (!(headPending s h)) r v s
  | .HD_BG h => guardedWrite (!(headPending s h)) r v s
  | .HD_OUT h => guardedWrite (!(headPending s h)) r v s
  | .HD_LINK h => guardedWrite (!(headPending s h)) r v s
  | .HD_COMMIT h => eitherBit (bit v 0) (bit v 2) r (headGo h) (headCancel h) id s
  | .HDG_PLL g => guardedWrite (!(groupPending s g)) r v s
  | .HDG_GENLOCK g => guardedWrite (!(groupPending s g)) r v s
  | .HDCG_CTRL k => eitherBit (bit v 31) (bit v 30) r (groupGo k (v % 4096)) (fun s => groupCancel k (groupMask k (v % 4096) s)) (groupMask k (v % 4096)) s
  | .VAL_FDESC_CTRL => eitherBit (bit v 31) (bit v 30) r (fdescWrite v) (fdescRead v) (fun s => wrF s VAL_FDESC_CTRL.FIELD (v % 65536)) s
  | .VAL_FONT_SRC => guardedWrite (locked s || fontPlaceOk s (bitsOf v 13 0)) r v s
  | .VAL_FONT_LOAD => if bit v 31 then fontLoad s else s
  | .AUD_A_XP _ _ => plainWrite r v (keepBefore r s)
  | .AUD_A_GAIN a => gainWrite false a v s
  | .AUD_B_GAIN b => gainWrite true b v s
  | .AUD_A_RCTL a => routeGo a v s
  | .AUD_B_EQ b => if bit v 31 then eqSwap b s else s
  | .AUD_EQ_DATA => eqDataWrite v s
  | .AUD_T_CFG p => writeTdmCfg p v s
  | .AUD_T_WM p => guardedWrite (watermarksOk v && !(flag s (AUD_T_CFG.EN p))) r v s
  | .AUD_T_TXMAP p k => mapWrite false p k v s
  | .AUD_HD_MAP h k => mapWrite true h k v s
  | .AUD_CFG => guardedWrite (locked s || audioQuiet s) r v s
  | .TCH_P_CFG p => writeTouchPort p v s
  | .TCH_S_SRC n => if admitted r.fields v then writeSurface n r v s else logDiscard s r.key
  | .TCH_S_MAP0 n => if admitted r.fields v then writeSurface n r v s else logDiscard s r.key
  | .TCH_S_MAP1 n => if admitted r.fields v then writeSurface n r v s else logDiscard s r.key
  | .TCH_S_MAP2 n => if admitted r.fields v then writeSurface n r v s else logDiscard s r.key
  | .TCH_R_CFG n => writeRoute n v s
  | .HAP_K_CFG n => if admitted r.fields v then writeHapCfg n v s else logDiscard s r.key
  | _ => plainWrite r v s

/-! ### Ring setup pages (R111, R112, R452) -/

/-- A BASE register of a ring: only while the ring is disabled. -/
def writeBase (fn : Nat) (r : Reg) (enabled : Bool) (v : Nat) (s : State) : State :=
  if enabled then logRingDiscard s fn (r.key % 2 ^ 32) else writeFields s r v

def writeMod (fn : Nat) (r : Reg) (v : Nat) (s : State) : State :=
  if admitted r.fields v then writeFields s r v else logRingDiscard s fn (r.key % 2 ^ 32)

/-- A write in the ring setup page of function `fn`. -/
def writePageReg (fn : Nat) (p : PageReg) (v : Nat) (s : State) : State :=
  match p with
  | .SQ_BASE_LO q => writeBase fn (.page fn p) (flag s (SQ_CFG.ENABLE fn q)) v s
  | .SQ_BASE_HI q => writeBase fn (.page fn p) (flag s (SQ_CFG.ENABLE fn q)) v s
  | .SQ_CFG q => writeSqCfg fn q v s
  | .CQ_BASE_LO c => writeBase fn (.page fn p) (flag s (CQ_CFG.ENABLE fn c)) v s
  | .CQ_BASE_HI c => writeBase fn (.page fn p) (flag s (CQ_CFG.ENABLE fn c)) v s
  | .CQ_CFG c => writeCqCfg fn c v s
  | .CQ_MOD _ => writeMod fn (.page fn p) v s
  | .EQ_BASE_LO => writeBase fn (.page fn p) (flag s (EQ_CFG.ENABLE fn)) v s
  | .EQ_BASE_HI => writeBase fn (.page fn p) (flag s (EQ_CFG.ENABLE fn)) v s
  | .EQ_CFG => writeEqCfg fn v s
  | .EQ_MOD => writeMod fn (.page fn p) v s
  | .INST_LEASE_KICK => leaseKick fn (v % 65536) s
  | .INST_MB_DOORBELL => tenantRequest fn (v % 65536) (getInst s fn).outPage s
  | _ => s

/-- A write in the ring setup page: one of a setup register that meets a reset of its instance is discarded without a log entry
(R449). -/
def writeRingPage (fn off v : Nat) (s : State) : State :=
  match regOfPage fn off with
  | some (.page f p) => if p ≠ .INST_LEASE_KICK ∧ p ≠ .INST_MB_DOORBELL ∧ justReset s f = true then s else writePageReg f p v s
  | _ => s

/-! ### Doorbells, mailbox pages and MSI-X tables (Tables 4.2, 4.3, 4.9) -/

/-- A write in a doorbell page: generation and index (R104). -/
def writeDoorbell (fn off v : Nat) (s : State) : State :=
  let gen := v / 65536
  let idx := v % 65536
  if off < 0x200 then sqTailDoorbell fn (off / 4) gen idx s
  else if off < 0x300 then cqHeadDoorbell fn ((off - 0x200) / 4) gen idx s
  else if off = 0x300 then eqHeadDoorbell fn gen idx s
  else s

/-- Word `off / 4` of a mailbox page replaced. -/
def pageWord (p : Page) (off v : Nat) : Page := BitVec.ofNat 2048 (setBits p.toNat (8 * off + 31) (8 * off) v)

/-- A word of the outbound page of a function; discarded while a tenant is ABSENT or DESTROYING (R459). -/
def writeOutPage (fn off v : Nat) (s : State) : State :=
  let st := instState s fn
  if fn ≠ 0 ∧ (st = ABSENT ∨ st = DESTROYING) then s
  else setInst s fn { getInst s fn with outPage := pageWord (getInst s fn).outPage off v }

/-- A word of a function's MSI-X table; a vector that is unmasked sends what waits (R107). -/
def writeMsix (fn off v : Nat) (s : State) : State :=
  let w := off / 4 % 4
  let k := off / 16
  let s := { s with host := { s.host with msix := Sparse.set (msixReset w) s.host.msix (msixKey fn k w) (BitVec.ofNat 32 (if w = 3 then v % 2 else v)) } }
  if w = 3 ∧ v % 2 = 0 then vectorUnmask fn k s else s

/-! ### Writes (R84, R85, R404) -/

/-- A BAR0 offset that responds in this stage of the start, and in Seedling mode (R404, R409). -/
def responds (s : State) (off : Nat) : Bool := decide (stage s = STAGE_RUN ∨ off < 0x500 ∨ (0x20000 ≤ off ∧ off < 0x30000))

/-- A write of a 32-bit word at an offset of BAR0. -/
def bar0Word (off v : Nat) (s : State) : State :=
  if off < 0x1000000 then (match regOfSetup off with | some r => writeReg r v s | none => s)
  else if off < 0x1001000 then writeDoorbell 0 (off - 0x1000000) v s
  else if off < 0x1001100 then writeOutPage 0 (off - 0x1001000) v s
  else if 0x1002000 ≤ off ∧ off < 0x1003000 then writeRingPage 0 (off - 0x1002000) v s
  else if 0x1010000 ≤ off ∧ off < 0x1010400 then writeMsix 0 (off - 0x1010000) v s
  else if 0x1110000 ≤ off ∧ off < 0x1120000 then
    let n := (off - 0x1110000) / 256 + 1
    setInst s n { getInst s n with window := pageWord (getInst s n).window (off % 256) v }
  else s

/-- A host write of a 32-bit word in BAR0; before RUN only the offsets that respond take it. -/
def writeBar0 (off v : Nat) (s : State) : State := if responds s off then bar0Word off v s else s

/-- A host write of a 32-bit word in the BAR2 of VF `n`. -/
def writeBar2 (n off v : Nat) (s : State) : State :=
  if exists? s n = false then s
  else if off < 0x1000 then writeDoorbell n off v s
  else if 0x4000 ≤ off ∧ off < 0x4100 then writeOutPage n (off - 0x4000) v s
  else if 0x8000 ≤ off ∧ off < 0x9000 then writeRingPage n (off - 0x8000) v s
  else if 0xC000 ≤ off ∧ off < 0xC080 then writeMsix n (off - 0xC000) v s
  else s

/-- A host write of `size` bytes: only aligned 32-bit writes act (R9). -/
def hostWrite (fn off size v : Nat) (s : State) : State :=
  if size ≠ 4 ∨ off % 4 ≠ 0 then s else if fn = 0 then writeBar0 off v s else writeBar2 fn off v s

/-! ### Reads -/

/-- The stored record that the PEEK registers show. -/
def peeked (s : State) : Option VRecord := (getField s (rdF s VAL_PEEK_SEL.FIELD)).record

/-- What a register reads as: the value it holds, or its live value. -/
def readReg (s : State) (r : Reg) : Word :=
  let n : Nat → Word := BitVec.ofNat 32
  match r with
  | .TIME_NOW_LO => n (dtime s)
  | .TIME_NOW_HI => n (dtime s / 2 ^ 32)
  | .TIME_UNCERT => n (uncert s)
  | .TIME_STATUS => n (setBits (rd s r).toNat 31 16 (holdoverS s))
  | .MEM_PAGE_ENTRY_LO => n (entryWord s (rdF s MEM_PAGE_SEL.PAGE))
  | .MEM_PAGE_ENTRY_HI => n (entryWord s (rdF s MEM_PAGE_SEL.PAGE) / 2 ^ 32)
  | .MEM_CH_STATUS c => if memState s c = CH_ACTIVE ∧ paused s c = true then n (setBits (rd s r).toNat 31 28 CH_PAUSED) else rd s r
  | .LYR_COEF_DATA p =>
    let k := rdF s (LYR_COEF_ADDR.WORD p)
    Sparse.get (coefWordInit k) s.dsp.coef (coefKey p (rdF s (LYR_COEF_ADDR.BANK p)) k)
  | .HDG_STATUS g =>
    if genlockState s g = GL_HOLDOVER then n (setBits (rd s r).toNat 31 16 (min ((now s - (getGroup s g).holdEntry) / 10 ^ 9) 0xFFFF)) else rd s r
  | .VAL_PEEK_VAL_LO => n (match peeked s with | some x => x.value | none => 0)
  | .VAL_PEEK_VAL_HI => n (match peeked s with | some x => x.value / 2 ^ 32 | none => 0)
  | .VAL_PEEK_MEAS_LO => n (match peeked s with | some x => x.meas | none => 0)
  | .VAL_PEEK_MEAS_HI => n (match peeked s with | some x => x.meas / 2 ^ 32 | none => 0)
  | .VAL_PEEK_STATE => n (match peeked s with | some x => x.quality * 256 + 1 | none => 0)
  | .AUD_EQ_DATA =>
    let w := rdF s AUD_EQ_ADDR.WORD
    n (Sparse.get (eqReset w) s.aud.coef (rdF s AUD_EQ_ADDR.BUS * 64 + rdF s AUD_EQ_ADDR.BANK * 32 + w))
  | .PWR_GPIO => n (setBits (rd s r).toNat 23 16 (gpioIn s))
  | .ID_SUBSYS => if s.otp.variantI then 0x00331D4A else rd s r
  | .ID_FAMILY => if s.otp.variantI then 0x01032101 else rd s r
  | .page f .INST_SELF => n (f + instState s f * 2 ^ 12 + instGen s f * 2 ^ 16)
  | .page _ .VF_TIME_NOW_LO => n (dtime s)
  | .page _ .VF_TIME_NOW_HI => n (dtime s / 2 ^ 32)
  | .page _ .VF_TIME_STATUS => n (setBits (rd s .TIME_STATUS).toNat 31 16 (holdoverS s))
  | .page _ .VF_TIME_TAI_OFFSET_LO => rd s .TIME_TAI_OFFSET_LO
  | .page _ .VF_TIME_TAI_OFFSET_HI => rd s .TIME_TAI_OFFSET_HI
  | _ => rd s r

/-- The register that holds the high word of the value of which this one holds the low word (R9). -/
def highWord (r : Reg) : Option Reg :=
  match r with
  | .ID_OUT_ADDR_LO => some .ID_OUT_ADDR_HI
  | .UPD_PKG_LO => some .UPD_PKG_HI
  | .UPD_XFER_ADDR_LO => some .UPD_XFER_ADDR_HI
  | .TIME_NOW_LO => some .TIME_NOW_HI
  | .TIME_TAI_OFFSET_LO => some .TIME_TAI_OFFSET_HI
  | .ART_R_TSRC_LO h r => some (.ART_R_TSRC_HI h r)
  | .MEM_HASH_LO k => some (.MEM_HASH_HI k)
  | .MEM_ECC_LAST_LO => some .MEM_ECC_LAST_HI
  | .MEM_PAGE_ENTRY_LO => some .MEM_PAGE_ENTRY_HI
  | .MEM_CH_LAST_LO c => some (.MEM_CH_LAST_HI c)
  | .LYR_TSRC_LO p => some (.LYR_TSRC_HI p)
  | .HDG_FRAME_LO g => some (.HDG_FRAME_HI g)
  | .VAL_PEEK_VAL_LO => some .VAL_PEEK_VAL_HI
  | .VAL_PEEK_MEAS_LO => some .VAL_PEEK_MEAS_HI
  | .AUD_T_TIME_LO p => some (.AUD_T_TIME_HI p)
  | .AUD_BLOCK_TIME_LO => some .AUD_BLOCK_TIME_HI
  | .page f (.SQ_BASE_LO q) => some (.page f (.SQ_BASE_HI q))
  | .page f (.CQ_BASE_LO c) => some (.page f (.CQ_BASE_HI c))
  | .page f .EQ_BASE_LO => some (.page f .EQ_BASE_HI)
  | .page f .VF_TIME_NOW_LO => some (.page f .VF_TIME_NOW_HI)
  | .page f .VF_TIME_TAI_OFFSET_LO => some (.page f .VF_TIME_TAI_OFFSET_HI)
  | _ => none

/-- The RC fields of a register (R11). -/
def rcFields (r : Reg) : List FieldSpec := r.fields.filter (fun f => decide (f.acc = .rc))

/-- What this cycle has counted in an RC field: the value before, and the events (Table 18.2). -/
def countedIn (s : State) (r : Reg) (f : FieldSpec) : Nat × Nat := Sparse.get (0, 0) (meetNow s).counted (32 * r.key + f.lo)

/-- What a read of the register finds: an RC counter without the events of this cycle (R449). -/
def valueBefore (s : State) (r : Reg) (v : Word) : Word :=
  BitVec.ofNat 32 ((rcFields r).foldl (fun v f => if (countedIn s r f).2 = 0 then v else setBits v f.hi f.lo (countedIn s r f).1) v.toNat)

/-- A read clears the register's RC fields, which then hold the events of this cycle (R11, R449). -/
def clearRead (s : State) (r : Reg) : State :=
  let v := (rcFields r).foldl (fun v f => setBits v f.hi f.lo (min (countedIn s r f).2 (2 ^ (f.hi + 1 - f.lo) - 1))) (rd s r).toNat
  let m := (rcFields r).foldl (fun (m : Meet) f =>
      if (countedIn s r f).2 = 0 then m
      else { m with counted := Sparse.set (0, 0) m.counted (32 * r.key + f.lo) (0, (countedIn s r f).2) }) (meetNow s)
  if rcFields r = [] then s else wr { s with meet := m } r (BitVec.ofNat 32 v)

def answer (v : Word) (s : State) : State := { s with host := { s.host with lastRead := v } }

/-- A read of a register by function `fn`: a low word latches its high word, a high word returns what is latched for it, and an RC
field clears (R9, R11, R449). -/
def readRegister (fn : Nat) (r : Reg) (s : State) : State :=
  let l := s.host.latch.find? (fun e => decide (e.1 = fn ∧ e.2.1 = r.key))
  let drop := fun (k : Nat) (m : List (Nat × Nat × Word)) => m.filter (fun e => !(decide (e.1 = fn ∧ e.2.1 = k)))
  match l with
  | some e => answer e.2.2 { s with host := { s.host with latch := drop r.key s.host.latch } }
  | none =>
    let s := if r = .PWR_GPIO then keepSample s else s
    let v := valueBefore s r (readReg s r)
    let s := match highWord r with
      | some h => { s with host := { s.host with latch := (fn, h.key, readReg s h) :: drop h.key s.host.latch } }
      | none => s
    spend (answer v (clearRead s r))

/-- The lease record of a unit (Table 3.6). -/
def leaseRecord (s : State) (kind unit : Nat) : Nat :=
  let l := getLease s kind unit
  let st := match l.state with | .free => 0 | .held => 1 | .revoking => 2 | .retired => 3
  let held := decide (l.state = .held ∨ l.state = .revoking)
  at8 0 kind + at8 1 st + at16 2 unit + at16 4 (if held then l.holder else 0) + at16 6 l.gen + at32 8 l.termMs + at8 12 l.endReason
  + at16 14 l.lastHolder + at64 16 (if l.termMs = 0 then 0 else l.expiry) + at64 24 l.granted

/-- The lease that record `i` of the window is of (Table 4.4). -/
def leaseOfIndex (i : Nat) : Option (Nat × Nat) :=
  let rec go (i : Nat) : List Nat → Option (Nat × Nat)
    | [] => none
    | k :: ks => if i < unitsOf k then some (k, i) else go (i - unitsOf k) ks
  go i [1, 2, 3, 4, 5, 6, 7]

/-- Word at byte `off` of a number. -/
def wordOf (x off : Nat) : Word := BitVec.ofNat 32 (x >>> (8 * off))

/-- A window of BAR0 that is not of registers (Table 4.2, R446). -/
def windowWord (s : State) (off : Nat) : Word :=
  let inst := fun (o : Nat) (f : Inst → Page) => wordOf (f (getInst s (o / 256 + 1))).toNat (o % 256)
  if 0xF00000 ≤ off ∧ off < 0xF10000 then wordOf (Sparse.get 0 s.shl.log ((off - 0xF00000) / 16)).toNat (off % 16)
  else if 0x1001000 ≤ off ∧ off < 0x1001100 then wordOf (getInst s 0).outPage.toNat (off % 256)
  else if 0x1001100 ≤ off ∧ off < 0x1001200 then wordOf (getInst s 0).inPage.toNat (off % 256)
  else if 0x1010000 ≤ off ∧ off < 0x1010400 then msixWord s 0 ((off - 0x1010000) / 16) (off / 4 % 4)
  else if 0x1010800 ≤ off ∧ off < 0x1010808 then
    wordOf ((List.range 64).foldl (fun v i => if s.host.msixPend.contains i then setBit v i else v) 0) (off - 0x1010800)
  else if 0x1100000 ≤ off ∧ off < 0x1110000 then inst (off - 0x1100000) (·.mirror)
  else if 0x1110000 ≤ off ∧ off < 0x1120000 then inst (off - 0x1110000) (·.window)
  else if 0x1200000 ≤ off ∧ off < 0x1300000 then
    (match leaseOfIndex ((off - 0x1200000) / 32) with | some k => wordOf (leaseRecord s k.1 k.2) (off % 32) | none => 0)
  else if 0x1300000 ≤ off ∧ off < 0x1340000 then wordOf (Sparse.get 0 s.fab.journal ((off - 0x1300000) / 32)).toNat (off % 32)
  else 0

def readBar0 (off : Nat) (s : State) : State :=
  if responds s off = false then answer 0 s
  else
    let r := if 0x1002000 ≤ off ∧ off < 0x1003000 then regOfPage 0 (off - 0x1002000) else if off < 0x1000000 then regOfSetup off else none
    match r with
    | some r => readRegister 0 r s
    | none => answer (windowWord s off) s

/-- The mailbox pages and MSI-X table of a VF (Table 4.3). -/
def vfWord (s : State) (n off : Nat) : Word :=
  if 0x4000 ≤ off ∧ off < 0x4100 then wordOf (getInst s n).outPage.toNat (off % 256)
  else if 0x4100 ≤ off ∧ off < 0x4200 then wordOf (getInst s n).inPage.toNat (off % 256)
  else if 0xC000 ≤ off ∧ off < 0xC080 then msixWord s n ((off - 0xC000) / 16) (off / 4 % 4)
  else if off = 0xC800 then BitVec.ofNat 32 ((List.range 8).foldl (fun v i => if s.host.msixPend.contains (n * 64 + i) then setBit v i else v) 0)
  else 0

def readBar2 (n off : Nat) (s : State) : State :=
  if exists? s n = false then answer 0 s
  else match (if 0x8000 ≤ off ∧ off < 0x9000 then regOfPage n (off - 0x8000) else none) with
    | some r => readRegister n r s
    | none => answer (vfWord s n off) s

/-- A host read of `size` bytes: only aligned 32-bit reads deliver a value (R9). -/
def hostRead (fn off size : Nat) (s : State) : State :=
  if size ≠ 4 ∨ off % 4 ≠ 0 then answer 0 s else if fn = 0 then readBar0 off s else readBar2 fn off s

/-! ### The meanings: `fn` 0 is an access of BAR0, `fn` n one of the BAR2 of VF n -/

def execRegisterWrite (t fn off size : Nat) (v : Word) (s : State) : Host.Outcome State Fault Refusal := act t (hostWrite fn off size v.toNat) s
def execLatchedLowWordRead (t fn off size : Nat) (s : State) : Host.Outcome State Fault Refusal := act t (hostRead fn off size) s
def execReadClearCounter (t fn off size : Nat) (s : State) : Host.Outcome State Fault Refusal := act t (hostRead fn off size) s
def execSetupLock (t : Nat) (v : Word) (s : State) : Host.Outcome State Fault Refusal := act t (plainWrite .ID_LOCK v.toNat) s

/-! ### Host read failures (R109) -/

/-- The host address from which the work of a flight reads, with the length, where it reads host memory. -/
def hostSource (d : Desc) : Nat := u64 d 32

/-- The failed read, of `len` bytes as it was issued, is issued again. -/
def retryRead (fn q id ofs len : Nat) (s : State) : State :=
  if id = 0 then
    send s (.hostRead fn none (rd64 s (.page fn (.SQ_BASE_LO q)) (.page fn (.SQ_BASE_HI q)) + 64 * rdF s (SQ_PTR.HEAD fn q)) len)
  else match (getSq s fn q).flights.find? (fun f => decide (f.id = id)) with
    | some f => send s (.hostRead fn (pasidOf s fn f.desc) (hostAddr (hostSource f.desc) + ofs) len)
    | none => s

/-- Work whose read has failed for good: a COPY stops (R96), a buffer plays the rest as 0 (R307), a command stream stops (R118). -/
def giveUp (fn q id : Nat) (good : List Byte) (st : Nat) (s : State) : State :=
  match s.host.copies.find? (fun c => decide (c.id = id)) with
  | some c => finishCopy c good (min good.length c.len) st s
  | none =>
    if s.aud.chans.any (fun c => c.2.bufs.any (fun b => decide (b.id = id))) then audioReadFailed id good st s
    else match s.rnd.ctxs.find? (fun c => match c.2.stream with | some x => decide (x.id = id) | none => false) with
      | some c => csGoOn c.1 (stopNowhere c.1 st s)
      | none =>
        let s := match s.rnd.ctxs.find? (fun c => c.2.queue.any (fun x => decide (x.id = id))) with
          | some c => recordEnd c.1 st 0xFFFFFFFF (setCtx s c.1 { c.2 with queue := c.2.queue.filter (fun x => x.id ≠ id) })
          | none => s
        complete s fn q id st

/-- A host read of `len` bytes fails; `good` are the bytes that the reads before it have delivered. -/
def hostReadFailure (fn q id : Nat) (soft : Bool) (good : List Byte) (len : Nat) (s : State) : State :=
  if exists? s fn = false ∨ sqCount fn ≤ q ∨ (id = 0 ∧ flag s (SQ_CFG.ENABLE fn q) = false) then s
  else readFailure fn q id good.length soft (retryRead fn q id good.length len)
    (fun st s => if id = 0 then haltRing fn q st s else giveUp fn q id good st s) s

def execHostReadFailure (t fn q id : Nat) (soft : Bool) (good : List Byte) (len : Nat) (s : State) : Host.Outcome State Fault Refusal :=
  act t (hostReadFailure fn q id soft good len) s

end Sys2Proof.Machine
end

