-- ==== Sys2Proof/Machine/Start.lean ====
section
/-! DEFINITION. The RUN step of a start, and the ends of the start's stages (R12, R70, R402, R403, R406, R451). -/

namespace Sys2Proof.Machine

/-- A write of the blob that is made after the others: a commit, or SETUP_LOCK. -/
def isCommitWrite (w : Nat × Nat) : Bool :=
  match regOfSetup w.1 with
  | some (.HD_COMMIT _) => bit w.2 0
  | some (.HDCG_CTRL _) => bit w.2 31
  | _ => false

def isLockWrite (w : Nat × Nat) : Bool := decide (regOfSetup w.1 = some .ID_LOCK)

def bootWrites (ws : List (Nat × Nat)) (s : State) : State := forEach ws (fun w s => bar0Word w.1 (w.2 % 2 ^ 32) s) s

/-- The fonts of the blob are placed and loaded (R253). -/
def bootFonts (fonts : List Byte) (s : State) : State :=
  if fonts = [] then s
  else
    let b := rdF s VAL_FONT_SRC.BASE
    if fontPlaceOk s b then fontLoad (writeMem s (b * CHUNK) (fonts.take FONT_SIZE)) else s

/-- A commit group that is not pending. -/
def freeCommitGroup (s : State) : Option Nat := (List.range 4).find? (fun k => (pendingGroup s k).isNone)

/-- The heads of a genlock group that the blob enables and has not committed are committed together. -/
def commitEnabled (g : Nat) (s : State) : State :=
  let hs := (headsOf g).filter (fun h => flag s (HD_CTRL.ENABLE h) && !(headPending s h))
  match freeCommitGroup s with
  | some k => if hs = [] then s else groupGo k (hs.foldl setBit 0) s
  | none => s

/-- The lease record of every unit that stays retired (R70). -/
def retiredLeases (s : State) : State :=
  forEach s.shl.retired (fun k s => match leaseKindOf k.1 with
    | some kind => setLease s kind k.2 { state := .retired, endReason := 3 }
    | none => s) s

/-- The fuse counters are raised to the SVNs of the images that the start ran (R402). -/
def raiseMinima (s : State) : State :=
  { s with otp := { s.otp with minBoot := max s.otp.minBoot s.boot.svnBoot, minMain := max s.otp.minMain s.boot.svnMain } }

/-- RUN is reached: its registers, records and counters, and its log entry. -/
def reachRun (s : State) : State :=
  let s := retiredLeases (raiseMinima (wrF s BOOT_STATUS.STAGE STAGE_RUN))
  bootLog 0 (resumeUpdate (renderOn (showRecord (record s) s)))

/-- RUN: the configuration of the blob is written, its fonts are loaded, heads are committed, and SETUP_LOCK is set where the blob
sets it; ATTEMPTS is committed as 0, and a trial that has started is no longer one (R406, R408). -/
def runStage (o : BootOutcome) (s : State) : State :=
  let ok := o.store.getD 0 true
  match imageIn s.flash.a BLOB_OFS BLOB_SIZE with
  | none => startFail 0x07 ok s
  | some image =>
    let body := Config.parseBlob (imageBody image)
    let ws := body.config
    let s := bootFonts body.fonts (bootWrites (ws.filter (fun w => !(isCommitWrite w) && !(isLockWrite w))) s)
    let s := forEach (List.range 3) commitEnabled (bootWrites (ws.filter isCommitWrite) s)
    let s := bootWrites (ws.filter isLockWrite) s
    let s := commitRecord { record s with attempts := 0, trial := 0 } ok s
    if ok then reachRun s else enterSeedling 0x0A s

/-- The step that BOOT_STATUS.STAGE reports is complete; `o` tells how its checks and commits turned out. -/
def stageComplete (o : BootOutcome) (s : State) : State :=
  match stage s with
  | 1 => loaderStage o s
  | 2 => stagingStage o s
  | 3 => memoryStage o s
  | 4 => firmwareStage o s
  | 5 => if s.boot.setupDone then runStage o s else setupStage o s
  | _ => s

def execBootStageComplete (t : Nat) (o : BootOutcome) (s : State) : Host.Outcome State Fault Refusal := act t (stageComplete o) s

end Sys2Proof.Machine
end

