-- ==== Sys2Proof/Machine/Dispatch.lean ====
section
/-! DEFINITION. One arm for each command. -/

namespace Sys2Proof.Machine

def exec (i : Instr) (s : State) : Host.Outcome State Fault Refusal :=
  match i with
  | .registerWrite t fn off size v => Sys2Proof.Machine.execRegisterWrite t fn off size v s
  | .latchedLowWordRead t fn off size => Sys2Proof.Machine.execLatchedLowWordRead t fn off size s
  | .readClearCounter t fn off size => Sys2Proof.Machine.execReadClearCounter t fn off size s
  | .setupLock t v => Sys2Proof.Machine.execSetupLock t v s
  | .ptpSync t ident domain origin => Sys2Proof.Machine.execPtpSync t ident domain origin s
  | .ptpAnnounce t ident rank domain logSync logAnnounce ptpScale => Sys2Proof.Machine.execPtpAnnounce t ident rank domain logSync logAnnounce ptpScale s
  | .ptpAnnounceTimeout t => Sys2Proof.Machine.execPtpAnnounceTimeout t s
  | .ptpSyncLoss t => Sys2Proof.Machine.execPtpSyncLoss t s
  | .syncInReference t => Sys2Proof.Machine.execSyncInReference t s
  | .syncInReferenceMissing t => Sys2Proof.Machine.execSyncInReferenceMissing t s
  | .holdoverExpiry t => Sys2Proof.Machine.execHoldoverExpiry t s
  | .timeSrcWrite t v => Sys2Proof.Machine.execTimeSrcWrite t v s
  | .taiOffsetLoWrite t v => Sys2Proof.Machine.execTaiOffsetLoWrite t v s
  | .taiOffsetHiWrite t v => Sys2Proof.Machine.execTaiOffsetHiWrite t v s
  | .tileRowScan t h row => Sys2Proof.Machine.execTileRowScan t h row s
  | .batch t gen page => Sys2Proof.Machine.execBatch t gen page s
  | .instCreate t => Sys2Proof.Machine.execInstCreate t s
  | .instEnable t => Sys2Proof.Machine.execInstEnable t s
  | .instReset t => Sys2Proof.Machine.execInstReset t s
  | .instDestroy t => Sys2Proof.Machine.execInstDestroy t s
  | .shareSet t => Sys2Proof.Machine.execShareSet t s
  | .leaseGrant t => Sys2Proof.Machine.execLeaseGrant t s
  | .leaseRevoke t => Sys2Proof.Machine.execLeaseRevoke t s
  | .tenantReply t => Sys2Proof.Machine.execTenantReply t s
  | .epochBoundary t => Sys2Proof.Machine.execEpochBoundary t s
  | .vfFlr t n => Sys2Proof.Machine.execVfFlr t n s
  | .resetComplete t n => Sys2Proof.Machine.execResetComplete t n s
  | .drainTimeout t n => Sys2Proof.Machine.execDrainTimeout t n s
  | .contextPreemptTimeout t c => Sys2Proof.Machine.execContextPreemptTimeout t c s
  | .destroyComplete t n => Sys2Proof.Machine.execDestroyComplete t n s
  | .numvfsLower t v => Sys2Proof.Machine.execNumvfsLower t v s
  | .vfEnableClear t => Sys2Proof.Machine.execVfEnableClear t s
  | .leaseKick t fn gen => Sys2Proof.Machine.execLeaseKick t fn gen s
  | .leaseExpiry t kind unit => Sys2Proof.Machine.execLeaseExpiry t kind unit s
  | .revocationComplete t kind unit => Sys2Proof.Machine.execRevocationComplete t kind unit s
  | .leaseRequest t n gen page => Sys2Proof.Machine.execLeaseRequest t n gen page s
  | .leaseRelease t n gen page => Sys2Proof.Machine.execLeaseRelease t n gen page s
  | .setup t n gen page => Sys2Proof.Machine.execSetup t n gen page s
  | .query t n gen page => Sys2Proof.Machine.execQuery t n gen page s
  | .mailboxTimeout t n => Sys2Proof.Machine.execMailboxTimeout t n s
  | .pfFlr t => Sys2Proof.Machine.execPfFlr t s
  | .sqTailDoorbell t fn q gen idx => Sys2Proof.Machine.execSqTailDoorbell t fn q gen idx s
  | .cqHeadDoorbell t fn c gen idx => Sys2Proof.Machine.execCqHeadDoorbell t fn c gen idx s
  | .eqHeadDoorbell t fn gen idx => Sys2Proof.Machine.execEqHeadDoorbell t fn gen idx s
  | .descriptorFetch t fn q ds => Sys2Proof.Machine.execDescriptorFetch t fn q ds s
  | .nop t => Sys2Proof.Machine.execNop t s
  | .timestamp t => Sys2Proof.Machine.execTimestamp t s
  | .waitValue t => Sys2Proof.Machine.execWaitValue t s
  | .waitValueEval t => Sys2Proof.Machine.execWaitValueEval t s
  | .writeValue t => Sys2Proof.Machine.execWriteValue t s
  | .copy t => Sys2Proof.Machine.execCopy t s
  | .copyComplete t id data => Sys2Proof.Machine.execCopyComplete t id data s
  | .msixModTimeout t fn c events => Sys2Proof.Machine.execMsixModTimeout t fn c events s
  | .hostReadFailure t fn q id soft good len => Sys2Proof.Machine.execHostReadFailure t fn q id soft good len s
  | .atsInvalidation t tag => Sys2Proof.Machine.execAtsInvalidation t tag s
  | .ringEnable t fn kind idx v => Sys2Proof.Machine.execRingEnable t fn kind idx v s
  | .ringDisable t fn kind idx v => Sys2Proof.Machine.execRingDisable t fn kind idx v s
  | .csSubmit t words => Sys2Proof.Machine.execCsSubmit t words s
  | .grow t => Sys2Proof.Machine.execGrow t s
  | .csNop t c => Sys2Proof.Machine.execCsNop t c s
  | .setState t c => Sys2Proof.Machine.execSetState t c s
  | .bindPipeline t c => Sys2Proof.Machine.execBindPipeline t c s
  | .bindTable t c => Sys2Proof.Machine.execBindTable t c s
  | .beginPass t c => Sys2Proof.Machine.execBeginPass t c s
  | .draw t c => Sys2Proof.Machine.execDraw t c s
  | .drawIndexed t c => Sys2Proof.Machine.execDrawIndexed t c s
  | .drawIndirect t c => Sys2Proof.Machine.execDrawIndirect t c s
  | .endPass t c => Sys2Proof.Machine.execEndPass t c s
  | .dispatch t c => Sys2Proof.Machine.execDispatch t c s
  | .dispatchIndirect t c => Sys2Proof.Machine.execDispatchIndirect t c s
  | .barrier t c => Sys2Proof.Machine.execBarrier t c s
  | .tileStore t c tile => Sys2Proof.Machine.execTileStore t c tile s
  | .splitStart t c => Sys2Proof.Machine.execSplitStart t c s
  | .splitComplete t c => Sys2Proof.Machine.execSplitComplete t c s
  | .clusterFault t k row retryOk => Sys2Proof.Machine.execClusterFault t k row retryOk s
  | .clusterResetComplete t k => Sys2Proof.Machine.execClusterResetComplete t k s
  | .clusterResetTimeout t k => Sys2Proof.Machine.execClusterResetTimeout t k s
  | .ingestStart t => Sys2Proof.Machine.execIngestStart t s
  | .ingestComplete t => Sys2Proof.Machine.execIngestComplete t s
  | .deadlineTick t => Sys2Proof.Machine.execDeadlineTick t s
  | .preemptMidwaveTimeout t k => Sys2Proof.Machine.execPreemptMidwaveTimeout t k s
  | .preemptStop t k => Sys2Proof.Machine.execPreemptStop t k s
  | .resumeComplete t k => Sys2Proof.Machine.execResumeComplete t k s
  | .npHoldExpiry t k => Sys2Proof.Machine.execNpHoldExpiry t k s
  | .latestStartReached t h => Sys2Proof.Machine.execLatestStartReached t h s
  | .compositionDeadline t h => Sys2Proof.Machine.execCompositionDeadline t h s
  | .asyncFill t k => Sys2Proof.Machine.execAsyncFill t k s
  | .flip t => Sys2Proof.Machine.execFlip t s
  | .coefDataWrite t p v => Sys2Proof.Machine.execCoefDataWrite t p v s
  | .wbCapture t => Sys2Proof.Machine.execWbCapture t s
  | .wbCaptureComplete t u => Sys2Proof.Machine.execWbCaptureComplete t u s
  | .wbCaptureTimeout t => Sys2Proof.Machine.execWbCaptureTimeout t s
  | .wbBufferOverflow t u => Sys2Proof.Machine.execWbBufferOverflow t u s
  | .pipeFault t p row line col last => Sys2Proof.Machine.execPipeFault t p row line col last s
  | .commitPoint t g => Sys2Proof.Machine.execCommitPoint t g s
  | .headCommitGo t h => Sys2Proof.Machine.execHeadCommitGo t h s
  | .headCommitCancel t h => Sys2Proof.Machine.execHeadCommitCancel t h s
  | .commitGroupGo t k mask => Sys2Proof.Machine.execCommitGroupGo t k mask s
  | .commitGroupCancel t k => Sys2Proof.Machine.execCommitGroupCancel t k s
  | .pixelPllLock t g => Sys2Proof.Machine.execPixelPllLock t g s
  | .hpdDebounce t h => Sys2Proof.Machine.execHpdDebounce t h s
  | .hpdUnplug t h => Sys2Proof.Machine.execHpdUnplug t h s
  | .irqHpd t h lost => Sys2Proof.Machine.execIrqHpd t h lost s
  | .linkTrainResult t h k => Sys2Proof.Machine.execLinkTrainResult t h k s
  | .linkTrainRetry t h => Sys2Proof.Machine.execLinkTrainRetry t h s
  | .valuePost t => Sys2Proof.Machine.execValuePost t s
  | .fieldLatch t f ecc => Sys2Proof.Machine.execFieldLatch t f ecc s
  | .fdescWrite t f => Sys2Proof.Machine.execFdescWrite t f s
  | .fdescRead t f => Sys2Proof.Machine.execFdescRead t f s
  | .fontLoad t => Sys2Proof.Machine.execFontLoad t s
  | .fontCopyComplete t => Sys2Proof.Machine.execFontCopyComplete t s
  | .safetyPagePoll t => Sys2Proof.Machine.execSafetyPagePoll t s
  | .select t => Sys2Proof.Machine.execSelect t s
  | .refresh t => Sys2Proof.Machine.execRefresh t s
  | .plateCrcCheck t => Sys2Proof.Machine.execPlateCrcCheck t s
  | .regionF7Check t h r => Sys2Proof.Machine.execRegionF7Check t h r s
  | .regionSignatureCompare t h r upset => Sys2Proof.Machine.execRegionSignatureCompare t h r upset s
  | .sinkCrcReadResult t h replies cr cg cb count => Sys2Proof.Machine.execSinkCrcReadResult t h replies cr cg cb count s
  | .plateRewriteComplete t p ok => Sys2Proof.Machine.execPlateRewriteComplete t p ok s
  | .faultReport t id unit detail line col last ok => Sys2Proof.Machine.execFaultReport t id unit detail line col last ok s
  | .lockstepMismatch t => Sys2Proof.Machine.execLockstepMismatch t s
  | .shallotCoreWdExpiry t => Sys2Proof.Machine.execShallotCoreWdExpiry t s
  | .controlCoreWdExpiry t ok taken => Sys2Proof.Machine.execControlCoreWdExpiry t ok taken s
  | .groupFrameWdExpiry t g => Sys2Proof.Machine.execGroupFrameWdExpiry t g s
  | .dtimeMonitorWindow t adv => Sys2Proof.Machine.execDtimeMonitorWindow t adv s
  | .managerWdExpiry t => Sys2Proof.Machine.execManagerWdExpiry t s
  | .mgrKick t gen => Sys2Proof.Machine.execMgrKick t gen s
  | .unitRetire t kind unit => Sys2Proof.Machine.execUnitRetire t kind unit s
  | .unretire t v => Sys2Proof.Machine.execUnretire t v s
  | .unretireSelftestComplete t pass => Sys2Proof.Machine.execUnretireSelftestComplete t pass s
  | .linkDown10ms t => Sys2Proof.Machine.execLinkDown10ms t s
  | .blockBoundary t => Sys2Proof.Machine.execBlockBoundary t s
  | .audioBuffer t data => Sys2Proof.Machine.execAudioBuffer t data s
  | .audioBufferComplete t a => Sys2Proof.Machine.execAudioBufferComplete t a s
  | .bufferUnderrun t a => Sys2Proof.Machine.execBufferUnderrun t a s
  | .routeGo t a v => Sys2Proof.Machine.execRouteGo t a v s
  | .gainWrite t bus n v => Sys2Proof.Machine.execGainWrite t bus n v s
  | .eqDataWrite t v => Sys2Proof.Machine.execEqDataWrite t v s
  | .eqSwap t b => Sys2Proof.Machine.execEqSwap t b s
  | .mapWrite t head n k v => Sys2Proof.Machine.execMapWrite t head n k v s
  | .tdmPortEnable t p v => Sys2Proof.Machine.execTdmPortEnable t p v s
  | .tdmPortDisable t p v => Sys2Proof.Machine.execTdmPortDisable t p v s
  | .tdmFrameSync t p clocks => Sys2Proof.Machine.execTdmFrameSync t p clocks s
  | .tdmFrame t p held bits => Sys2Proof.Machine.execTdmFrame t p held bits s
  | .tdmBclkLoss t p => Sys2Proof.Machine.execTdmBclkLoss t p s
  | .tdmFrameSyncMissing t p => Sys2Proof.Machine.execTdmFrameSyncMissing t p s
  | .touchDeviceAttach t p hub d => Sys2Proof.Machine.execTouchDeviceAttach t p hub d s
  | .i2cIntFall t p => Sys2Proof.Machine.execI2cIntFall t p s
  | .touchReport t rs => Sys2Proof.Machine.execTouchReport t rs s
  | .surfaceSilentTimeout t n => Sys2Proof.Machine.execSurfaceSilentTimeout t n s
  | .routeDisable t r v => Sys2Proof.Machine.execRouteDisable t r v s
  | .hapticTick t sense brakeUj measuredUj => Sys2Proof.Machine.execHapticTick t sense brakeUj measuredUj s
  | .hapticPlay t => Sys2Proof.Machine.execHapticPlay t s
  | .htrigEdge t m rising => Sys2Proof.Machine.execHtrigEdge t m rising s
  | .driveEnd t n => Sys2Proof.Machine.execDriveEnd t n s
  | .brakeEnd t n bemf => Sys2Proof.Machine.execBrakeEnd t n bemf s
  | .hapticOvercurrent t n => Sys2Proof.Machine.execHapticOvercurrent t n s
  | .memoryRequest t src addr k write err n => Sys2Proof.Machine.execMemoryRequest t src addr k write err n s
  | .requestAgeRaise t c => Sys2Proof.Machine.execRequestAgeRaise t c s
  | .patrolScrubRead t find => Sys2Proof.Machine.execPatrolScrubRead t find s
  | .pageRemapComplete t p => Sys2Proof.Machine.execPageRemapComplete t p s
  | .zeroFillComplete t k => Sys2Proof.Machine.execZeroFillComplete t k s
  | .eccRegionChange t v => Sys2Proof.Machine.execEccRegionChange t v s
  | .bankRefresh t c b held => Sys2Proof.Machine.execBankRefresh t c b held s
  | .refreshRateRead t c rate => Sys2Proof.Machine.execRefreshRateRead t c rate s
  | .retrainDue t c => Sys2Proof.Machine.execRetrainDue t c s
  | .retrainOpportunity t g margins results => Sys2Proof.Machine.execRetrainOpportunity t g margins results s
  | .retrainForce t c => Sys2Proof.Machine.execRetrainForce t c s
  | .selfRefreshEntry t c => Sys2Proof.Machine.execSelfRefreshEntry t c s
  | .brownOut t vin store iin => Sys2Proof.Machine.execBrownOut t vin store iin s
  | .overvoltage t vin store iin => Sys2Proof.Machine.execOvervoltage t vin store iin s
  | .vinRecovered t vin store iin => Sys2Proof.Machine.execVinRecovered t vin store iin s
  | .rideThroughExpiry t => Sys2Proof.Machine.execRideThroughExpiry t s
  | .pd0PowerUp t vin store iin => Sys2Proof.Machine.execPd0PowerUp t vin store iin s
  | .pd0PowerLoss t vin store iin => Sys2Proof.Machine.execPd0PowerLoss t vin store iin s
  | .pwrEnRise t vin store iin => Sys2Proof.Machine.execPwrEnRise t vin store iin s
  | .pwrEnLow t => Sys2Proof.Machine.execPwrEnLow t s
  | .domainGood t d => Sys2Proof.Machine.execDomainGood t d s
  | .domainGoodTimeout t d ok => Sys2Proof.Machine.execDomainGoodTimeout t d ok s
  | .renderGateIdle t d => Sys2Proof.Machine.execRenderGateIdle t d s
  | .thermalSample t die tMod => Sys2Proof.Machine.execThermalSample t die tMod s
  | .thermalTrip t tDie tMod => Sys2Proof.Machine.execThermalTrip t tDie tMod s
  | .thermalRecovery t vin store iin => Sys2Proof.Machine.execThermalRecovery t vin store iin s
  | .pwrReset t v => Sys2Proof.Machine.execPwrReset t v s
  | .conventionalPcieReset t kind => Sys2Proof.Machine.execConventionalPcieReset t kind s
  | .perstNRise t => Sys2Proof.Machine.execPerstNRise t s
  | .bootStart t pll oks => Sys2Proof.Machine.execBootStart t pll oks s
  | .bootStageComplete t o => Sys2Proof.Machine.execBootStageComplete t o s
  | .startDeadline t ok => Sys2Proof.Machine.execStartDeadline t ok s
  | .retry t v ok => Sys2Proof.Machine.execRetry t v ok s
  | .seedling t v ok => Sys2Proof.Machine.execSeedling t v ok s
  | .updBegin t src ok => Sys2Proof.Machine.execUpdBegin t src ok s
  | .updCancel t ok => Sys2Proof.Machine.execUpdCancel t ok s
  | .updInstall t => Sys2Proof.Machine.execUpdInstall t s
  | .installComplete t progOk ok => Sys2Proof.Machine.execInstallComplete t progOk ok s
  | .updXfer t v => Sys2Proof.Machine.execUpdXfer t v s
  | .updXferComplete t data readOk progOk ok => Sys2Proof.Machine.execUpdXferComplete t data readOk progOk ok s
  | .coapUpdateStart t fromServer ok => Sys2Proof.Machine.execCoapUpdateStart t fromServer ok s
  | .coapResponse t data more reply progOk ok => Sys2Proof.Machine.execCoapResponse t data more reply progOk ok s
  | .coapRetry t => Sys2Proof.Machine.execCoapRetry t s
  | .coapHealthGet t => Sys2Proof.Machine.execCoapHealthGet t s
  | .quote t => Sys2Proof.Machine.execQuote t s
  | .certs t => Sys2Proof.Machine.execCerts t s
  | .attestComplete t ok => Sys2Proof.Machine.execAttestComplete t ok s
  | .workgroupComplete t c d g => Sys2Proof.Machine.execWorkgroupComplete t c d g s
  | .engineSamplePeriod t => Sys2Proof.Machine.execEngineSamplePeriod t s
  | .pcieLinkL0 t => Sys2Proof.Machine.execPcieLinkL0 t s
  | .startAllowed t vin store iin => Sys2Proof.Machine.execStartAllowed t vin store iin s
  | .resetStageRelease t => Sys2Proof.Machine.execResetStageRelease t s
  | .coapExchangeTimeout t => Sys2Proof.Machine.execCoapExchangeTimeout t s
  | .ptpDelayResponse t ident domain egress peerRx peerTx => Sys2Proof.Machine.execPtpDelayResponse t ident domain egress peerRx peerTx s
  | .msixVectorUnmask t fn v => Sys2Proof.Machine.execMsixVectorUnmask t fn v s
  | .vfEnableSet t v => Sys2Proof.Machine.execVfEnableSet t v s
  | .fontRegionRewriteComplete t => Sys2Proof.Machine.execFontRegionRewriteComplete t s

end Sys2Proof.Machine
end

