-- ==== Sys2Proof/Machine/Pins.lean ====
section
/-! DEFINITION. The pins as the device drives them, each a view of the state (Table 17.7, R294, R295, R381, R435, R436). -/

namespace Sys2Proof.Machine

/-- What the device does at a pin: nothing, a level, or a signal that the block behind it makes. -/
inductive Pin where
  | hiZ
  | low
  | high
  | signal
deriving DecidableEq, Repr

/-- The columns of Table 17.7 but for the safe state, which lies over them. -/
inductive PinCond where
  | unpowered
  | start
  | run
  | seedling
deriving DecidableEq, Repr

def pinCond (s : State) : PinCond :=
  if s.pwr.pd0 = false then .unpowered
  else if s.pwr.phase ≠ .run then .start
  else if flag s BOOT_STATUS.SEEDLING then .seedling
  else if stage s = STAGE_RUN then .run else .start

/-- Open-drain pins of PD0. -/
def pinSafeState (s : State) : Pin := if safeStateReleased s then .hiZ else .low
def pinAlert (s : State) : Pin := if s.pwr.pd0 = true ∧ alertN s = true then .low else .hiZ
def pinPwrWarn (s : State) : Pin := if s.pwr.pd0 = true ∧ pwrWarnLow s = true then .low else .hiZ

/-- The main link of a head: a picture, the card, or nothing; the odd port of a pair is idle (R214). -/
def pinMainLink (s : State) (h : Nat) : Pin :=
  match pinCond s with
  | .unpowered | .start => .hiZ
  | .seedling => if flag s (HD_STATUS.HPD h) = true ∧ linkOut s h ≠ .nothing ∧ portIdle s h = false then .signal else .hiZ
  | .run => if linkOut s h = .nothing ∨ portIdle s h = true then .hiZ else .signal

/-- A touch port's VBUS or VDD: on while it is enabled and not retired. -/
def touchSupply (s : State) (p : Nat) : Bool :=
  decide (pinCond s = .run) && flag s (TCH_P_CFG.EN p) && decide (rdF s (TCH_P_STATUS.STATE p) ≠ TP_RETIRED)

/-- A touch port's data lines. -/
def pinTouchData (s : State) (p : Nat) : Pin :=
  if pinCond s = .unpowered then .hiZ else if touchSupply s p then .signal else .low

/-- A port drives its frames: it works, and is neither off nor retired (R320, R324, R325). -/
def portDrives (s : State) (p : Nat) : Bool := portOn s p && decide (portState s p ≠ PT_OFF ∧ portState s p ≠ PT_RETIRED)

/-- Bit clock and frame sync: an input in slave mode. -/
def pinTdmClock (s : State) (p : Nat) : Pin :=
  if pinCond s ≠ .run ∨ flag s (AUD_T_CFG.MASTER p) = false then .hiZ else if portDrives s p then .signal else .low

def pinTdmData (s : State) (p : Nat) : Pin :=
  match pinCond s with
  | .unpowered | .seedling => .hiZ
  | .start => .low
  | .run => if portDrives s p then .signal else .low

def pinFlow (s : State) (high : Bool) : Pin :=
  match pinCond s with
  | .unpowered | .seedling => .hiZ
  | .start => .low
  | .run => if high then .high else .low

def pinFlowTx (s : State) (p : Nat) : Pin := pinFlow s (flag s (AUD_T_STATUS.FLOW_TX p))
def pinFlowRx (s : State) (p : Nat) : Pin := pinFlow s (flag s (AUD_T_STATUS.FLOW_RX p))

/-- SYNC_IN is terminated with 75 Ω by TERM, and loaded by no less than 10 kΩ while unpowered. -/
def syncInTerminated (s : State) : Bool := s.pwr.pd0 && flag s HD_SYNC_IN.TERM

/-- SYNC_OUT: driven low but in RUN, where it is high for 10 µs from each pulse on (R213). -/
def pinSyncOut (s : State) : Pin :=
  match s.dsp.syncOutAt with
  | some a => if pinCond s = .run ∧ flag s HD_SYNC_OUT.EN = true ∧ now s < a + 10000 then .high else .low
  | none => .low

/-- The bridge halves of a haptic channel: a voltage in DRIVE and in BRAKE, which no reset ends (R344), else both low. -/
def pinHaptic (s : State) (n : Nat) : Pin :=
  match pinCond s with
  | .unpowered => .hiZ
  | .start | .seedling => if hapState s n = HK_BRAKE then .signal else .low
  | .run => if hapState s n = HK_DRIVE ∨ hapState s n = HK_BRAKE then .signal else .low

/-- GPIOn: in RUN driven with its OUT bit while its OE bit is 1, an input otherwise (R436). -/
def pinGpio (s : State) (n : Nat) : Pin :=
  if bit (gpioDriven s) n = false then .hiZ else if bit (rdF s PWR_GPIO.OUT) n then .high else .low

/-- A PCIe transmit lane: idle until the link is up. -/
def pinHostTx (s : State) : Pin := if s.pwr.pd0 = true ∧ s.host.linkUp = true then .signal else .hiZ

/-- A head's AUX pair: in use where an enabled head in service has a sink, and not at the odd port of a pair (R214, R219, R290). -/
def pinAux (s : State) (h : Nat) : Pin :=
  match pinCond s with
  | .unpowered | .start => .hiZ
  | .seedling | .run =>
    if flag s (HD_STATUS.HPD h) = true ∧ headOn s.dsp.active h = true ∧ headState s h ≠ OFF ∧ portIdle s h = false then .signal else .hiZ

/-- HTRIG pins are inputs with a pull-up; TDO is not driven, for no command shifts the TAP. -/
def pinHtrig (_ : State) (_ : Nat) : Pin := .hiZ
def pinTdo (_ : State) : Pin := .hiZ

end Sys2Proof.Machine
end

