-- ==== Sys2Proof/Safety.lean ====
section
/-! DEFINITION. What counts as a safe state of the block, and the words in which claims about a command are put. -/

namespace Sys2Proof.Machine

/-- Device memory in its canonical form: addresses strictly rising, and no byte listed that reads as an unlisted one. -/
def Memory.wf (m : Memory) : Bool := Sparse.wf 0 m.bytes

/-- Memories that agree in all but their channels. -/
def sameMem (m n : Memory) : Bool := decide ({ m with channels := [] } = { n with channels := [] })

/-- SHL_ALERT shows exactly the causes that hold (R295); until the first event it still shows its reset value. -/
def AlertShown (s : State) : Prop := rdF s SHL_ALERT.CAUSE = alertCauses s ∨ s.regs = []

/-- The command `i` acts at `s` and leaves a state with `P`. -/
def Runs (i : Instr) (s : State) (P : State → Prop) : Prop := ∃ t, exec i s = .next t ∧ P t

/-- The registers that an event's end may set: SHL_ALERT and its latch (R295). -/
def isAlert (r : Reg) : Bool := decide (r.key = Reg.SHL_ALERT.key ∨ r.key = Reg.SHL_ALERT_LATCH.key)

/-- Every register but those of `rs`, by key, SHL_ALERT and its latch reads in `t` as in `s`. -/
def RegsKept (s t : State) (rs : List Reg) : Prop := ∀ r : Reg, isAlert r = false → (∀ x ∈ rs, r.key ≠ x.key) → rd t r = rd s r

/-- The descriptor `id` of ring `q` of function `fn` has reached its completion point, or its flight is over (R97). -/
def Completed (s : State) (fn q id : Nat) : Bool := (getSq s fn q).flights.all (fun f => decide (f.id ≠ id) || f.done.isSome)

/-- The descriptor `k` is answered with status `st`: its completion has been written, or waits for those of earlier descriptors of
its ring, or is none because the descriptor is QUIET or its completion ring is not enabled (R97, R99, R101). -/
def Answered (s : State) (k : Taken) (st : Nat) : Bool :=
  (getSq s k.fn k.q).flights.any (fun f => decide (f.id = k.id ∧ f.done.map (·.1) = some st))
  || s.out.any (fun m => match m with
      | .completion fn _ _ e => decide (fn = k.fn ∧ u8 e 8 = st ∧ u8 e 9 = u8 k.d 0 ∧ u32 e 0 = u32 k.d 8)
      | _ => false)
  || (bit (u8 k.d 1) 1 && decide (st = ST_OK)) || !(flag s (CQ_CFG.ENABLE k.fn (rdF s (SQ_CFG.CQ k.fn k.q))))

/-- At stamp `t` the scheduler's next dispatch is the descriptor `k`, of an opcode that `want` names, and `check` passes it (R62,
R92). -/
def Dispatches (t : Nat) (s : State) (want : Nat → Bool) (check : State → Taken → Nat) (k : Taken) : Bool :=
  match takeNext want (begin t s) with
  | some (s1, k') => decide (k' = k ∧ check s1 k = ST_OK)
  | none => false

/-- The manager's batch stands at command `c`, of opcode `op`, with the target's current generation and its reserved bytes 0; none is
being applied (R73, R74). -/
def BatchAt (s : State) (op : Nat) (args : List (Nat × Nat)) (c : Rec32) : Bool :=
  match s.fab.batch with
  | some b => decide (b.current = none ∧ b.todo.head? = some c ∧ cOpcode c = op ∧ staleCommand s c = false ∧ commandReserved c args = true)
  | none => false

/-- Context `c` runs stream `st` on a cluster, and the stream's next command has opcode `op` and `dw` words and need not wait; no
stream that waits behind it is the same one. -/
def AtCommand (s : State) (c op : Nat) (st : Stream) (dw : Nat) : Bool :=
  let h := csWord s st (st.ofs / 4)
  let x := getCtx s c
  decide (runsOn s c = true ∧ x.stream = some st ∧ st.ingest = false ∧ st.fail = none ∧ binHeld x = false ∧ st.ofs < st.len
    ∧ badHeader st h = false ∧ bitsOf h 31 24 = op ∧ bitsOf h 15 0 = dw ∧ commandWaits x h (csWord s st (st.ofs / 4 + 1)) = false
    ∧ x.queue.all (fun y => decide (y.id ≠ st.id)) = true)

/-- Word `i` of the payload of the stream's next command. -/
def payload (s : State) (st : Stream) (i : Nat) : Nat := csWord s st (st.ofs / 4 + 1 + i)

/-- Where stream `st` still runs in `s` and has not been stopped, it stands `dw` words further on. -/
def Passed (s : State) (c : Nat) (st : Stream) (dw : Nat) : Bool :=
  match (getCtx s c).stream with
  | some x => decide (x.id ≠ st.id) || x.fail.isSome || decide (x.ofs = st.ofs + 4 * dw)
  | none => true

end Sys2Proof.Machine
end

