-- ==== Sys2Proof/WellFormed.lean ====
section
/-! DEFINITION. When a command's operands lie in the ranges of the fields and units that they name.  A meaning is defined for every
command, and ignores one that names a unit the device does not have. -/

namespace Sys2Proof

/-- Stamps are 64-bit. -/
def STAMPS : Nat := 0x10000000000000000

/-- The operands that name a unit, a field of a message or an amount of data, each with the first value out of its range. -/
def Instr.bounds (i : Instr) : List (Nat × Nat) :=
  match i with
  | .registerWrite t fn off size _ => [(t, STAMPS), (fn, 257), (off, 33554432), (size, 9)]
  | .latchedLowWordRead t fn off size => [(t, STAMPS), (fn, 257), (off, 33554432), (size, 9)]
  | .readClearCounter t fn off size => [(t, STAMPS), (fn, 257), (off, 33554432), (size, 9)]
  | .setupLock t _ => [(t, STAMPS)]
  | .ptpSync t _ _ _ => [(t, STAMPS)]
  | .ptpAnnounce t _ _ _ _ _ _ => [(t, STAMPS)]
  | .ptpAnnounceTimeout t => [(t, STAMPS)]
  | .ptpSyncLoss t => [(t, STAMPS)]
  | .syncInReference t => [(t, STAMPS)]
  | .syncInReferenceMissing t => [(t, STAMPS)]
  | .holdoverExpiry t => [(t, STAMPS)]
  | .timeSrcWrite t _ => [(t, STAMPS)]
  | .taiOffsetLoWrite t _ => [(t, STAMPS)]
  | .taiOffsetHiWrite t _ => [(t, STAMPS)]
  | .tileRowScan t h row => [(t, STAMPS), (h, 12), (row, 135)]
  | .batch t gen _ => [(t, STAMPS), (gen, 65536)]
  | .instCreate t => [(t, STAMPS)]
  | .instEnable t => [(t, STAMPS)]
  | .instReset t => [(t, STAMPS)]
  | .instDestroy t => [(t, STAMPS)]
  | .shareSet t => [(t, STAMPS)]
  | .leaseGrant t => [(t, STAMPS)]
  | .leaseRevoke t => [(t, STAMPS)]
  | .tenantReply t => [(t, STAMPS)]
  | .epochBoundary t => [(t, STAMPS)]
  | .vfFlr t n => [(t, STAMPS), (n, 257)]
  | .resetComplete t n => [(t, STAMPS), (n, 257)]
  | .drainTimeout t n => [(t, STAMPS), (n, 257)]
  | .contextPreemptTimeout t c => [(t, STAMPS), (c, 512)]
  | .destroyComplete t n => [(t, STAMPS), (n, 257)]
  | .numvfsLower t v => [(t, STAMPS), (v, 257)]
  | .vfEnableClear t => [(t, STAMPS)]
  | .leaseKick t fn gen => [(t, STAMPS), (fn, 257), (gen, 65536)]
  | .leaseExpiry t kind unit => [(t, STAMPS), (kind, 8), (unit, 16384)]
  | .revocationComplete t kind unit => [(t, STAMPS), (kind, 8), (unit, 16384)]
  | .leaseRequest t n gen _ => [(t, STAMPS), (n, 257), (gen, 65536)]
  | .leaseRelease t n gen _ => [(t, STAMPS), (n, 257), (gen, 65536)]
  | .setup t n gen _ => [(t, STAMPS), (n, 257), (gen, 65536)]
  | .query t n gen _ => [(t, STAMPS), (n, 257), (gen, 65536)]
  | .mailboxTimeout t n => [(t, STAMPS), (n, 257)]
  | .pfFlr t => [(t, STAMPS)]
  | .sqTailDoorbell t fn q gen idx => [(t, STAMPS), (fn, 257), (q, 64), (gen, 65536), (idx, 65536)]
  | .cqHeadDoorbell t fn c gen idx => [(t, STAMPS), (fn, 257), (c, 32), (gen, 65536), (idx, 65536)]
  | .eqHeadDoorbell t fn gen idx => [(t, STAMPS), (fn, 257), (gen, 65536), (idx, 65536)]
  | .descriptorFetch t fn q ds => [(t, STAMPS), (fn, 257), (q, 64), (ds.length, 9)]
  | .nop t => [(t, STAMPS)]
  | .timestamp t => [(t, STAMPS)]
  | .waitValue t => [(t, STAMPS)]
  | .waitValueEval t => [(t, STAMPS)]
  | .writeValue t => [(t, STAMPS)]
  | .copy t => [(t, STAMPS)]
  | .copyComplete t _ data => [(t, STAMPS), (data.length, 16777217)]
  | .msixModTimeout t fn c _ => [(t, STAMPS), (fn, 257), (c, 32)]
  | .hostReadFailure t fn q _ _ good _ => [(t, STAMPS), (fn, 257), (q, 64), (good.length, 16777217)]
  | .atsInvalidation t _ => [(t, STAMPS)]
  | .ringEnable t fn kind idx _ => [(t, STAMPS), (fn, 257), (kind, 3), (idx, 64)]
  | .ringDisable t fn kind idx _ => [(t, STAMPS), (fn, 257), (kind, 3), (idx, 64)]
  | .csSubmit t words => [(t, STAMPS), (words.length, 4194305)]
  | .grow t => [(t, STAMPS)]
  | .csNop t c => [(t, STAMPS), (c, 512)]
  | .setState t c => [(t, STAMPS), (c, 512)]
  | .bindPipeline t c => [(t, STAMPS), (c, 512)]
  | .bindTable t c => [(t, STAMPS), (c, 512)]
  | .beginPass t c => [(t, STAMPS), (c, 512)]
  | .draw t c => [(t, STAMPS), (c, 512)]
  | .drawIndexed t c => [(t, STAMPS), (c, 512)]
  | .drawIndirect t c => [(t, STAMPS), (c, 512)]
  | .endPass t c => [(t, STAMPS), (c, 512)]
  | .dispatch t c => [(t, STAMPS), (c, 512)]
  | .dispatchIndirect t c => [(t, STAMPS), (c, 512)]
  | .barrier t c => [(t, STAMPS), (c, 512)]
  | .tileStore t c tile => [(t, STAMPS), (c, 512), (tile, 524288)]
  | .splitStart t c => [(t, STAMPS), (c, 512)]
  | .splitComplete t c => [(t, STAMPS), (c, 512)]
  | .clusterFault t k _ _ => [(t, STAMPS), (k, 24)]
  | .clusterResetComplete t k => [(t, STAMPS), (k, 24)]
  | .clusterResetTimeout t k => [(t, STAMPS), (k, 24)]
  | .ingestStart t => [(t, STAMPS)]
  | .ingestComplete t => [(t, STAMPS)]
  | .deadlineTick t => [(t, STAMPS)]
  | .preemptMidwaveTimeout t k => [(t, STAMPS), (k, 24)]
  | .preemptStop t k => [(t, STAMPS), (k, 24)]
  | .resumeComplete t k => [(t, STAMPS), (k, 24)]
  | .npHoldExpiry t k => [(t, STAMPS), (k, 24)]
  | .latestStartReached t h => [(t, STAMPS), (h, 12)]
  | .compositionDeadline t h => [(t, STAMPS), (h, 12)]
  | .asyncFill t k => [(t, STAMPS), (k, 24)]
  | .flip t => [(t, STAMPS)]
  | .coefDataWrite t p _ => [(t, STAMPS), (p, 96)]
  | .wbCapture t => [(t, STAMPS)]
  | .wbCaptureComplete t u => [(t, STAMPS), (u, 4)]
  | .wbCaptureTimeout t => [(t, STAMPS)]
  | .wbBufferOverflow t u => [(t, STAMPS), (u, 4)]
  | .pipeFault t p _ _ _ _ => [(t, STAMPS), (p, 96)]
  | .commitPoint t g => [(t, STAMPS), (g, 3)]
  | .headCommitGo t h => [(t, STAMPS), (h, 12)]
  | .headCommitCancel t h => [(t, STAMPS), (h, 12)]
  | .commitGroupGo t k mask => [(t, STAMPS), (k, 4), (mask, 4096)]
  | .commitGroupCancel t k => [(t, STAMPS), (k, 4)]
  | .pixelPllLock t g => [(t, STAMPS), (g, 3)]
  | .hpdDebounce t h => [(t, STAMPS), (h, 12)]
  | .hpdUnplug t h => [(t, STAMPS), (h, 12)]
  | .irqHpd t h _ => [(t, STAMPS), (h, 12)]
  | .linkTrainResult t h _ => [(t, STAMPS), (h, 12)]
  | .linkTrainRetry t h => [(t, STAMPS), (h, 12)]
  | .valuePost t => [(t, STAMPS)]
  | .fieldLatch t f _ => [(t, STAMPS), (f, 65536)]
  | .fdescWrite t f => [(t, STAMPS), (f, 65536)]
  | .fdescRead t f => [(t, STAMPS), (f, 65536)]
  | .fontLoad t => [(t, STAMPS)]
  | .fontCopyComplete t => [(t, STAMPS)]
  | .safetyPagePoll t => [(t, STAMPS)]
  | .select t => [(t, STAMPS)]
  | .refresh t => [(t, STAMPS)]
  | .plateCrcCheck t => [(t, STAMPS)]
  | .regionF7Check t h r => [(t, STAMPS), (h, 12), (r, 16)]
  | .regionSignatureCompare t h r upset => [(t, STAMPS), (h, 12), (r, 16), (upset, 4294967296)]
  | .sinkCrcReadResult t h _ cr cg cb count => [(t, STAMPS), (h, 12), (cr, 65536), (cg, 65536), (cb, 65536), (count, 16)]
  | .plateRewriteComplete t _ _ => [(t, STAMPS)]
  | .faultReport t id _ _ _ _ _ _ => [(t, STAMPS), (id, 256)]
  | .lockstepMismatch t => [(t, STAMPS)]
  | .shallotCoreWdExpiry t => [(t, STAMPS)]
  | .controlCoreWdExpiry t _ _ => [(t, STAMPS)]
  | .groupFrameWdExpiry t g => [(t, STAMPS), (g, 3)]
  | .dtimeMonitorWindow t _ => [(t, STAMPS)]
  | .managerWdExpiry t => [(t, STAMPS)]
  | .mgrKick t gen => [(t, STAMPS), (gen, 65536)]
  | .unitRetire t kind _ => [(t, STAMPS), (kind, 256)]
  | .unretire t _ => [(t, STAMPS)]
  | .unretireSelftestComplete t _ => [(t, STAMPS)]
  | .linkDown10ms t => [(t, STAMPS)]
  | .blockBoundary t => [(t, STAMPS)]
  | .audioBuffer t _ => [(t, STAMPS)]
  | .audioBufferComplete t a => [(t, STAMPS), (a, 64)]
  | .bufferUnderrun t a => [(t, STAMPS), (a, 64)]
  | .routeGo t a _ => [(t, STAMPS), (a, 64)]
  | .gainWrite t _ n _ => [(t, STAMPS), (n, 64)]
  | .eqDataWrite t _ => [(t, STAMPS)]
  | .eqSwap t b => [(t, STAMPS), (b, 32)]
  | .mapWrite t _ n k _ => [(t, STAMPS), (n, 12), (k, 4)]
  | .tdmPortEnable t p _ => [(t, STAMPS), (p, 4)]
  | .tdmPortDisable t p _ => [(t, STAMPS), (p, 4)]
  | .tdmFrameSync t p _ => [(t, STAMPS), (p, 4)]
  | .tdmFrame t p _ _ => [(t, STAMPS), (p, 4)]
  | .tdmBclkLoss t p => [(t, STAMPS), (p, 4)]
  | .tdmFrameSyncMissing t p => [(t, STAMPS), (p, 4)]
  | .touchDeviceAttach t p _ _ => [(t, STAMPS), (p, 8)]
  | .i2cIntFall t p => [(t, STAMPS), (p, 8)]
  | .touchReport t _ => [(t, STAMPS)]
  | .surfaceSilentTimeout t n => [(t, STAMPS), (n, 16)]
  | .routeDisable t r _ => [(t, STAMPS), (r, 256)]
  | .hapticTick t _ _ _ => [(t, STAMPS)]
  | .hapticPlay t => [(t, STAMPS)]
  | .htrigEdge t m _ => [(t, STAMPS), (m, 16)]
  | .driveEnd t n => [(t, STAMPS), (n, 16)]
  | .brakeEnd t n _ => [(t, STAMPS), (n, 16)]
  | .hapticOvercurrent t n => [(t, STAMPS), (n, 16)]
  | .memoryRequest t _ addr _ _ err _ => [(t, STAMPS), (addr, 34359738368), (err, 3)]
  | .requestAgeRaise t c => [(t, STAMPS), (c, 4)]
  | .patrolScrubRead t find => [(t, STAMPS), (find.err, 3)]
  | .pageRemapComplete t p => [(t, STAMPS), (p, 8388608)]
  | .zeroFillComplete t _ => [(t, STAMPS)]
  | .eccRegionChange t _ => [(t, STAMPS)]
  | .bankRefresh t c b _ => [(t, STAMPS), (c, 4), (b, 16)]
  | .refreshRateRead t c rate => [(t, STAMPS), (c, 4), (rate, 3)]
  | .retrainDue t c => [(t, STAMPS), (c, 4)]
  | .retrainOpportunity t g _ _ => [(t, STAMPS), (g, 3)]
  | .retrainForce t c => [(t, STAMPS), (c, 4)]
  | .selfRefreshEntry t c => [(t, STAMPS), (c, 4)]
  | .brownOut t _ _ _ => [(t, STAMPS)]
  | .overvoltage t _ _ _ => [(t, STAMPS)]
  | .vinRecovered t _ _ _ => [(t, STAMPS)]
  | .rideThroughExpiry t => [(t, STAMPS)]
  | .pd0PowerUp t _ _ _ => [(t, STAMPS)]
  | .pd0PowerLoss t _ _ _ => [(t, STAMPS)]
  | .pwrEnRise t _ _ _ => [(t, STAMPS)]
  | .pwrEnLow t => [(t, STAMPS)]
  | .domainGood t d => [(t, STAMPS), (d, 14)]
  | .domainGoodTimeout t d _ => [(t, STAMPS), (d, 14)]
  | .renderGateIdle t d => [(t, STAMPS), (d, 14)]
  | .thermalSample t _ _ => [(t, STAMPS)]
  | .thermalTrip t _ _ => [(t, STAMPS)]
  | .thermalRecovery t _ _ _ => [(t, STAMPS)]
  | .pwrReset t _ => [(t, STAMPS)]
  | .conventionalPcieReset t kind => [(t, STAMPS), (kind, 3)]
  | .perstNRise t => [(t, STAMPS)]
  | .bootStart t _ _ => [(t, STAMPS)]
  | .bootStageComplete t _ => [(t, STAMPS)]
  | .startDeadline t _ => [(t, STAMPS)]
  | .retry t _ _ => [(t, STAMPS)]
  | .seedling t _ _ => [(t, STAMPS)]
  | .updBegin t src _ => [(t, STAMPS), (src, 2)]
  | .updCancel t _ => [(t, STAMPS)]
  | .updInstall t => [(t, STAMPS)]
  | .installComplete t _ _ => [(t, STAMPS)]
  | .updXfer t _ => [(t, STAMPS)]
  | .updXferComplete t data _ _ _ => [(t, STAMPS), (data.length, 65537)]
  | .coapUpdateStart t _ _ => [(t, STAMPS)]
  | .coapResponse t data _ _ _ _ => [(t, STAMPS), (data.length, 65537)]
  | .coapRetry t => [(t, STAMPS)]
  | .coapHealthGet t => [(t, STAMPS)]
  | .quote t => [(t, STAMPS)]
  | .certs t => [(t, STAMPS)]
  | .attestComplete t _ => [(t, STAMPS)]
  | .workgroupComplete t c _ _ => [(t, STAMPS), (c, 512)]
  | .engineSamplePeriod t => [(t, STAMPS)]
  | .pcieLinkL0 t => [(t, STAMPS)]
  | .startAllowed t _ _ _ => [(t, STAMPS)]
  | .resetStageRelease t => [(t, STAMPS)]
  | .coapExchangeTimeout t => [(t, STAMPS)]
  | .ptpDelayResponse t _ _ _ _ _ => [(t, STAMPS)]
  | .msixVectorUnmask t fn v => [(t, STAMPS), (fn, 257), (v, 64)]
  | .vfEnableSet t v => [(t, STAMPS), (v, 257)]
  | .fontRegionRewriteComplete t => [(t, STAMPS)]

/-- Every such operand is in range. -/
def wellFormed (i : Instr) : Bool := i.bounds.all (fun b => decide (b.1 < b.2))

end Sys2Proof
end

