-- ==== Sys2Proof/Certificates/Slice0/Obligations.lean ====
section
/-! DEFINITION. The statements for the provers. -/

open Sys2Proof Sys2Proof.Machine

/-- A Sync message of the selected master is kept as the last one and sets TIME_INC within its bounds, without a phase term in HOLDOVER and not at all while house sync is the active source (model's choice, log entry 191); an Announce message enters the masters heard; a delay response sets the path delay by the mechanism of its profile. -/
def Obligations.PtpMessages : Prop :=
  (∀ (s : State) (t : Nat) (ident domain : Nat) (origin : Int),
    wellFormed (.ptpSync t ident domain origin) = true →
    s.pwr.phase = ResetPhase.run →
    ptpSelected s = true →
    domain = rdF s TIME_CTRL.PTP_DOMAIN →
    s.time.master = some ident →
    rdF s TIME_STATUS.SOURCE_ACTIVE ≠ SRC_HOUSE →
    Runs (.ptpSync t ident domain origin) s (fun u => u.time.lastSync = some (now (begin t s)) ∧ u.time.lastOrigin = origin ∧ INC_MIN ≤ u.time.inc ∧ u.time.inc ≤ INC_MAX ∧ (rdF s TIME_STATUS.STATE = TS_HOLDOVER → u.time.inc = u.time.freq) ∧ u.time.masters = s.time.masters ∧ u.mem = s.mem ∧ u.dsp = s.dsp)) ∧
  (∀ (s : State) (t : Nat) (ident domain : Nat) (origin : Int),
    wellFormed (.ptpSync t ident domain origin) = true →
    s.pwr.phase = ResetPhase.run →
    ptpSelected s = true →
    domain = rdF s TIME_CTRL.PTP_DOMAIN →
    s.time.master = some ident →
    rdF s TIME_STATUS.SOURCE_ACTIVE = SRC_HOUSE →
    Runs (.ptpSync t ident domain origin) s (fun u => u.time.lastSync = some (now (begin t s)) ∧ u.time.lastOrigin = origin ∧ u.time.inc = s.time.inc ∧ u.mem = s.mem ∧ u.dsp = s.dsp)) ∧
  (∀ (s : State) (t : Nat) (ident : Nat) (rank : List Nat) (domain : Nat) (logSync logAnnounce : Int) (ptpScale : Bool),
    wellFormed (.ptpAnnounce t ident rank domain logSync logAnnounce ptpScale) = true →
    s.pwr.phase = ResetPhase.run →
    ptpSelected s = true →
    domain = rdF s TIME_CTRL.PTP_DOMAIN →
    Runs (.ptpAnnounce t ident rank domain logSync logAnnounce ptpScale) s (fun u => u.time.masters.any (fun (m : PtpMaster) => decide (m.ident = ident ∧ m.rank = rank ∧ m.lastAnnounce = now (begin t s) ∧ m.qualified = (ptpScale && decide (-4 ≤ logSync ∧ logSync ≤ 1)))) = true ∧ u.regs = (settle (begin t s)).regs)) ∧
  (∀ (s : State) (t : Nat) (ident domain egress : Nat) (peerRx peerTx : Int) (l : Nat),
    wellFormed (.ptpDelayResponse t ident domain egress peerRx peerTx) = true →
    s.pwr.phase = ResetPhase.run →
    ptpSelected s = true →
    domain = rdF s TIME_CTRL.PTP_DOMAIN →
    s.time.master = some ident →
    s.time.syncOpen = true →
    rdF s TIME_CTRL.PTP_PROFILE = 0 →
    s.time.lastSync = some l →
    Runs (.ptpDelayResponse t ident domain egress peerRx peerTx) s (fun u => u.time.pathDelay = ((l : Int) - s.time.lastOrigin + (peerRx - egress)) / 2 ∧ u.regs = (settle (begin t s)).regs)) ∧
  (∀ (s : State) (t : Nat) (ident domain egress : Nat) (peerRx peerTx : Int),
    wellFormed (.ptpDelayResponse t ident domain egress peerRx peerTx) = true →
    s.pwr.phase = ResetPhase.run →
    ptpSelected s = true →
    domain = rdF s TIME_CTRL.PTP_DOMAIN →
    rdF s TIME_CTRL.PTP_PROFILE ≠ 0 →
    Runs (.ptpDelayResponse t ident domain egress peerRx peerTx) s (fun u => u.time.pathDelay = ((now (begin t s) : Int) - egress - (peerTx - peerRx)) / 2 ∧ u.regs = (settle (begin t s)).regs)) ∧
  (∀ (s : State) (t : Nat) (ident domain egress : Nat) (peerRx peerTx : Int),
    wellFormed (.ptpDelayResponse t ident domain egress peerRx peerTx) = true →
    s.pwr.phase = ResetPhase.run →
    domain ≠ rdF s TIME_CTRL.PTP_DOMAIN →
    Runs (.ptpDelayResponse t ident domain egress peerRx peerTx) s (fun u => u.time.pathDelay = s.time.pathDelay ∧ u.regs = (settle (begin t s)).regs))

/-- A Sync message with a phase error of 1 ms or more, after the offset was first set, steps TIME_TAI_OFFSET by the error, sets OFFSET_STEP and counts one step in TIME_STEP_COUNT. -/
def Obligations.PtpStep : Prop :=
  ∀ (s : State) (t : Nat) (ident domain : Nat) (origin : Int),
    wellFormed (.ptpSync t ident domain origin) = true →
    s.pwr.phase = ResetPhase.run →
    ptpSelected s = true →
    domain = rdF s TIME_CTRL.PTP_DOMAIN →
    s.time.master = some ident →
    s.time.offsetSet = true →
    1000000 ≤ ((now (begin t s) : Int) + taiOffset s - (origin + s.time.pathDelay)).natAbs →
    Runs (.ptpSync t ident domain origin) s (fun u => rdF u TIME_STEP_COUNT.STEPS = min (rdF s TIME_STEP_COUNT.STEPS + 1) 0xFFFFFFFF ∧ flag u TIME_STATUS.OFFSET_STEP = true ∧ rd64 u .TIME_TAI_OFFSET_LO .TIME_TAI_OFFSET_HI = unsigned 64 (taiOffset s - ((now (begin t s) : Int) + taiOffset s - (origin + s.time.pathDelay))))

/-- The announce timeout drops the masters whose three intervals have passed, and with the selected one a LOCKED PTP source goes to HOLDOVER; four missing Sync messages take a LOCKED PTP source without fallback to HOLDOVER and start the holdover timer; its expiry takes HOLDOVER to FREE; a write of TIME_CTRL that changes SRC takes the state to FREE. A write of the low word is held and changes no register; the write of the high word applies both and sets OFFSET_VALID. -/
def Obligations.TimeRegisters : Prop :=
  (∀ (s : State) (t : Nat),
    wellFormed (.ptpAnnounceTimeout t) = true →
    s.pwr.phase = ResetPhase.run →
    Runs (.ptpAnnounceTimeout t) s (fun u => u.time.masters = s.time.masters.filter (fun (m : PtpMaster) => !(announceDue (now (begin t s)) m)) ∧ u.mem = s.mem)) ∧
  (∀ (s : State) (t : Nat),
    wellFormed (.ptpAnnounceTimeout t) = true →
    s.pwr.phase = ResetPhase.run →
    (s.time.masters.any (fun (m : PtpMaster) => announceDue (now (begin t s)) m && decide (some m.ident = s.time.master)) = true) →
    Runs (.ptpAnnounceTimeout t) s (fun u => u.time.lastSync = none ∧ u.time.ptpLocked = false ∧ (rdF s TIME_STATUS.STATE = TS_LOCKED ∧ rdF s TIME_STATUS.SOURCE_ACTIVE = SRC_PTP → rdF u TIME_STATUS.STATE = TS_HOLDOVER))) ∧
  (∀ (s : State) (t : Nat) (l : Nat),
    wellFormed (.ptpSyncLoss t) = true →
    s.pwr.phase = ResetPhase.run →
    s.time.lastSync = some l →
    2 * l + 9 * s.time.syncInterval ≤ 2 * now (begin t s) →
    rdF s TIME_STATUS.STATE = TS_LOCKED →
    rdF s TIME_STATUS.SOURCE_ACTIVE = SRC_PTP →
    rdF s TIME_CTRL.SRC = 1 →
    Runs (.ptpSyncLoss t) s (fun u => rdF u TIME_STATUS.STATE = TS_HOLDOVER ∧ u.time.holdTimer = some (now (begin t s)) ∧ u.time.inc = s.time.freq)) ∧
  (∀ (s : State) (t : Nat) (h : Nat),
    wellFormed (.holdoverExpiry t) = true →
    s.pwr.phase = ResetPhase.run →
    s.time.holdTimer = some h →
    rdF s TIME_STATUS.STATE = TS_HOLDOVER →
    h + rdF s TIME_CTRL.HOLDOVER_MAX * 10 ^ 9 ≤ now (begin t s) →
    Runs (.holdoverExpiry t) s (fun u => rdF u TIME_STATUS.STATE = TS_FREE ∧ u.time.holdTimer = none)) ∧
  (∀ (s : State) (t : Nat) (v : Word),
    wellFormed (.timeSrcWrite t v) = true →
    s.pwr.phase = ResetPhase.run →
    rdF s BOOT_STATUS.STAGE = 6 →
    locked s = false →
    admitted (Reg.fields .TIME_CTRL) v.toNat = true →
    bitsOf v.toNat TIME_CTRL.SRC.hi TIME_CTRL.SRC.lo ≠ rdF s TIME_CTRL.SRC →
    Runs (.timeSrcWrite t v) s (fun u => rdF u TIME_STATUS.STATE = TS_FREE ∧ rdF u TIME_CTRL.SRC = bitsOf v.toNat TIME_CTRL.SRC.hi TIME_CTRL.SRC.lo)) ∧
  (∀ (s : State) (t : Nat) (v : Word),
    wellFormed (.taiOffsetLoWrite t v) = true →
    s.pwr.phase = ResetPhase.run →
    rdF s BOOT_STATUS.STAGE = 6 →
    Runs (.taiOffsetLoWrite t v) s (fun u => u.time.heldLo = some v ∧ RegsKept s u [])) ∧
  (∀ (s : State) (t : Nat) (v lo : Word),
    wellFormed (.taiOffsetHiWrite t v) = true →
    s.pwr.phase = ResetPhase.run →
    rdF s BOOT_STATUS.STAGE = 6 →
    ptpSelected s = false →
    s.time.heldLo = some lo →
    Runs (.taiOffsetHiWrite t v) s (fun u => rd u .TIME_TAI_OFFSET_LO = lo ∧ rd u .TIME_TAI_OFFSET_HI = v ∧ flag u TIME_STATUS.OFFSET_VALID = true ∧ u.time.heldLo = none))

/-- A good batch page rung with I0's current generation, while no batch runs, is taken with its commands in order. -/
def Obligations.ManagerBatch : Prop :=
  ∀ (s : State) (t : Nat) (gen : Nat) (page : Page),
    wellFormed (.batch t gen page) = true →
    s.pwr.phase = ResetPhase.run →
    rdF s BOOT_STATUS.STAGE = 6 →
    gen = instGen s 0 →
    flrMeets (begin t s) 0 = false →
    s.fab.batch = none →
    headerGood page = true →
    ((pageCommands page (u8 page 2)).head?.any (fun (c : Rec32) => knownCommand (cOpcode c)) = true) →
    Runs (.batch t gen page) s (fun u => u.fab.batch = some ({ seq := u32 page 4, count := u8 page 2, todo := pageCommands page (u8 page 2), results := [], current := none, wait := BatchWait.none, dropped := false } : Batch) ∧ (getInst u 0).outPage = page)

/-- A command of the batch whose checks pass: INST_CREATE makes an ABSENT tenant CREATED with its slice and share 16; INST_ENABLE makes a CREATED tenant ENABLED, or PARKED where SHARE_NEXT is 0; SHARE_SET sets SHARE_NEXT. A grant whose checks pass makes the unit HELD by the named instance under its current generation; a revoke of a HELD unit starts its revocation, and one of a FREE unit changes no lease; a reply to the outstanding request is delivered with the tenant's current generation and ends it. -/
def Obligations.ManagerInstances : Prop :=
  (∀ (s : State) (t : Nat) (c : Rec32),
    wellFormed (.instCreate t) = true →
    s.pwr.phase = ResetPhase.run →
    BatchAt s 0x01 [(6, 4), (10, 4), (14, 1)] c = true →
    badTarget s (cInstance c) [ABSENT] = false →
    cInstance c ≤ s.host.numVFs →
    s.host.vfEnable = true →
    0 < u32 c 10 →
    1 ≤ u8 c 14 →
    u8 c 14 ≤ 16 →
    sliceFree s (u32 c 6) (u32 c 10) = true →
    pasidsUsed s + u8 c 14 ≤ 4096 →
    Runs (.instCreate t) s (fun u => instState u (cInstance c) = CREATED ∧ instGen u (cInstance c) = instGen s (cInstance c) ∧ rdF u (INST_PASIDS.COUNT (cInstance c)) = u8 c 14 ∧ rdF u (INST_SHARE.SHARE_NEXT (cInstance c)) = 16 ∧ rdF u (INST_SLICE.BASE (cInstance c)) = u32 c 6 ∧ rdF u (INST_SLICE.SIZE (cInstance c)) = u32 c 10 ∧ rdF u (INST_SHARE.SHARE (cInstance c)) = 16 ∧ u.dsp = s.dsp ∧ u.aud = s.aud)) ∧
  (∀ (s : State) (t : Nat) (c : Rec32),
    wellFormed (.instEnable t) = true →
    s.pwr.phase = ResetPhase.run →
    BatchAt s 0x02 [] c = true →
    badTarget s (cInstance c) [CREATED] = false →
    Runs (.instEnable t) s (fun u => instState u (cInstance c) = (if 0 < rdF s (INST_SHARE.SHARE_NEXT (cInstance c)) then ENABLED else PARKED) ∧ instGen u (cInstance c) = instGen s (cInstance c) ∧ u.dsp = s.dsp ∧ u.aud = s.aud)) ∧
  (∀ (s : State) (t : Nat) (c : Rec32),
    wellFormed (.shareSet t) = true →
    s.pwr.phase = ResetPhase.run →
    BatchAt s 0x05 [(6, 1)] c = true →
    cInstance c ≤ 256 →
    instState s (cInstance c) ≠ ABSENT →
    cInstance c ≠ 0 ∨ u8 c 6 ≠ 0 →
    Runs (.shareSet t) s (fun u => rdF u (INST_SHARE.SHARE_NEXT (cInstance c)) = u8 c 6 ∧ rdF u (INST_SHARE.SHARE (cInstance c)) = rdF s (INST_SHARE.SHARE (cInstance c)) ∧ u.dsp = s.dsp)) ∧
  (∀ (s : State) (t : Nat) (c : Rec32),
    wellFormed (.leaseGrant t) = true →
    s.pwr.phase = ResetPhase.run →
    BatchAt s 0x06 [(6, 1), (8, 2), (10, 4)] c = true →
    badTarget s (cInstance c) [CREATED, ENABLED, PARKED] = false →
    unitExists s (cInstance c) (u8 c 6) (u16 c 8) = true →
    (getLease s (u8 c 6) (u16 c 8)).state = LeaseState.free →
    grantMeetsRetire (begin t s) (u8 c 6) (u16 c 8) = false →
    Runs (.leaseGrant t) s (fun u => (getLease u (u8 c 6) (u16 c 8)).state = LeaseState.held ∧ (getLease u (u8 c 6) (u16 c 8)).holder = cInstance c ∧ (getLease u (u8 c 6) (u16 c 8)).gen = instGen s (cInstance c) ∧ (getLease u (u8 c 6) (u16 c 8)).termMs = u32 c 10)) ∧
  (∀ (s : State) (t : Nat) (c : Rec32),
    wellFormed (.leaseRevoke t) = true →
    s.pwr.phase = ResetPhase.run →
    BatchAt s 0x07 [(6, 1), (8, 2)] c = true →
    u16 c 8 < unitsOf (u8 c 6) →
    (getLease s (u8 c 6) (u16 c 8)).state = LeaseState.held →
    (getLease s (u8 c 6) (u16 c 8)).holder = cInstance c →
    Runs (.leaseRevoke t) s (fun u => (getLease u (u8 c 6) (u16 c 8)).state = LeaseState.revoking ∧ (getLease u (u8 c 6) (u16 c 8)).ending = 1)) ∧
  (∀ (s : State) (t : Nat) (c : Rec32) (r : MbReq),
    wellFormed (.tenantReply t) = true →
    s.pwr.phase = ResetPhase.run →
    BatchAt s 0x08 [] c = true →
    badTarget s (cInstance c) [CREATED, ENABLED, PARKED, RESETTING] = false →
    mType (getInst s (cInstance c)).window = 0x8000 →
    u8 (getInst s (cInstance c)).window 8 < 0x10 →
    bytesAt (getInst s (cInstance c)).window 9 7 = 0 →
    (getInst s (cInstance c)).mbReq = some r →
    r.lost = false →
    r.seq = mSeq (getInst s (cInstance c)).window →
    r.takenAt < now (begin t s) →
    now (begin t s) < r.takenAt + rdF s INST_MB_TIMEOUT.TIMEOUT_MS * 1000000 →
    Runs (.tenantReply t) s (fun u => (getInst u (cInstance c)).mbReq = none ∧ (getInst u (cInstance c)).inPage = BitVec.ofNat 2048 (setBits (getInst s (cInstance c)).window.toNat 47 32 (instGen s (cInstance c))) ∧ u.dsp = s.dsp ∧ u.mem.pages = s.mem.pages)) ∧
  (∀ (s : State) (t : Nat) (c : Rec32),
    wellFormed (.leaseRevoke t) = true →
    s.pwr.phase = ResetPhase.run →
    BatchAt s 0x07 [(6, 1), (8, 2)] c = true →
    u16 c 8 < unitsOf (u8 c 6) →
    (getLease s (u8 c 6) (u16 c 8)).state = LeaseState.free →
    Runs (.leaseRevoke t) s (fun u => u.fab.leases = s.fab.leases ∧ u.dsp = s.dsp))

/-- A reset of a tenant raises its generation and leaves it RESETTING, with the state that it had before; a reset and a destroy stay the batch's current command until the drain is over. -/
def Obligations.ManagerResetAndDestroy : Prop :=
  (∀ (s : State) (t : Nat) (c : Rec32),
    wellFormed (.instReset t) = true →
    s.pwr.phase = ResetPhase.run →
    BatchAt s 0x03 [] c = true →
    badTarget s (cInstance c) [RESETTING] = false →
    flrMeets (begin t s) (cInstance c) = false →
    Runs (.instReset t) s (fun u => instGen u (cInstance c) = (instGen s (cInstance c) + 1) % 65536 ∧ instState u (cInstance c) = RESETTING ∧ u.fab.batch.any (fun (b : Batch) => decide (b.wait = BatchWait.reset (cInstance c) ∧ b.current = some (c, 0, now (begin t s)))) = true)) ∧
  (∀ (s : State) (t : Nat) (c : Rec32),
    wellFormed (.instReset t) = true →
    s.pwr.phase = ResetPhase.run →
    BatchAt s 0x03 [] c = true →
    badTarget s (cInstance c) [CREATED, ENABLED, PARKED] = false →
    flrMeets (begin t s) (cInstance c) = false →
    Runs (.instReset t) s (fun u => instGen u (cInstance c) = (instGen s (cInstance c) + 1) % 65536 ∧ instState u (cInstance c) = RESETTING ∧ (getInst u (cInstance c)).before = instState s (cInstance c) ∧ (getInst u (cInstance c)).resetAt = now (begin t s) ∧ u.fab.batch.any (fun (b : Batch) => decide (b.wait = BatchWait.reset (cInstance c) ∧ b.current = some (c, 0, now (begin t s)))) = true)) ∧
  (∀ (s : State) (t : Nat) (c : Rec32),
    wellFormed (.instDestroy t) = true →
    s.pwr.phase = ResetPhase.run →
    BatchAt s 0x04 [] c = true →
    badTarget s (cInstance c) [CREATED, ENABLED, PARKED, RESETTING] = false →
    Runs (.instDestroy t) s (fun u => instGen u (cInstance c) = (instGen s (cInstance c) + 1) % 65536 ∧ instState u (cInstance c) = DESTROYING ∧ u.fab.batch.any (fun (b : Batch) => decide (b.wait = BatchWait.destroy (cInstance c) ∧ b.current = some (c, 0, now (begin t s)))) = true))

/-- When the drain of a reset ends in time the instance returns to its previous state; at t0 + 100 µs it does so with DRAIN_TIMEOUT set; when a destroy completes, the instance is ABSENT without a slice, and its scrub is pending. -/
def Obligations.ResetEnds : Prop :=
  (∀ (s : State) (t : Nat) (n : Nat),
    wellFormed (.resetComplete t n) = true →
    s.pwr.phase = ResetPhase.run →
    n ≤ 256 →
    instState s n = RESETTING →
    (getInst s n).before ≤ 3 →
    now (begin t s) < (getInst s n).resetAt + 100000 →
    Runs (.resetComplete t n) s (fun u => instState u n = (getInst s n).before ∧ instGen u n = instGen s n)) ∧
  (∀ (s : State) (t : Nat) (n : Nat),
    wellFormed (.drainTimeout t n) = true →
    s.pwr.phase = ResetPhase.run →
    n ≤ 256 →
    instState s n = RESETTING →
    (getInst s n).before ≤ 3 →
    (getInst s n).resetAt + 100000 ≤ now (begin t s) →
    Runs (.drainTimeout t n) s (fun u => instState u n = (getInst s n).before ∧ flag u (INST_STATUS.DRAIN_TIMEOUT n) = true)) ∧
  (∀ (s : State) (t : Nat) (n : Nat),
    wellFormed (.destroyComplete t n) = true →
    s.pwr.phase = ResetPhase.run →
    1 ≤ n →
    n ≤ 256 →
    instState s n = DESTROYING →
    Runs (.destroyComplete t n) s (fun u => instState u n = ABSENT ∧ rd u (.INST_SLICE n) = 0 ∧ flag u (INST_STATUS.SCRUB_PEND n) = true))

/-- VF Enable and NumVFs follow the host's writes; a function-level reset of a live tenant waits for its drain; one of the PF raises I0's generation and clears its inbound page. -/
def Obligations.SriovCommands : Prop :=
  (∀ (s : State) (t : Nat) (v : Nat),
    wellFormed (.vfEnableSet t v) = true →
    s.pwr.phase = ResetPhase.run →
    configReady (begin t s) = true →
    flag s BOOT_STATUS.SEEDLING = false →
    Runs (.vfEnableSet t v) s (fun u => u.host.vfEnable = true ∧ u.host.numVFs = min v (totalVfs s) ∧ RegsKept s u [])) ∧
  (∀ (s : State) (t : Nat),
    wellFormed (.vfEnableClear t) = true →
    s.pwr.phase = ResetPhase.run →
    configReady (begin t s) = true →
    Runs (.vfEnableClear t) s (fun u => u.host.vfEnable = false)) ∧
  (∀ (s : State) (t : Nat) (v : Nat),
    wellFormed (.numvfsLower t v) = true →
    s.pwr.phase = ResetPhase.run →
    configReady (begin t s) = true →
    Runs (.numvfsLower t v) s (fun u => u.host.numVFs = v)) ∧
  (∀ (s : State) (t : Nat) (n : Nat),
    wellFormed (.vfFlr t n) = true →
    s.pwr.phase = ResetPhase.run →
    configReady (begin t s) = true →
    1 ≤ n →
    n ≤ 256 →
    exists? s n = true →
    instState s n ≠ ABSENT →
    instState s n ≠ DESTROYING →
    Runs (.vfFlr t n) s (fun u => (getInst u n).flr = true)) ∧
  (∀ (s : State) (t : Nat),
    wellFormed (.pfFlr t) = true →
    s.pwr.phase = ResetPhase.run →
    configReady (begin t s) = true →
    s.host.convAt ≠ some (now (begin t s)) →
    Runs (.pfFlr t) s (fun u => instGen u 0 = (instGen s 0 + 1) % 65536 ∧ (getInst u 0).inPage = 0))

/-- A lease at its EXPIRY begins its revocation as expired; a kick in time renews a held lease by its term; the end of a revocation frees the unit and records its holder and reason. -/
def Obligations.LeaseClock : Prop :=
  (∀ (s : State) (t : Nat) (kind unit : Nat),
    wellFormed (.leaseExpiry t kind unit) = true →
    s.pwr.phase = ResetPhase.run →
    expired (begin t s) (getLease s kind unit) = true →
    Runs (.leaseExpiry t kind unit) s (fun u => (getLease u kind unit).state = LeaseState.revoking ∧ (getLease u kind unit).ending = 2)) ∧
  (∀ (s : State) (t : Nat) (fn gen kind unit : Nat),
    wellFormed (.leaseKick t fn gen) = true →
    s.pwr.phase = ResetPhase.run →
    exists? s fn = true →
    instState s fn ≠ ABSENT →
    instState s fn ≠ DESTROYING →
    gen = instGen s fn →
    resetMeets (begin t s) fn = false →
    holds s fn kind unit = true →
    unit < 65536 →
    0 < (getLease s kind unit).termMs →
    now (begin t s) < (getLease s kind unit).expiry →
    Runs (.leaseKick t fn gen) s (fun u => (getLease u kind unit).expiry = now (begin t s) + (getLease s kind unit).termMs * 1000000 ∧ (getLease u kind unit).state = LeaseState.held)) ∧
  (∀ (s : State) (t : Nat) (kind unit : Nat),
    wellFormed (.revocationComplete t kind unit) = true →
    s.pwr.phase = ResetPhase.run →
    (getLease s kind unit).state = LeaseState.revoking →
    (getLease s kind unit).retireNow = false →
    (getLease s kind unit).ending ≠ 3 →
    Runs (.revocationComplete t kind unit) s (fun u => (getLease u kind unit).state = LeaseState.free ∧ (getLease u kind unit).endReason = (getLease s kind unit).ending ∧ (getLease u kind unit).lastHolder = (getLease s kind unit).holder))

/-- A request of any of the four types with a good header is mirrored for the manager and outstanding from then on; at INST_MB_TIMEOUT the device answers it with ST_TIMEOUT and it is outstanding no more. -/
def Obligations.TenantMailbox : Prop :=
  (∀ (s : State) (t : Nat) (n gen : Nat) (page : Page),
    wellFormed (.leaseRequest t n gen page) = true →
    s.pwr.phase = ResetPhase.run →
    1 ≤ n →
    n ≤ 256 →
    exists? s n = true →
    instState s n ≠ ABSENT →
    instState s n ≠ DESTROYING →
    gen = instGen s n →
    resetMeets (begin t s) n = false →
    (getInst s n).mbReq = none →
    mGen page = gen →
    requestGood page = true →
    s.fab.mbLatch = [] →
    mailboxMeets (begin t s) = false →
    Runs (.leaseRequest t n gen page) s (fun u => (getInst u n).mirror = page ∧ (getInst u n).outPage = page ∧ (getInst u n).mbReq = some ({ seq := mSeq page, takenAt := now (begin t s) } : MbReq) ∧ u.dsp = s.dsp ∧ u.mem = s.mem)) ∧
  (∀ (s : State) (t : Nat) (n gen : Nat) (page : Page),
    wellFormed (.leaseRelease t n gen page) = true →
    s.pwr.phase = ResetPhase.run →
    1 ≤ n →
    n ≤ 256 →
    exists? s n = true →
    instState s n ≠ ABSENT →
    instState s n ≠ DESTROYING →
    gen = instGen s n →
    resetMeets (begin t s) n = false →
    (getInst s n).mbReq = none →
    mGen page = gen →
    requestGood page = true →
    s.fab.mbLatch = [] →
    mailboxMeets (begin t s) = false →
    Runs (.leaseRelease t n gen page) s (fun u => (getInst u n).mirror = page ∧ (getInst u n).outPage = page ∧ (getInst u n).mbReq = some ({ seq := mSeq page, takenAt := now (begin t s) } : MbReq) ∧ u.dsp = s.dsp ∧ u.mem = s.mem)) ∧
  (∀ (s : State) (t : Nat) (n gen : Nat) (page : Page),
    wellFormed (.setup t n gen page) = true →
    s.pwr.phase = ResetPhase.run →
    1 ≤ n →
    n ≤ 256 →
    exists? s n = true →
    instState s n ≠ ABSENT →
    instState s n ≠ DESTROYING →
    gen = instGen s n →
    resetMeets (begin t s) n = false →
    (getInst s n).mbReq = none →
    mGen page = gen →
    requestGood page = true →
    s.fab.mbLatch = [] →
    mailboxMeets (begin t s) = false →
    Runs (.setup t n gen page) s (fun u => (getInst u n).mirror = page ∧ (getInst u n).outPage = page ∧ (getInst u n).mbReq = some ({ seq := mSeq page, takenAt := now (begin t s) } : MbReq) ∧ u.dsp = s.dsp ∧ u.mem = s.mem)) ∧
  (∀ (s : State) (t : Nat) (n gen : Nat) (page : Page),
    wellFormed (.query t n gen page) = true →
    s.pwr.phase = ResetPhase.run →
    1 ≤ n →
    n ≤ 256 →
    exists? s n = true →
    instState s n ≠ ABSENT →
    instState s n ≠ DESTROYING →
    gen = instGen s n →
    resetMeets (begin t s) n = false →
    (getInst s n).mbReq = none →
    mGen page = gen →
    requestGood page = true →
    s.fab.mbLatch = [] →
    mailboxMeets (begin t s) = false →
    Runs (.query t n gen page) s (fun u => (getInst u n).mirror = page ∧ (getInst u n).outPage = page ∧ (getInst u n).mbReq = some ({ seq := mSeq page, takenAt := now (begin t s) } : MbReq) ∧ u.dsp = s.dsp ∧ u.mem = s.mem)) ∧
  (∀ (s : State) (t : Nat) (n : Nat) (r : MbReq),
    wellFormed (.mailboxTimeout t n) = true →
    s.pwr.phase = ResetPhase.run →
    (getInst s n).mbReq = some r →
    r.takenAt + rdF s INST_MB_TIMEOUT.TIMEOUT_MS * 1000000 ≤ now (begin t s) →
    Runs (.mailboxTimeout t n) s (fun u => (getInst u n).mbReq = none ∧ (getInst u n).mbTimedOut = r.seq :: (getInst s n).mbTimedOut.filter (fun (x : Nat) => decide (x ≠ r.seq)) ∧ (getInst u n).inPage = deviceReply (instGen s n) r.seq ST_TIMEOUT))

/-- At a multiple of 250,000 every instance's SHARE takes the SHARE_NEXT accepted before it, and SHARE_NEXT does not change. -/
def Obligations.EpochCopiesShares : Prop :=
  (∀ (s : State) (t : Nat) (n : Nat),
    wellFormed (.epochBoundary t) = true →
    s.pwr.phase = ResetPhase.run →
    n ≤ 256 →
    now (begin t s) % 250000 = 0 →
    Runs (.epochBoundary t) s (fun u => rdF u (INST_SHARE.SHARE n) = nextShare (begin t s) n % 256 ∧ rdF u (INST_SHARE.SHARE_NEXT n) = rdF s (INST_SHARE.SHARE_NEXT n))) ∧
  (∀ (s : State) (t : Nat) (n : Nat),
    wellFormed (.epochBoundary t) = true →
    s.pwr.phase = ResetPhase.run →
    n ≤ 256 →
    now (begin t s) % 250000 = 0 →
    (getInst s n).shareAt ≠ some (now (begin t s)) →
    Runs (.epochBoundary t) s (fun u => rdF u (INST_SHARE.SHARE n) = rdF s (INST_SHARE.SHARE_NEXT n)))

/-- An aligned 32-bit write of one of the named registers with admitted values acts field by field by the access codes and leaves every other register as it was; a write of another width or alignment changes no register; a read of a low word delivers it and latches its high word, and the next read of the high word delivers what was latched; a read of a register whose fields are RC delivers them and clears them, and leaves in them what the device counts in that very cycle; a write of ID_LOCK sets SETUP_LOCK and never clears it. -/
def Obligations.RegisterAccess : Prop :=
  (∀ (s : State) (t : Nat) (off : Nat) (r : Reg) (v : Word),
    wellFormed (.registerWrite t 0 off 4 v) = true →
    s.pwr.phase = ResetPhase.run →
    off < 0x1000000 →
    off % 4 = 0 →
    regOfSetup off = some r →
    r ∈ ([Reg.PWR_GPIO, Reg.TIME_SYNC_PERIOD, Reg.SHL_ALERT_MASK, Reg.INST_MB_TIMEOUT, Reg.RND_GROW_TIMEOUT, Reg.MEM_PATROL, Reg.HD_SYNC_IN] : List Reg) →
    responds s off = true →
    locked s = false →
    admitted r.fields v.toNat = true →
    Runs (.registerWrite t 0 off 4 v) s (fun u => rd u r = BitVec.ofNat 32 (fieldWrite false r.fields (rd s r).toNat v.toNat) ∧ RegsKept s u [r])) ∧
  (∀ (s : State) (t : Nat) (fn off size : Nat) (v : Word),
    wellFormed (.registerWrite t fn off size v) = true →
    s.pwr.phase = ResetPhase.run →
    size ≠ 4 ∨ off % 4 ≠ 0 →
    Runs (.registerWrite t fn off size v) s (fun u => RegsKept s u [] ∧ u.mem = s.mem)) ∧
  (∀ (s : State) (t : Nat) (off : Nat) (r h : Reg),
    wellFormed (.latchedLowWordRead t 0 off 4) = true →
    s.pwr.phase = ResetPhase.run →
    off < 0x1000000 →
    off % 4 = 0 →
    regOfSetup off = some r →
    highWord r = some h →
    responds s off = true →
    (s.host.latch.all (fun (e : Nat × Nat × Word) => decide (e.1 ≠ 0 ∨ e.2.1 ≠ r.key)) = true) →
    Runs (.latchedLowWordRead t 0 off 4) s (fun u => u.host.lastRead = readReg (begin t s) r ∧ u.host.latch.contains (0, h.key, readReg (begin t s) h) = true ∧ RegsKept s u [])) ∧
  (∀ (s : State) (t : Nat) (off : Nat) (h : Reg) (x : Word),
    wellFormed (.latchedLowWordRead t 0 off 4) = true →
    s.pwr.phase = ResetPhase.run →
    off < 0x1000000 →
    off % 4 = 0 →
    regOfSetup off = some h →
    responds s off = true →
    (s.host.latch.find? (fun (e : Nat × Nat × Word) => decide (e.1 = 0 ∧ e.2.1 = h.key)) = some (0, h.key, x)) →
    Runs (.latchedLowWordRead t 0 off 4) s (fun u => u.host.lastRead = x ∧ u.host.latch.any (fun (e : Nat × Nat × Word) => decide (e.1 = 0 ∧ e.2.1 = h.key)) = false)) ∧
  (∀ (s : State) (t : Nat) (off : Nat) (r : Reg),
    wellFormed (.readClearCounter t 0 off 4) = true →
    s.pwr.phase = ResetPhase.run →
    off < 0x1000000 →
    off % 4 = 0 →
    regOfSetup off = some r →
    responds s off = true →
    r.fields ≠ [] →
    (r.fields.all (fun (f : FieldSpec) => decide (f.acc = Acc.rc)) = true) →
    s.meet.stamp ≠ now (begin t s) →
    (s.host.latch.all (fun (e : Nat × Nat × Word) => decide (e.1 ≠ 0 ∨ e.2.1 ≠ r.key)) = true) →
    Runs (.readClearCounter t 0 off 4) s (fun u => u.host.lastRead = rd s r ∧ r.fields.all (fun (f : FieldSpec) => decide (bitsOf (rd u r).toNat f.hi f.lo = 0)) = true ∧ RegsKept s u [r])) ∧
  (∀ (s : State) (t : Nat) (off : Nat) (r : Reg) (f : FieldSpec) (b n : Nat),
    wellFormed (.readClearCounter t 0 off 4) = true →
    s.pwr.phase = ResetPhase.run →
    off < 0x1000000 →
    off % 4 = 0 →
    regOfSetup off = some r →
    responds s off = true →
    r.fields = [f] →
    f.acc = Acc.rc →
    s.meet.stamp = now (begin t s) →
    Sparse.get (0, 0) s.meet.counted (32 * r.key + f.lo) = (b, n) →
    0 < n →
    b < 2 ^ (f.hi + 1 - f.lo) →
    (s.host.latch.all (fun (e : Nat × Nat × Word) => decide (e.1 ≠ 0 ∨ e.2.1 ≠ r.key)) = true) →
    Runs (.readClearCounter t 0 off 4) s (fun u => bitsOf u.host.lastRead.toNat f.hi f.lo = b ∧ bitsOf (rd u r).toNat f.hi f.lo = min n (2 ^ (f.hi + 1 - f.lo) - 1) ∧ RegsKept s u [r])) ∧
  (∀ (s : State) (t : Nat) (v : Word),
    wellFormed (.setupLock t v) = true →
    s.pwr.phase = ResetPhase.run →
    Runs (.setupLock t v) s (fun u => locked u = (locked s || bit v.toNat 0) ∧ RegsKept s u [.ID_LOCK]))

/-- A tail doorbell with the current generation on an enabled ring records the tail modulo the entry count; a head doorbell frees the slots up to the one it names: where that slot was written the tail stays, and where it was not yet written the tail moves there too, and PHASE inverts where the move passes index 0 (the completion ring being one for which no completion is outstanding). -/
def Obligations.RingDoorbells : Prop :=
  (∀ (s : State) (t : Nat) (fn q gen idx : Nat),
    wellFormed (.sqTailDoorbell t fn q gen idx) = true →
    s.pwr.phase = ResetPhase.run →
    (fn = 0 → rdF s BOOT_STATUS.STAGE = 6) →
    exists? s fn = true →
    instState s fn ≠ ABSENT →
    instState s fn ≠ DESTROYING →
    gen = instGen s fn →
    resetMeets (begin t s) fn = false →
    q < sqCount fn →
    flag s (SQ_CFG.ENABLE fn q) = true →
    Runs (.sqTailDoorbell t fn q gen idx) s (fun u => rdF u (SQ_PTR.TAIL fn q) = (idx % 2 ^ rdF s (SQ_CFG.SIZE_LOG2 fn q)) % 65536 ∧ rdF u (SQ_PTR.HEAD fn q) = rdF s (SQ_PTR.HEAD fn q) ∧ u.mem = s.mem)) ∧
  (∀ (s : State) (t : Nat) (fn c gen idx : Nat),
    wellFormed (.cqHeadDoorbell t fn c gen idx) = true →
    s.pwr.phase = ResetPhase.run →
    (fn = 0 → rdF s BOOT_STATUS.STAGE = 6) →
    exists? s fn = true →
    instState s fn ≠ ABSENT →
    instState s fn ≠ DESTROYING →
    gen = instGen s fn →
    resetMeets (begin t s) fn = false →
    c < cqCount fn →
    flag s (CQ_CFG.ENABLE fn c) = true →
    Runs (.cqHeadDoorbell t fn c gen idx) s (fun u => rdF u (CQ_PTR.HEAD fn c) = (idx % 2 ^ rdF s (CQ_CFG.SIZE_LOG2 fn c)) % 65536 ∧ u.mem = s.mem)) ∧
  (∀ (s : State) (t : Nat) (fn c gen idx i k : Nat),
    wellFormed (.cqHeadDoorbell t fn c gen idx) = true →
    s.pwr.phase = ResetPhase.run →
    (fn = 0 → rdF s BOOT_STATUS.STAGE = 6) →
    exists? s fn = true →
    instState s fn ≠ ABSENT →
    instState s fn ≠ DESTROYING →
    gen = instGen s fn →
    resetMeets (begin t s) fn = false →
    c < cqCount fn →
    flag s (CQ_CFG.ENABLE fn c) = true →
    (s.host.sq.all (fun (p : Nat × SqState) => decide (p.1 / 64 ≠ fn) || p.2.flights.all (fun (f : Flight) => decide (f.cq ≠ c))) = true) →
    i = idx % 2 ^ rdF s (CQ_CFG.SIZE_LOG2 fn c) →
    k = rdF s (CQ_CFG.SIZE_LOG2 fn c) →
    Runs (.cqHeadDoorbell t fn c gen idx) s (fun u => (ringUsed k (rdF s (CQ_PTR.HEAD fn c)) i ≤ ringUsed k (rdF s (CQ_PTR.HEAD fn c)) (rdF s (CQ_PTR.TAIL fn c)) → rdF u (CQ_PTR.TAIL fn c) = rdF s (CQ_PTR.TAIL fn c) ∧ (getCq u fn c).phase = (getCq s fn c).phase) ∧ (ringUsed k (rdF s (CQ_PTR.HEAD fn c)) (rdF s (CQ_PTR.TAIL fn c)) < ringUsed k (rdF s (CQ_PTR.HEAD fn c)) i → rdF u (CQ_PTR.TAIL fn c) = i % 65536 ∧ (getCq u fn c).phase = (if i < rdF s (CQ_PTR.TAIL fn c) then !(getCq s fn c).phase else (getCq s fn c).phase)))) ∧
  (∀ (s : State) (t : Nat) (fn gen idx i k : Nat),
    wellFormed (.eqHeadDoorbell t fn gen idx) = true →
    s.pwr.phase = ResetPhase.run →
    (fn = 0 → rdF s BOOT_STATUS.STAGE = 6) →
    exists? s fn = true →
    instState s fn ≠ ABSENT →
    instState s fn ≠ DESTROYING →
    gen = instGen s fn →
    resetMeets (begin t s) fn = false →
    flag s (EQ_CFG.ENABLE fn) = true →
    i = idx % 2 ^ rdF s (EQ_CFG.SIZE_LOG2 fn) →
    k = rdF s (EQ_CFG.SIZE_LOG2 fn) →
    Runs (.eqHeadDoorbell t fn gen idx) s (fun u => rdF u (EQ_PTR.HEAD fn) = i % 65536 ∧ (ringUsed k (rdF s (EQ_PTR.HEAD fn)) i ≤ ringUsed k (rdF s (EQ_PTR.HEAD fn)) (rdF s (EQ_PTR.TAIL fn)) → rdF u (EQ_PTR.TAIL fn) = rdF s (EQ_PTR.TAIL fn) ∧ (getEq u fn).phase = (getEq s fn).phase) ∧ (ringUsed k (rdF s (EQ_PTR.HEAD fn)) (rdF s (EQ_PTR.TAIL fn)) < ringUsed k (rdF s (EQ_PTR.HEAD fn)) i → rdF u (EQ_PTR.TAIL fn) = i % 65536 ∧ (getEq u fn).phase = (if i < rdF s (EQ_PTR.TAIL fn) then !(getEq s fn).phase else (getEq s fn).phase)) ∧ u.mem = s.mem))

/-- While a tenant is ABSENT or DESTROYING, every ring doorbell, mailbox doorbell and kick increments INST_n_STALE_WRITE whatever generation it carries, INST_LAST_DB_STATUS keeps its value, and a host write of its outbound page changes nothing. -/
def Obligations.AbsentDoorbells : Prop :=
  (∀ (s : State) (t : Nat) (n gen : Nat) (q idx : Nat),
    wellFormed (.sqTailDoorbell t n q gen idx) = true →
    s.pwr.phase = ResetPhase.run →
    1 ≤ n →
    n ≤ 256 →
    exists? s n = true →
    instState s n = ABSENT ∨ instState s n = DESTROYING →
    s.fab.mbLatch = [] →
    q < sqCount n →
    Runs (.sqTailDoorbell t n q gen idx) s (fun u => rdF u (INST_STALE_WRITE.COUNT n) = min (rdF s (INST_STALE_WRITE.COUNT n) + 1) (2 ^ 32 - 1) ∧ RegsKept s u [.INST_STALE_WRITE n] ∧ u.host.sq = s.host.sq ∧ u.fab.leases = s.fab.leases ∧ getInst u n = getInst s n)) ∧
  (∀ (s : State) (t : Nat) (n gen : Nat) (c idx : Nat),
    wellFormed (.cqHeadDoorbell t n c gen idx) = true →
    s.pwr.phase = ResetPhase.run →
    1 ≤ n →
    n ≤ 256 →
    exists? s n = true →
    instState s n = ABSENT ∨ instState s n = DESTROYING →
    s.fab.mbLatch = [] →
    c < cqCount n →
    Runs (.cqHeadDoorbell t n c gen idx) s (fun u => rdF u (INST_STALE_WRITE.COUNT n) = min (rdF s (INST_STALE_WRITE.COUNT n) + 1) (2 ^ 32 - 1) ∧ RegsKept s u [.INST_STALE_WRITE n] ∧ u.host.sq = s.host.sq ∧ u.fab.leases = s.fab.leases ∧ getInst u n = getInst s n)) ∧
  (∀ (s : State) (t : Nat) (n gen : Nat) (idx : Nat),
    wellFormed (.eqHeadDoorbell t n gen idx) = true →
    s.pwr.phase = ResetPhase.run →
    1 ≤ n →
    n ≤ 256 →
    exists? s n = true →
    instState s n = ABSENT ∨ instState s n = DESTROYING →
    s.fab.mbLatch = [] →
    Runs (.eqHeadDoorbell t n gen idx) s (fun u => rdF u (INST_STALE_WRITE.COUNT n) = min (rdF s (INST_STALE_WRITE.COUNT n) + 1) (2 ^ 32 - 1) ∧ RegsKept s u [.INST_STALE_WRITE n] ∧ u.host.sq = s.host.sq ∧ u.fab.leases = s.fab.leases ∧ getInst u n = getInst s n)) ∧
  (∀ (s : State) (t : Nat) (n gen : Nat),
    wellFormed (.leaseKick t n gen) = true →
    s.pwr.phase = ResetPhase.run →
    1 ≤ n →
    n ≤ 256 →
    exists? s n = true →
    instState s n = ABSENT ∨ instState s n = DESTROYING →
    s.fab.mbLatch = [] →
    Runs (.leaseKick t n gen) s (fun u => rdF u (INST_STALE_WRITE.COUNT n) = min (rdF s (INST_STALE_WRITE.COUNT n) + 1) (2 ^ 32 - 1) ∧ RegsKept s u [.INST_STALE_WRITE n] ∧ u.host.sq = s.host.sq ∧ u.fab.leases = s.fab.leases ∧ getInst u n = getInst s n)) ∧
  (∀ (s : State) (t : Nat) (n gen : Nat) (page : Page),
    wellFormed (.leaseRequest t n gen page) = true →
    s.pwr.phase = ResetPhase.run →
    1 ≤ n →
    n ≤ 256 →
    exists? s n = true →
    instState s n = ABSENT ∨ instState s n = DESTROYING →
    s.fab.mbLatch = [] →
    Runs (.leaseRequest t n gen page) s (fun u => rdF u (INST_STALE_WRITE.COUNT n) = min (rdF s (INST_STALE_WRITE.COUNT n) + 1) (2 ^ 32 - 1) ∧ RegsKept s u [.INST_STALE_WRITE n] ∧ u.host.sq = s.host.sq ∧ u.fab.leases = s.fab.leases ∧ getInst u n = getInst s n)) ∧
  (∀ (s : State) (t : Nat) (n gen : Nat) (page : Page),
    wellFormed (.leaseRelease t n gen page) = true →
    s.pwr.phase = ResetPhase.run →
    1 ≤ n →
    n ≤ 256 →
    exists? s n = true →
    instState s n = ABSENT ∨ instState s n = DESTROYING →
    s.fab.mbLatch = [] →
    Runs (.leaseRelease t n gen page) s (fun u => rdF u (INST_STALE_WRITE.COUNT n) = min (rdF s (INST_STALE_WRITE.COUNT n) + 1) (2 ^ 32 - 1) ∧ RegsKept s u [.INST_STALE_WRITE n] ∧ u.host.sq = s.host.sq ∧ u.fab.leases = s.fab.leases ∧ getInst u n = getInst s n)) ∧
  (∀ (s : State) (t : Nat) (n gen : Nat) (page : Page),
    wellFormed (.setup t n gen page) = true →
    s.pwr.phase = ResetPhase.run →
    1 ≤ n →
    n ≤ 256 →
    exists? s n = true →
    instState s n = ABSENT ∨ instState s n = DESTROYING →
    s.fab.mbLatch = [] →
    Runs (.setup t n gen page) s (fun u => rdF u (INST_STALE_WRITE.COUNT n) = min (rdF s (INST_STALE_WRITE.COUNT n) + 1) (2 ^ 32 - 1) ∧ RegsKept s u [.INST_STALE_WRITE n] ∧ u.host.sq = s.host.sq ∧ u.fab.leases = s.fab.leases ∧ getInst u n = getInst s n)) ∧
  (∀ (s : State) (t : Nat) (n gen : Nat) (page : Page),
    wellFormed (.query t n gen page) = true →
    s.pwr.phase = ResetPhase.run →
    1 ≤ n →
    n ≤ 256 →
    exists? s n = true →
    instState s n = ABSENT ∨ instState s n = DESTROYING →
    s.fab.mbLatch = [] →
    Runs (.query t n gen page) s (fun u => rdF u (INST_STALE_WRITE.COUNT n) = min (rdF s (INST_STALE_WRITE.COUNT n) + 1) (2 ^ 32 - 1) ∧ RegsKept s u [.INST_STALE_WRITE n] ∧ u.host.sq = s.host.sq ∧ u.fab.leases = s.fab.leases ∧ getInst u n = getInst s n)) ∧
  (∀ (s : State) (t : Nat) (n off : Nat) (v : Word),
    wellFormed (.registerWrite t n off 4 v) = true →
    s.pwr.phase = ResetPhase.run →
    1 ≤ n →
    n ≤ 256 →
    instState s n = ABSENT ∨ instState s n = DESTROYING →
    0x4000 ≤ off →
    off < 0x4100 →
    off % 4 = 0 →
    Runs (.registerWrite t n off 4 v) s (fun u => getInst u n = getInst s n ∧ RegsKept s u []))

/-- An ENABLE write that passes its checks sets ENABLE and starts the ring at index 0; an ENABLE = 0 write stops a submission ring with its fetched descriptors discarded, and a completion ring that no enabled submission ring names; a host read failure that is not a timeout halts the ring it fetches for, and a first timeout is retried. A fetch on an enabled ring of an ENABLED instance appends the descriptors received, at most 8, at most those between head and tail, and none past the ring's end, with the stamp of the fetch and the current generation, and moves the head past them; where it takes any, one read of ring memory at the head is made, without PASID. -/
def Obligations.RingSetup : Prop :=
  (∀ (s : State) (t : Nat) (fn idx : Nat) (v : Word),
    wellFormed (.ringEnable t fn 0 idx v) = true →
    s.pwr.phase = ResetPhase.run →
    (fn = 0 → rdF s BOOT_STATUS.STAGE = 6) →
    exists? s fn = true →
    justReset (begin t s) fn = false →
    idx < sqCount fn →
    flag s (SQ_CFG.ENABLE fn idx) = false →
    (admitted ((Reg.SQ_CFG fn idx).fields.filter (fun f => decide (f.hi ≠ 0))) (setBit v.toNat 0) = true) →
    sqEnableStatus s fn idx (setBit v.toNat 0) = ST_OK →
    Runs (.ringEnable t fn 0 idx v) s (fun u => flag u (SQ_CFG.ENABLE fn idx) = true ∧ rd u (.SQ_PTR fn idx) = 0 ∧ rdF u (SQ_CFG.CQ fn idx) = bitsOf v.toNat 20 16 ∧ rdF u (SQ_CFG.ENGINE fn idx) = bitsOf v.toNat 10 8 ∧ RegsKept s u [.SQ_CFG fn idx, .SQ_PTR fn idx])) ∧
  (∀ (s : State) (t : Nat) (fn idx : Nat) (v : Word),
    wellFormed (.ringEnable t fn 1 idx v) = true →
    s.pwr.phase = ResetPhase.run →
    (fn = 0 → rdF s BOOT_STATUS.STAGE = 6) →
    exists? s fn = true →
    justReset (begin t s) fn = false →
    idx < cqCount fn →
    flag s (CQ_CFG.ENABLE fn idx) = false →
    (admitted ((Reg.CQ_CFG fn idx).fields.filter (fun f => decide (f.hi ≠ 0))) (setBit v.toNat 0) = true) →
    vectorOk fn (setBit v.toNat 0) = true →
    cqEnableStatus s fn (some idx) (setBit v.toNat 0) = ST_OK →
    Runs (.ringEnable t fn 1 idx v) s (fun u => flag u (CQ_CFG.ENABLE fn idx) = true ∧ rd u (.CQ_PTR fn idx) = 0 ∧ rdF u (CQ_CFG.VECTOR fn idx) = bitsOf v.toNat 21 16 ∧ (getCq u fn idx).phase = true)) ∧
  (∀ (s : State) (t : Nat) (fn idx : Nat) (v : Word),
    wellFormed (.ringEnable t fn 2 idx v) = true →
    s.pwr.phase = ResetPhase.run →
    (fn = 0 → rdF s BOOT_STATUS.STAGE = 6) →
    exists? s fn = true →
    justReset (begin t s) fn = false →
    flag s (EQ_CFG.ENABLE fn) = false →
    (admitted ((Reg.EQ_CFG fn).fields.filter (fun f => decide (f.hi ≠ 0))) (setBit v.toNat 0) = true) →
    vectorOk fn (setBit v.toNat 0) = true →
    cqEnableStatus s fn none (setBit v.toNat 0) = ST_OK →
    Runs (.ringEnable t fn 2 idx v) s (fun u => flag u (EQ_CFG.ENABLE fn) = true ∧ rd u (.EQ_PTR fn) = 0)) ∧
  (∀ (s : State) (t : Nat) (fn idx : Nat) (v : Word),
    wellFormed (.ringDisable t fn 0 idx v) = true →
    s.pwr.phase = ResetPhase.run →
    (fn = 0 → rdF s BOOT_STATUS.STAGE = 6) →
    exists? s fn = true →
    justReset (begin t s) fn = false →
    idx < sqCount fn →
    flag s (SQ_CFG.ENABLE fn idx) = true →
    (admitted ((Reg.SQ_CFG fn idx).fields.filter (fun f => decide (f.hi ≠ 0))) (clearBit v.toNat 0) = true) →
    Runs (.ringDisable t fn 0 idx v) s (fun u => flag u (SQ_CFG.ENABLE fn idx) = false ∧ (getSq u fn idx).fetched = [] ∧ (getSq u fn idx).flights = (getSq s fn idx).flights)) ∧
  (∀ (s : State) (t : Nat) (fn idx : Nat) (v : Word),
    wellFormed (.ringDisable t fn 1 idx v) = true →
    s.pwr.phase = ResetPhase.run →
    (fn = 0 → rdF s BOOT_STATUS.STAGE = 6) →
    exists? s fn = true →
    justReset (begin t s) fn = false →
    idx < cqCount fn →
    flag s (CQ_CFG.ENABLE fn idx) = true →
    (admitted ((Reg.CQ_CFG fn idx).fields.filter (fun f => decide (f.hi ≠ 0))) (clearBit v.toNat 0) = true) →
    vectorOk fn (clearBit v.toNat 0) = true →
    Runs (.ringDisable t fn 1 idx v) s (fun u => flag u (CQ_CFG.ENABLE fn idx) = cqNamed s fn idx ∧ (cqNamed s fn idx = true → rdF u (CQ_CFG.ERR fn idx) = ST_BAD_DESC))) ∧
  (∀ (s : State) (t : Nat) (fn q len : Nat) (good : List Byte),
    wellFormed (.hostReadFailure t fn q 0 false good len) = true →
    s.pwr.phase = ResetPhase.run →
    exists? s fn = true →
    q < sqCount fn →
    flag s (SQ_CFG.ENABLE fn q) = true →
    Runs (.hostReadFailure t fn q 0 false good len) s (fun u => flag u (SQ_CFG.ENABLE fn q) = false ∧ rdF u (SQ_CFG.ERR fn q) = ST_NOT_OWNER ∧ (getSq u fn q).fetched = [])) ∧
  (∀ (s : State) (t : Nat) (fn q len : Nat) (good : List Byte),
    wellFormed (.hostReadFailure t fn q 0 true good len) = true →
    s.pwr.phase = ResetPhase.run →
    exists? s fn = true →
    q < sqCount fn →
    flag s (SQ_CFG.ENABLE fn q) = true →
    s.host.retries.contains (fn, q, 0, good.length) = false →
    Runs (.hostReadFailure t fn q 0 true good len) s (fun u => u.host.retries.contains (fn, q, 0, good.length) = true ∧ flag u (SQ_CFG.ENABLE fn q) = true ∧ (getSq u fn q).fetched = (getSq s fn q).fetched ∧ RegsKept s u [])) ∧
  (∀ (s : State) (t : Nat) (fn q : Nat) (ds : List Desc),
    wellFormed (.descriptorFetch t fn q ds) = true →
    s.pwr.phase = ResetPhase.run →
    flag s (SQ_CFG.ENABLE fn q) = true →
    instState s fn = ENABLED →
    ds.length ≤ fetchCount s fn q →
    Runs (.descriptorFetch t fn q ds) s (fun u => (getSq u fn q).fetched = (getSq s fn q).fetched ++ ds.map (fun (d : Desc) => ({ desc := d, stamp := now (begin t s), gen := instGen s fn } : Fetched)) ∧ rdF u (SQ_PTR.HEAD fn q) = (rdF s (SQ_PTR.HEAD fn q) + ds.length) % 2 ^ rdF s (SQ_CFG.SIZE_LOG2 fn q) % 65536 ∧ (getSq u fn q).flights = (getSq s fn q).flights ∧ (ds ≠ [] → u.out.contains (fetchRead (begin t s) fn q ds.length) = true)))

/-- Each descriptor that the scheduler takes and whose checks pass has its effect: NOP completes and changes no memory; TIMESTAMP writes the DTIME of dispatch; WRITE_VALUE writes VALUE; WAIT_VALUE completes at once where the value is reached and else holds its ring; COPY begins its transfer. -/
def Obligations.HostDescriptors : Prop :=
  (∀ (s : State) (t : Nat) (k : Taken),
    wellFormed (.nop t) = true →
    s.pwr.phase = ResetPhase.run →
    (Dispatches t s (fun o => decide (o = OP_NOP) || !(knownOp o)) (fun _ _ => ST_OK) k = true) →
    Runs (.nop t) s (fun u => Completed u k.fn k.q k.id = true ∧ u.mem = s.mem ∧ u.dsp = s.dsp ∧ u.rnd = s.rnd)) ∧
  (∀ (s : State) (t : Nat) (k : Taken),
    wellFormed (.timestamp t) = true →
    s.pwr.phase = ResetPhase.run →
    (Dispatches t s (fun o => decide (o = OP_TIMESTAMP)) checkTimestamp k = true) →
    Runs (.timestamp t) s (fun u => u.mem = (writeAddr (begin t s) k.fn k.d (u64 k.d 32) (toBytes 8 (now (begin t s)))).mem ∧ Completed u k.fn k.q k.id = true ∧ u.dsp = s.dsp)) ∧
  (∀ (s : State) (t : Nat) (k : Taken),
    wellFormed (.writeValue t) = true →
    s.pwr.phase = ResetPhase.run →
    (Dispatches t s (fun o => decide (o = OP_WRITE_VALUE)) checkWriteValue k = true) →
    Runs (.writeValue t) s (fun u => u.mem = (writeAddr (begin t s) k.fn k.d (u64 k.d 32) (toBytes 8 (u64 k.d 40))).mem ∧ Completed u k.fn k.q k.id = true ∧ u.dsp = s.dsp)) ∧
  (∀ (s : State) (t : Nat) (k : Taken),
    wellFormed (.waitValue t) = true →
    s.pwr.phase = ResetPhase.run →
    (Dispatches t s (fun o => decide (o = OP_WAIT_VALUE)) checkWaitValue k = true) →
    Runs (.waitValue t) s (fun u => (if u64 k.d 40 ≤ readNum s (u64 k.d 32) 8 then Completed u k.fn k.q k.id = true else (getSq u k.fn k.q).wait.any (fun (w : WaitV) => decide (w.id = k.id ∧ w.addr = u64 k.d 32 ∧ w.value = u64 k.d 40 ∧ w.since = now (begin t s))) = true) ∧ u.mem = s.mem)) ∧
  (∀ (s : State) (t : Nat) (k : Taken),
    wellFormed (.copy t) = true →
    s.pwr.phase = ResetPhase.run →
    (Dispatches t s (fun o => decide (o = OP_COPY)) checkCopy k = true) →
    Runs (.copy t) s (fun u => u.host.copies = s.host.copies ++ [({ fn := k.fn, q := k.q, id := k.id, gen := instGen s k.fn, src := u64 k.d 32, dst := u64 k.d 40, len := dLen k.d } : CopyOp)] ∧ (hostSpace (u64 k.d 32) = true → u.out.contains (HostMsg.hostRead k.fn (pasidOf s k.fn k.d) (hostAddr (u64 k.d 32)) (dLen k.d)) = true) ∧ u.mem = s.mem))

/-- A WAIT_VALUE whose value is reached releases its ring; a COPY into device memory without errors that finishes has written every byte of its source; a moderation window at its end is closed; an unmasked vector has its mask and pending bits clear; an ATS invalidation completes at once where no host read is outstanding, and else waits for those that are. -/
def Obligations.HostWorkEnds : Prop :=
  (∀ (s : State) (t : Nat) (fn q : Nat) (w : WaitV),
    wellFormed (.waitValueEval t) = true →
    s.pwr.phase = ResetPhase.run →
    q < 64 →
    (getSq s fn q).wait = some w →
    w.value ≤ readNum s w.addr 8 →
    Runs (.waitValueEval t) s (fun u => (getSq u fn q).wait = none ∧ u.mem = s.mem)) ∧
  (∀ (s : State) (t : Nat) (id : Nat) (data : List Byte) (c : CopyOp),
    wellFormed (.copyComplete t id data) = true →
    s.pwr.phase = ResetPhase.run →
    (s.host.copies.find? (fun (c : CopyOp) => decide (c.id = id)) = some c) →
    c.gen = instGen s c.fn →
    hostSpace c.dst = false →
    data.length = c.len →
    memClean s = true →
    Runs (.copyComplete t id data) s (fun u => sameMem u.mem (writeMem s c.dst (if hostSpace c.src then data else readMem s c.src c.len)).mem = true ∧ Completed u c.fn c.q id = true ∧ u.dsp = s.dsp)) ∧
  (∀ (s : State) (t : Nat) (fn c : Nat),
    wellFormed (.msixModTimeout t fn c false) = true →
    s.pwr.phase = ResetPhase.run →
    windowDue (begin t s) (getCq s fn c).window = true →
    Runs (.msixModTimeout t fn c false) s (fun u => (getCq u fn c).window.waiting = 0 ∧ u.mem = s.mem ∧ RegsKept s u [])) ∧
  (∀ (s : State) (t : Nat) (fn c : Nat),
    wellFormed (.msixModTimeout t fn c true) = true →
    s.pwr.phase = ResetPhase.run →
    windowDue (begin t s) (getEq s fn).window = true →
    Runs (.msixModTimeout t fn c true) s (fun u => (getEq u fn).window.waiting = 0 ∧ u.mem = s.mem ∧ RegsKept s u [])) ∧
  (∀ (s : State) (t : Nat) (fn v : Nat),
    wellFormed (.msixVectorUnmask t fn v) = true →
    s.pwr.phase = ResetPhase.run →
    (fn = 0 → rdF s BOOT_STATUS.STAGE = 6) →
    Runs (.msixVectorUnmask t fn v) s (fun u => bit (msixWord u fn v 3).toNat 0 = false ∧ u.host.msixPend.contains (fn * 64 + v) = false ∧ RegsKept s u [])) ∧
  (∀ (s : State) (t : Nat) (tag : Nat),
    wellFormed (.atsInvalidation t tag) = true →
    s.pwr.phase = ResetPhase.run →
    outstandingReads s = [] →
    s.host.atsWait.length < ATS_QUEUE_DEPTH →
    Runs (.atsInvalidation t tag) s (fun u => u.out = [HostMsg.atsDone tag] ∧ u.host.atsEpoch = s.host.atsEpoch + 1 ∧ RegsKept s u [] ∧ u.mem = s.mem)) ∧
  (∀ (s : State) (t : Nat) (tag : Nat),
    wellFormed (.atsInvalidation t tag) = true →
    s.pwr.phase = ResetPhase.run →
    outstandingReads s ≠ [] →
    s.host.atsWait.length < ATS_QUEUE_DEPTH →
    Runs (.atsInvalidation t tag) s (fun u => u.out = [] ∧ u.host.atsEpoch = s.host.atsEpoch + 1 ∧ u.host.atsWait = s.host.atsWait ++ [(tag, outstandingReads s)] ∧ RegsKept s u [] ∧ u.mem = s.mem))

/-- A command at the head of a running stream whose checks pass has its effect and the stream goes on behind it: NOP changes nothing of the context; SET_STATE writes its words; BIND_PIPELINE binds a registered record at once and else waits for its ingest; BIND_TABLE sets the table. -/
def Obligations.StreamState : Prop :=
  (∀ (s : State) (t : Nat) (c : Nat) (st : Stream) (dw : Nat),
    wellFormed (.csNop t c) = true →
    s.pwr.phase = ResetPhase.run →
    memClean s = true →
    AtCommand s c 0x01 st dw = true →
    Runs (.csNop t c) s (fun u => Passed u c st dw = true ∧ (getCtx u c).words = (getCtx s c).words ∧ (getCtx u c).pipeline = (getCtx s c).pipeline ∧ (getCtx u c).table = (getCtx s c).table ∧ sameMem u.mem s.mem = true)) ∧
  (∀ (s : State) (t : Nat) (c : Nat) (st : Stream) (dw : Nat),
    wellFormed (.setState t c) = true →
    s.pwr.phase = ResetPhase.run →
    memClean s = true →
    AtCommand s c 0x02 st dw = true →
    3 ≤ dw →
    dw ≤ 4095 →
    dw % 2 = 1 →
    ((statePairs (payload s st) ((dw - 1) / 2)).all (fun (p : Nat × Nat) => stateWordOk p.1 p.2) = true) →
    Runs (.setState t c) s (fun u => Passed u c st dw = true ∧ (getCtx u c).words = (statePairs (payload s st) ((dw - 1) / 2)).foldl (fun (m : Sparse Word) (p : Nat × Nat) => Sparse.set (stateWordReset p.1) m p.1 (BitVec.ofNat 32 p.2)) (getCtx s c).words ∧ sameMem u.mem s.mem = true)) ∧
  (∀ (s : State) (t : Nat) (c : Nat) (st : Stream) (r : Registration),
    wellFormed (.bindPipeline t c) = true →
    s.pwr.phase = ResetPhase.run →
    memClean s = true →
    AtCommand s c 0x03 st 3 = true →
    handleStatus s (ctxHolder s c) (w64 (payload s st) 0) = ST_OK →
    (s.rnd.regs.find? (fun (r : Registration) => decide (r.inst = ctxHolder s c ∧ r.addr = w64 (payload s st) 0 ∧ r.buildSeq = readNum s (w64 (payload s st) 0 + 4) 4)) = some r) →
    Runs (.bindPipeline t c) s (fun u => Passed u c st 3 = true ∧ (getCtx u c).pipeline = some r.addr ∧ (getCtx u c).compute = r.compute ∧ (getCtx u c).tr = r.tr ∧ (getCtx u c).attrs = r.attrs ∧ sameMem u.mem s.mem = true)) ∧
  (∀ (s : State) (t : Nat) (c : Nat) (st : Stream),
    wellFormed (.bindPipeline t c) = true →
    s.pwr.phase = ResetPhase.run →
    memClean s = true →
    AtCommand s c 0x03 st 3 = true →
    handleStatus s (ctxHolder s c) (w64 (payload s st) 0) = ST_OK →
    (s.rnd.regs.find? (fun (r : Registration) => decide (r.inst = ctxHolder s c ∧ r.addr = w64 (payload s st) 0 ∧ r.buildSeq = readNum s (w64 (payload s st) 0 + 4) 4)) = none) →
    Runs (.bindPipeline t c) s (fun u => (getCtx u c).stream = some { st with ingest := true } ∧ flag u (SHD_CTX_SCHED.INGEST c) = true ∧ clustersOf u c = [] ∧ sameMem u.mem (writeMem s (w64 (payload s st) 0 + 64) [0xFF]).mem = true)) ∧
  (∀ (s : State) (t : Nat) (c : Nat) (st : Stream),
    wellFormed (.bindTable t c) = true →
    s.pwr.phase = ResetPhase.run →
    memClean s = true →
    AtCommand s c 0x04 st 3 = true →
    csAddr s c (w64 (payload s st) 0) 32 64 = ST_OK →
    Runs (.bindTable t c) s (fun u => Passed u c st 3 = true ∧ (getCtx u c).table = some (w64 (payload s st) 0) ∧ (getCtx u c).words = (getCtx s c).words ∧ sameMem u.mem s.mem = true))

/-- A BEGIN_PASS whose record passes its checks opens the pass, with the table of its tiles laid down where pods are free; END_PASS starts the tile phase with every tile left; a BARRIER that need not wait lets the stream go on. -/
def Obligations.StreamPasses : Prop :=
  (∀ (s : State) (t : Nat) (c : Nat) (st : Stream),
    wellFormed (.beginPass t c) = true →
    s.pwr.phase = ResetPhase.run →
    memClean s = true →
    AtCommand s c 0x05 st 3 = true →
    hostSpace st.addr = true →
    (getCtx s c).pass = none →
    passStatus s c (w64 (payload s st) 0) = ST_OK →
    Runs (.beginPass t c) s (fun u => Passed u c st 3 = true ∧ (getCtx u c).passOrd = ((getCtx s c).passOrd + 1) % 2 ^ 32 ∧ sameMem u.mem (openPass c (passRecord s c (w64 (payload s st) 0)) (begin t s)).mem = true)) ∧
  (∀ (s : State) (t : Nat) (c : Nat) (st : Stream) (p : Pass),
    wellFormed (.endPass t c) = true →
    s.pwr.phase = ResetPhase.run →
    memClean s = true →
    AtCommand s c 0x09 st 1 = true →
    (getCtx s c).pass = some p →
    p.phase = PassPhase.binning →
    Runs (.endPass t c) s (fun u => Passed u c st 1 = true ∧ (getCtx u c).pass = some { p with phase := PassPhase.tile, tilesLeft := tileCount p } ∧ sameMem u.mem s.mem = true)) ∧
  (∀ (s : State) (t : Nat) (c : Nat) (st : Stream),
    wellFormed (.barrier t c) = true →
    s.pwr.phase = ResetPhase.run →
    memClean s = true →
    AtCommand s c 0x0C st 2 = true →
    inPass (getCtx s c) = false →
    payload s st 0 ≤ 15 →
    Runs (.barrier t c) s (fun u => Passed u c st 2 = true ∧ (getCtx u c).groups = (getCtx s c).groups ∧ sameMem u.mem s.mem = true))

/-- A draw whose checks pass runs its vertex stages and bins the primitives that they give; a dispatch whose checks pass adds its workgroups, with the state it found, to those the context has still to complete; indirect forms take their arguments from memory. -/
def Obligations.StreamDraws : Prop :=
  (∀ (s : State) (t : Nat) (c : Nat) (st : Stream),
    wellFormed (.draw t c) = true →
    s.pwr.phase = ResetPhase.run →
    memClean s = true →
    AtCommand s c 0x06 st 5 = true →
    hostSpace st.addr = true →
    drawStatus s c = ST_OK →
    Runs (.draw t c) s (fun u => Passed u c st 5 = true ∧ sameMem u.mem (drawPlain c (payload s st) (begin t s)).mem = true ∧ (getCtx u c).words = (getCtx s c).words ∧ u.dsp = s.dsp)) ∧
  (∀ (s : State) (t : Nat) (c : Nat) (st : Stream),
    wellFormed (.drawIndexed t c) = true →
    s.pwr.phase = ResetPhase.run →
    memClean s = true →
    AtCommand s c 0x07 st 8 = true →
    hostSpace st.addr = true →
    drawStatus s c = ST_OK →
    indexStatus s c (w64 (payload s st) 0) (payload s st 2) (payload s st 3) = ST_OK →
    Runs (.drawIndexed t c) s (fun u => Passed u c st 8 = true ∧ sameMem u.mem (drawByIndex c (payload s st) (begin t s)).mem = true ∧ (getCtx u c).words = (getCtx s c).words ∧ u.dsp = s.dsp)) ∧
  (∀ (s : State) (t : Nat) (c : Nat) (st : Stream),
    wellFormed (.drawIndirect t c) = true →
    s.pwr.phase = ResetPhase.run →
    memClean s = true →
    AtCommand s c 0x08 st 4 = true →
    hostSpace st.addr = true →
    drawStatus s c = ST_OK →
    payload s st 2 = 0 →
    csAddr s c (w64 (payload s st) 0) 16 4 = ST_OK →
    Runs (.drawIndirect t c) s (fun u => Passed u c st 4 = true ∧ sameMem u.mem (drawPlain c (fun i => readNum s ((w64 (payload s st) 0) + 4 * i) 4) (touch (begin t s) (w64 (payload s st) 0) 16)).mem = true ∧ (getCtx u c).words = (getCtx s c).words ∧ u.dsp = s.dsp)) ∧
  (∀ (s : State) (t : Nat) (c : Nat) (st : Stream),
    wellFormed (.drawIndirect t c) = true →
    s.pwr.phase = ResetPhase.run →
    memClean s = true →
    AtCommand s c 0x08 st 4 = true →
    hostSpace st.addr = true →
    drawStatus s c = ST_OK →
    payload s st 2 = 1 →
    csAddr s c (w64 (payload s st) 0) 28 4 = ST_OK →
    (indexStatus s c (w64 (fun i => readNum s ((w64 (payload s st) 0) + 4 * i) 4) 0) (readNum s ((w64 (payload s st) 0) + 8) 4) (readNum s ((w64 (payload s st) 0) + 12) 4) = ST_OK) →
    Runs (.drawIndirect t c) s (fun u => Passed u c st 4 = true ∧ sameMem u.mem (drawByIndex c (fun i => readNum s ((w64 (payload s st) 0) + 4 * i) 4) (touch (begin t s) (w64 (payload s st) 0) 28)).mem = true ∧ (getCtx u c).words = (getCtx s c).words ∧ u.dsp = s.dsp)) ∧
  (∀ (s : State) (t : Nat) (c : Nat) (st : Stream),
    wellFormed (.dispatch t c) = true →
    s.pwr.phase = ResetPhase.run →
    memClean s = true →
    AtCommand s c 0x0A st 4 = true →
    (dispatchGroups c (payload s st 0) (payload s st 1) (payload s st 2) s).1 = ST_OK →
    Runs (.dispatch t c) s (fun u => Passed u c st 4 = true ∧ (getCtx u c).groups = (getCtx s c).groups + (payload s st 0) * (payload s st 1) * (payload s st 2) ∧ ((payload s st 0) * (payload s st 1) * (payload s st 2) ≠ 0 → (getCtx u c).runs = (getCtx s c).runs ++ [({ draw := drawState s c, x := (payload s st 0), y := (payload s st 1), z := (payload s st 2) } : DispatchRun)]) ∧ sameMem u.mem s.mem = true)) ∧
  (∀ (s : State) (t : Nat) (c : Nat) (st : Stream),
    wellFormed (.dispatchIndirect t c) = true →
    s.pwr.phase = ResetPhase.run →
    memClean s = true →
    AtCommand s c 0x0B st 3 = true →
    csAddr s c (w64 (payload s st) 0) 12 1 = ST_OK →
    (dispatchGroups c (readNum s (w64 (payload s st) 0) 4) (readNum s ((w64 (payload s st) 0) + 4) 4) (readNum s ((w64 (payload s st) 0) + 8) 4) s).1 = ST_OK →
    Runs (.dispatchIndirect t c) s (fun u => Passed u c st 3 = true ∧ (getCtx u c).groups = (getCtx s c).groups + (readNum s (w64 (payload s st) 0) 4) * (readNum s ((w64 (payload s st) 0) + 4) 4) * (readNum s ((w64 (payload s st) 0) + 8) 4) ∧ ((readNum s (w64 (payload s st) 0) 4) * (readNum s ((w64 (payload s st) 0) + 4) 4) * (readNum s ((w64 (payload s st) 0) + 8) 4) ≠ 0 → (getCtx u c).runs = (getCtx s c).runs ++ [({ draw := drawState s c, x := (readNum s (w64 (payload s st) 0) 4), y := (readNum s ((w64 (payload s st) 0) + 4) 4), z := (readNum s ((w64 (payload s st) 0) + 8) 4) } : DispatchRun)]) ∧ sameMem u.mem s.mem = true))

/-- A CS_SUBMIT whose checks pass waits in its context, runs there, or has completed, and one in host memory is read from there; one that fails a check, in a context that its instance holds, is recorded in LAST_STATUS without a failing command; a GROW whose checks pass attaches its chunks behind those attached before and completes. -/
def Obligations.RenderSubmissions : Prop :=
  (∀ (s : State) (t : Nat) (k : Taken) (words : List Word),
    wellFormed (.csSubmit t words) = true →
    s.pwr.phase = ResetPhase.run →
    (Dispatches t s (fun o => decide (o = OP_CS_SUBMIT)) checkCsSubmit k = true) →
    Runs (.csSubmit t words) s (fun u => ((getCtx u (u16 k.d 24)).stream.any (fun (x : Stream) => decide (x.id = k.id)) || (getCtx u (u16 k.d 24)).queue.any (fun (x : Stream) => decide (x.id = k.id)) || Completed u k.fn k.q k.id) = true ∧ (hostSpace (u64 k.d 32) = true → u.out.contains (HostMsg.hostRead k.fn (pasidOf s k.fn k.d) (hostAddr (u64 k.d 32)) (dLen k.d)) = true) ∧ u.mem = s.mem)) ∧
  (∀ (s : State) (t : Nat) (s1 : State) (k : Taken) (words : List Word),
    wellFormed (.csSubmit t words) = true →
    s.pwr.phase = ResetPhase.run →
    (takeNext (fun o => decide (o = OP_CS_SUBMIT)) (begin t s) = some (s1, k)) →
    checkCsSubmit s1 k ≠ ST_OK →
    holds s1 k.fn K_CTX (u16 k.d 24) = true →
    u16 k.d 24 < 512 →
    Runs (.csSubmit t words) s (fun u => rdF u (RND_CTX_STATUS.LAST_STATUS (u16 k.d 24)) = checkCsSubmit s1 k ∧ rd u (.RND_CTX_FAILOFS (u16 k.d 24)) = 0xFFFFFFFF ∧ Completed u k.fn k.q k.id = true ∧ u.mem = s.mem)) ∧
  (∀ (s : State) (t : Nat) (k : Taken),
    wellFormed (.grow t) = true →
    s.pwr.phase = ResetPhase.run →
    (Dispatches t s (fun o => decide (o = OP_GROW)) checkGrow k = true) →
    Runs (.grow t) s (fun u => (getCtx u (u16 k.d 24)).chunks = (getCtx s (u16 k.d 24)).chunks ++ growChunks k.d ∧ Completed u k.fn k.q k.id = true))

/-- A workgroup that completes on a cluster of its context leaves one fewer, with its storage writes done; a tile that finishes is rendered from its bin and stored by its store ops and leaves one tile fewer, the last one ends the pass; at SPLIT_AT a stalled pass that has bins starts its split render, which counts when it completes. -/
def Obligations.RenderProgress : Prop :=
  (∀ (s : State) (t : Nat) (c d g : Nat) (r : DispatchRun),
    wellFormed (.workgroupComplete t c d g) = true →
    s.pwr.phase = ResetPhase.run →
    memClean s = true →
    worksOn s c = true →
    (getCtx s c).runs[d]? = some r →
    g < r.x * r.y * r.z →
    Sparse.get false r.finished g = false →
    Runs (.workgroupComplete t c d g) s (fun u => (getCtx u c).groups = (getCtx s c).groups - 1 ∧ sameMem u.mem (runGroup c d g r (begin t s)).mem = true ∧ u.dsp = s.dsp)) ∧
  (∀ (s : State) (t : Nat) (c tile : Nat) (p : Pass),
    wellFormed (.tileStore t c tile) = true →
    s.pwr.phase = ResetPhase.run →
    memClean s = true →
    runsOn s c = true →
    (getCtx s c).pass = some p →
    p.phase = PassPhase.tile →
    tile < tileCount p →
    (Sparse.get ({} : TileBin) p.bins tile).stored = false →
    Runs (.tileStore t c tile) s (fun u => sameMem u.mem (storeTile p tile (renderTile (getCtx s c) p tile (begin t s)).1 (renderTile (getCtx s c) p tile (begin t s)).2).mem = true ∧ (getCtx u c).pass = (if p.tilesLeft - 1 = 0 then none else some { p with bins := Sparse.set ({} : TileBin) p.bins tile { Sparse.get ({} : TileBin) p.bins tile with stored := true }, tilesLeft := p.tilesLeft - 1 }) ∧ u.dsp = s.dsp)) ∧
  (∀ (s : State) (t : Nat) (c : Nat) (p : Pass),
    wellFormed (.splitStart t c) = true →
    s.pwr.phase = ResetPhase.run →
    (getCtx s c).pass = some p →
    ((getCtx s c).stream.any (fun (x : Stream) => x.ingest) = false) →
    p.phase = PassPhase.stalled →
    p.splitAt ≤ now (begin t s) →
    growWaiting s c p.splitAt = false →
    p.listPods ≠ [] ∨ p.vertexPods ≠ [] →
    Runs (.splitStart t c) s (fun u => (getCtx u c).pass = some { p with phase := PassPhase.splitting } ∧ rdF u (RND_CTX_STATUS.STATE c) = 4 ∧ u.mem = s.mem)) ∧
  (∀ (s : State) (t : Nat) (c : Nat) (p : Pass),
    wellFormed (.splitComplete t c) = true →
    s.pwr.phase = ResetPhase.run →
    memClean s = true →
    runsOn s c = true →
    (getCtx s c).pass = some p →
    p.phase = PassPhase.splitting →
    (splitTiles p).length + p.slotsUsed ≤ p.slots →
    Runs (.splitComplete t c) s (fun u => rdF u (RND_CTX_SPLIT_TOTAL.COUNT c) = min (rdF s (RND_CTX_SPLIT_TOTAL.COUNT c) + 1) (2 ^ 32 - 1) ∧ (getCtx u c).pass.all (fun (q : Pass) => decide (q.phase ≠ PassPhase.splitting)) = true))

/-- A corrected error leaves the context running; a cluster error starts the reset of the cluster, which has no context from then on; the reset that completes ends it; one that does not within 20 µs retires the cluster, whose unit retirement is then due; a cluster still held 100 µs after a preemption request is reset. -/
def Obligations.ClusterFaults : Prop :=
  (∀ (s : State) (t : Nat) (k : Nat) (ok : Bool),
    wellFormed (.clusterFault t k 0 ok) = true →
    s.pwr.phase = ResetPhase.run →
    k < 24 →
    Runs (.clusterFault t k 0 ok) s (fun u => getCluster u k = getCluster s k ∧ u.mem = s.mem ∧ u.shl.due = s.shl.due)) ∧
  (∀ (s : State) (t : Nat) (k row : Nat) (ok : Bool),
    wellFormed (.clusterFault t k row ok) = true →
    s.pwr.phase = ResetPhase.run →
    k < 24 →
    row ≠ 0 →
    Runs (.clusterFault t k row ok) s (fun u => (getCluster u k).ctx = none ∧ (getCluster u k).resetAt = some (now (begin t s)))) ∧
  (∀ (s : State) (t : Nat) (k r : Nat),
    wellFormed (.clusterResetComplete t k) = true →
    s.pwr.phase = ResetPhase.run →
    (getCluster s k).resetAt = some r →
    (getCluster s k).ctx = none →
    (getCluster s k).grant = none →
    Runs (.clusterResetComplete t k) s (fun u => getCluster u k = { getCluster s k with resetAt := none, resetFor := none } ∧ u.mem = s.mem)) ∧
  (∀ (s : State) (t : Nat) (k r : Nat),
    wellFormed (.clusterResetTimeout t k) = true →
    s.pwr.phase = ResetPhase.run →
    (getCluster s k).resetAt = some r →
    r + 20000 ≤ now (begin t s) →
    isRetired s U_CLUSTER k = false →
    retireIsDue s U_CLUSTER k = false →
    Runs (.clusterResetTimeout t k) s (fun u => getCluster u k = ({} : Cluster) ∧ bit (rdF u RND_CLUSTER_RETIRED.RETIRED) k = true ∧ retireIsDue u U_CLUSTER k = true ∧ u.mem = s.mem)) ∧
  (∀ (s : State) (t : Nat) (c k r : Nat),
    wellFormed (.contextPreemptTimeout t c) = true →
    s.pwr.phase = ResetPhase.run →
    k < 24 →
    (getCluster s k).ctx = some c →
    (getCluster s k).preempt = some r →
    r + 100000 ≤ now (begin t s) →
    Runs (.contextPreemptTimeout t c) s (fun u => (getCluster u k).ctx = none ∧ (getCluster u k).resetAt = some (now (begin t s)) ∧ (getCluster u k).resv = (getCluster s k).resv))

/-- Ingests that wait while none runs: one starts. An ingest that finds the record and its modules good, with room in the cache, registers the handle and binds it, and the stream goes on; one that does not leaves its reason in the record and the pipeline as it was. -/
def Obligations.ShaderIngest : Prop :=
  (∀ (s : State) (t : Nat),
    wellFormed (.ingestStart t) = true →
    s.pwr.phase = ResetPhase.run →
    (s.rnd.ingests.all (fun (i : Ingest) => i.startedAt.isNone && decide (i.inst ≤ 256)) = true) →
    s.rnd.ingests ≠ [] →
    Runs (.ingestStart t) s (fun u => u.rnd.ingests.any (fun (i : Ingest) => decide (i.startedAt = some (now (begin t s)))) = true ∧ u.rnd.ingests.length = s.rnd.ingests.length)) ∧
  (∀ (s : State) (t : Nat) (i : Ingest) (st : Stream),
    wellFormed (.ingestComplete t) = true →
    s.pwr.phase = ResetPhase.run →
    memClean s = true →
    (s.rnd.ingests.find? (fun (i : Ingest) => i.startedAt.isSome) = some i) →
    i.ctx < 512 →
    i.inst ≤ 256 →
    inSlice s i.inst i.addr 256 = true →
    (getCtx s i.ctx).stream = some st →
    st.fail = none →
    ((getCtx s i.ctx).queue.all (fun (x : Stream) => decide (x.id ≠ st.id)) = true) →
    Runs (.ingestComplete t) s (fun u => flag u (SHD_CTX_SCHED.INGEST i.ctx) = false ∧ u.rnd.ingests = s.rnd.ingests.filter (fun (x : Ingest) => decide (x.ctx ≠ i.ctx)) ∧ ((ingestFinding s i.inst i.addr (pipelineRecord s i.addr)).1 = 0 → (cacheTranslation s i (pipelineRecord s i.addr)).isSome = true → (getCtx u i.ctx).pipeline = some i.addr ∧ Passed u i.ctx st 3 = true ∧ u.rnd.regs.any (fun (r : Registration) => decide (r.inst = i.inst ∧ r.addr = i.addr ∧ r.buildSeq = i.buildSeq)) = true) ∧ ((ingestFinding s i.inst i.addr (pipelineRecord s i.addr)).1 ≠ 0 → (getCtx u i.ctx).pipeline = (getCtx s i.ctx).pipeline ∧ sameMem u.mem (writeRecord (begin t s) i (i.startedAt.getD 0) (ingestFinding s i.inst i.addr (pipelineRecord s i.addr)) false).mem = true))) ∧
  (∀ (s : State) (t : Nat) (i : Ingest) (st : Stream) (f : Nat × Nat × Nat),
    wellFormed (.ingestComplete t) = true →
    s.pwr.phase = ResetPhase.run →
    memClean s = true →
    (s.rnd.ingests.find? (fun (i : Ingest) => i.startedAt.isSome) = some i) →
    i.ctx < 512 →
    i.inst ≤ 256 →
    inSlice s i.inst i.addr 256 = true →
    (getCtx s i.ctx).stream = some st →
    st.fail = none →
    ((getCtx s i.ctx).queue.all (fun (x : Stream) => decide (x.id ≠ st.id)) = true) →
    ingestFinding s i.inst i.addr (pipelineRecord s i.addr) = f →
    f.1 ≠ 0 →
    Runs (.ingestComplete t) s (fun u => (getCtx u i.ctx).pipeline = (getCtx s i.ctx).pipeline ∧ u.rnd.regs = s.rnd.regs ∧ sameMem u.mem (writeRecord (begin t s) i (i.startedAt.getD 0) f false).mem = true ∧ ((getCtx s i.ctx).pass = none → (getCtx s i.ctx).groups = 0 → (getCtx s i.ctx).queue = [] → resetHeld s i.ctx st = false → rdF u (RND_CTX_STATUS.LAST_STATUS i.ctx) = reasonStatus f.1)))

/-- 10 µs after a request without a boundary the cluster stops mid-wave and counts; a preempted cluster that stops is free of the request, and work stopped mid-wave has its save record written at the lowest free place; a resume drops the oldest save; an NP job that reaches 50 µs lets its request go out and counts. -/
def Obligations.Preemption : Prop :=
  (∀ (s : State) (t : Nat) (k c r : Nat),
    wellFormed (.preemptMidwaveTimeout t k) = true →
    s.pwr.phase = ResetPhase.run →
    c < 512 →
    (getCluster s k).ctx = some c →
    (getCluster s k).preempt = some r →
    (getCluster s k).midwave = false →
    r + 10000 ≤ now (begin t s) →
    Runs (.preemptMidwaveTimeout t k) s (fun u => (getCluster u k).midwave = true ∧ rdF u (SHD_CTX_PREEMPT.COUNT c) = min (rdF s (SHD_CTX_PREEMPT.COUNT c) + 1) (2 ^ 32 - 1) ∧ u.mem = s.mem)) ∧
  (∀ (s : State) (t : Nat) (k c r : Nat),
    wellFormed (.preemptStop t k) = true →
    s.pwr.phase = ResetPhase.run →
    (getCluster s k).ctx = some c →
    (getCluster s k).preempt = some r →
    (getCluster s k).midwave = false →
    Runs (.preemptStop t k) s (fun u => (getCluster u k).preempt = none ∧ (getCluster u k).midwave = false ∧ (getCtx u c).saves = (getCtx s c).saves)) ∧
  (∀ (s : State) (t : Nat) (k c r i : Nat) (rest : List Nat),
    wellFormed (.preemptStop t k) = true →
    s.pwr.phase = ResetPhase.run →
    (getCluster s k).ctx = some c →
    (getCluster s k).preempt = some r →
    (getCluster s k).midwave = true →
    (getCtx s c).stream.isSome = true →
    savePlaces s c = i :: rest →
    Runs (.preemptStop t k) s (fun u => (getCluster u k).preempt = none ∧ (getCluster u k).midwave = false ∧ (getCtx u c).saves = (getCtx s c).saves ++ [i] ∧ u.mem = (writeSave c i true (begin t s)).mem)) ∧
  (∀ (s : State) (t : Nat) (k c : Nat),
    wellFormed (.resumeComplete t k) = true →
    s.pwr.phase = ResetPhase.run →
    (getCluster s k).ctx = some c →
    Runs (.resumeComplete t k) s (fun u => (getCtx u c).saves = (getCtx s c).saves.tail ∧ u.mem = s.mem)) ∧
  (∀ (s : State) (t : Nat) (k c : Nat),
    wellFormed (.npHoldExpiry t k) = true →
    s.pwr.phase = ResetPhase.run →
    c < 512 →
    (getCluster s k).ctx = some c →
    (getCluster s k).npHold = true →
    (getCluster s k).jobAt + 50000 ≤ now (begin t s) →
    Runs (.npHoldExpiry t k) s (fun u => (getCluster u k).preempt.isSome = true ∧ (getCluster u k).npHold = false ∧ rdF u (SHD_CTX_NP_OVERRUN.COUNT c) = min (rdF s (SHD_CTX_NP_OVERRUN.COUNT c) + 1) (2 ^ 32 - 1)))

/-- After an evaluation every reservation is for the context of an open window, and a window that is open ends later; a late start counts once in SHD_HDn_LATE; at S the window closes, and a composition not complete counts as a miss; an idle cluster takes the fill work that the choice of R161 names. -/
def Obligations.DeadlineScheduler : Prop :=
  (∀ (s : State) (t : Nat) (k : Nat),
    wellFormed (.deadlineTick t) = true →
    s.pwr.phase = ResetPhase.run →
    k < 24 →
    Runs (.deadlineTick t) s (fun u => (getCluster u k).resv.all (fun c => (List.range 12).any (fun h => (getPlan u h).open_ && decide ((getPlan u h).ctx = c))) = true ∧ (List.range 12).all (fun h => !(getPlan u h).open_ || decide (now (begin t s) < (getPlan u h).s)) = true ∧ u.dsp = s.dsp)) ∧
  (∀ (s : State) (t : Nat) (h : Nat),
    wellFormed (.latestStartReached t h) = true →
    s.pwr.phase = ResetPhase.run →
    (getPlan s h).open_ = true →
    (getPlan s h).late = false →
    latestStart (getPlan s h) (getPlan s h).s ≤ now (begin t s) →
    (((reservedFor s (getPlan s h).ctx).filter (fun k => let x := getCluster s k; decide (x.ctx = none ∨ x.ctx = some (getPlan s h).ctx))).length < min (getPlan s h).need (maxClusters s (getPlan s h).ctx)) →
    Runs (.latestStartReached t h) s (fun u => rdF u (SHD_HD_LATE.COUNT h) = min (rdF s (SHD_HD_LATE.COUNT h) + 1) (2 ^ 32 - 1) ∧ (getPlan u h).late = true)) ∧
  (∀ (s : State) (t : Nat) (h : Nat),
    wellFormed (.compositionDeadline t h) = true →
    s.pwr.phase = ResetPhase.run →
    (getPlan s h).open_ = true →
    (getPlan s h).s ≤ now (begin t s) →
    Runs (.compositionDeadline t h) s (fun u => (getPlan u h).open_ = false ∧ rdF u (SHD_HD_MISS.COUNT h) = (if ctxIdle s (getPlan s h).ctx = false then min (rdF s (SHD_HD_MISS.COUNT h) + 1) (2 ^ 32 - 1) else rdF s (SHD_HD_MISS.COUNT h)))) ∧
  (∀ (s : State) (t : Nat) (k c : Nat),
    wellFormed (.asyncFill t k) = true →
    s.pwr.phase = ResetPhase.run →
    clusterIdle s k = true →
    (getCluster s k).resv = none →
    usable s k = true →
    (getCluster s k).preempt = none →
    fillChoice s k = some c →
    binHeld (getCtx s c) = false →
    Runs (.asyncFill t k) s (fun u => (getCluster u k).ctx = some c ∧ u.mem = s.mem))

/-- A FLIP whose checks pass takes the pending slot of its pipe with its source time clamped to its acceptance, and a flip it replaces is answered; a coefficient word is written where the bank is free and WORD advances; a pipe fault is kept for the frame, or makes the bank in use bad; while every channel is active and unforced no fetch is late. -/
def Obligations.Flips : Prop :=
  (∀ (s : State) (t : Nat) (k : Taken),
    wellFormed (.flip t) = true →
    s.pwr.phase = ResetPhase.run →
    (Dispatches t s (fun o => decide (o = OP_FLIP)) checkFlip k = true) →
    Runs (.flip t) s (fun u => (getPipe u (u8 k.d 24)).pend = some ({ fn := k.fn, q := k.q, id := k.id, surf0 := u64 k.d 32, surf1 := u64 k.d 40, tsrc := min (u64 k.d 48) k.stamp, target := u32 k.d 28, stamp := now (begin t s) } : Flip) ∧ flag u (LYR_STATUS.FLIP_PEND (u8 k.d 24)) = true ∧ (k.stamp < u64 k.d 48 → rdF u (INST_SRC_CLAMP.COUNT k.fn) = min (rdF s (INST_SRC_CLAMP.COUNT k.fn) + 1) (2 ^ 32 - 1)) ∧ u.mem = s.mem)) ∧
  (∀ (s : State) (t : Nat) (p : Nat) (v : Word),
    wellFormed (.coefDataWrite t p v) = true →
    s.pwr.phase = ResetPhase.run →
    rdF s BOOT_STATUS.STAGE = 6 →
    p < 48 →
    coefOk (v.toNat % 65536) = true →
    coefOk (v.toNat / 65536) = true →
    pipePending s p = false →
    aF s (LYR_COEF_SEL.BANK p) ≠ rdF s (LYR_COEF_ADDR.BANK p) →
    rdF s (LYR_COEF_ADDR.WORD p) < 768 →
    Runs (.coefDataWrite t p v) s (fun u => Sparse.get (coefWordInit (rdF s (LYR_COEF_ADDR.WORD p))) u.dsp.coef (coefKey p (rdF s (LYR_COEF_ADDR.BANK p)) (rdF s (LYR_COEF_ADDR.WORD p))) = v ∧ rdF u (LYR_COEF_ADDR.WORD p) = (if rdF s (LYR_COEF_ADDR.WORD p) = 767 then 0 else rdF s (LYR_COEF_ADDR.WORD p) + 1))) ∧
  (∀ (s : State) (t : Nat) (p line col last : Nat),
    wellFormed (.pipeFault t p 1 line col last) = true →
    s.pwr.phase = ResetPhase.run →
    domainGood s 6 = true →
    p < 96 →
    (View.pipeHead s.dsp.active p).isSome = true →
    Runs (.pipeFault t p 1 line col last) s (fun u => (getPipe u p).faults = ({ line := line, col := col, last := max line last } : FaultPixels) :: (getPipe s p).faults ∧ u.mem = s.mem)) ∧
  (∀ (s : State) (t : Nat) (p line col last : Nat),
    wellFormed (.pipeFault t p 0 line col last) = true →
    s.pwr.phase = ResetPhase.run →
    domainGood s 6 = true →
    memHealthy s = false →
    p < 96 →
    (View.pipeHead s.dsp.active p).isSome = true →
    Runs (.pipeFault t p 0 line col last) s (fun u => (getPipe u p).faults = ({ line := line, col := 0, last := vact s.dsp.active (aF s (LYR_HEAD.HEAD p)) } : FaultPixels) :: (getPipe s p).faults ∧ u.mem = s.mem)) ∧
  (∀ (s : State) (t : Nat) (p line col last : Nat),
    wellFormed (.pipeFault t p 0 line col last) = true →
    s.pwr.phase = ResetPhase.run →
    p < 96 →
    memHealthy s = true →
    Runs (.pipeFault t p 0 line col last) s (fun u => getPipe u p = getPipe s p ∧ RegsKept s u [] ∧ u.mem = s.mem)) ∧
  (∀ (s : State) (t : Nat) (p line col last : Nat),
    wellFormed (.pipeFault t p 2 line col last) = true →
    s.pwr.phase = ResetPhase.run →
    domainGood s 6 = true →
    parityMoot s p = false →
    (View.pipeHead s.dsp.active p).isSome = true →
    Runs (.pipeFault t p 2 line col last) s (fun u => (getBank (getPipe u p) (aF s (LYR_COEF_SEL.BANK p))).bad = true ∧ (getPipe u p).faults = ({ line := 0, col := 0, last := vact s.dsp.active (aF s (LYR_HEAD.HEAD p)) } : FaultPixels) :: (getPipe s p).faults ∧ u.mem = s.mem))

/-- A capture whose checks pass is armed; one that completes has its trailer in memory and is gone; one that has not started 1 s after dispatch is gone; one whose buffer overflows is gone and counts in LYR_WB_ABORT. -/
def Obligations.Captures : Prop :=
  (∀ (s : State) (t : Nat) (k : Taken),
    wellFormed (.wbCapture t) = true →
    s.pwr.phase = ResetPhase.run →
    (Dispatches t s (fun o => decide (o = OP_WB_CAPTURE)) checkCapture k = true) →
    Runs (.wbCapture t) s (fun u => u.dsp.captures = s.dsp.captures ++ [({ fn := k.fn, q := k.q, id := k.id, gen := instGen s k.fn, head := u8 k.d 24, dest := u64 k.d 32, pitch := u32 k.d 40, target := u32 k.d 28, stamp := now (begin t s) } : Capture)] ∧ u.mem = s.mem)) ∧
  (∀ (s : State) (t : Nat) (n : Nat) (c : Capture),
    wellFormed (.wbCaptureComplete t n) = true →
    s.pwr.phase = ResetPhase.run →
    domainGood s 6 = true →
    memClean s = true →
    (s.dsp.captures.find? (fun (c : Capture) => decide (c.unit = some n)) = some c) →
    Runs (.wbCaptureComplete t n) s (fun u => sameMem u.mem (writeFor c.fn (c.dest + c.pitch * c.height) (trailer c) (captureRow c.head (begin t s))).mem = true ∧ u.dsp.captures.all (fun (x : Capture) => decide (x.id ≠ c.id)) = true ∧ Completed u c.fn c.q c.id = true)) ∧
  (∀ (s : State) (t : Nat) (c : Capture),
    wellFormed (.wbCaptureTimeout t) = true →
    s.pwr.phase = ResetPhase.run →
    domainGood s 6 = true →
    c ∈ s.dsp.captures →
    c.unit = none →
    c.stamp + 1000000000 ≤ now (begin t s) →
    Runs (.wbCaptureTimeout t) s (fun u => u.dsp.captures.all (fun (x : Capture) => decide (x.id ≠ c.id)) = true ∧ Completed u c.fn c.q c.id = true ∧ u.mem = s.mem)) ∧
  (∀ (s : State) (t : Nat) (n : Nat) (c : Capture),
    wellFormed (.wbBufferOverflow t n) = true →
    s.pwr.phase = ResetPhase.run →
    domainGood s 6 = true →
    (s.dsp.captures.find? (fun (c : Capture) => decide (c.unit = some n)) = some c) →
    Runs (.wbBufferOverflow t n) s (fun u => u.dsp.captures.all (fun (x : Capture) => decide (x.id ≠ c.id)) = true ∧ Completed u c.fn c.q c.id = true ∧ u.mem = s.mem ∧ rdF u LYR_WB_ABORT.COUNT = min (rdF s LYR_WB_ABORT.COUNT + 1) (2 ^ 32 - 1)))

/-- The first tile row of an enabled head forms the ages of its tiles from what contributes and keeps the class chosen for each; the F7 check of a region chooses its content and its stale bit from the age of its source time. At a commit point of a group whose pixel PLL is not retuning, the group's 64-bit frame counter increments and those of the other groups keep their values. -/
def Obligations.FramesAndCommitPoints : Prop :=
  (∀ (s : State) (t : Nat) (h : Nat) (b : State),
    wellFormed (.tileRowScan t h 0) = true →
    s.pwr.phase = ResetPhase.run →
    domainGood s 6 = true →
    memClean s = true →
    headOn s.dsp.active h = true →
    (getHead s h).retiredLive = false →
    b = rowBegins h 0 (fetchRow h 0 (begin t s)) →
    0 < (scene b h).h →
    Runs (.tileRowScan t h 0) s (fun u => (getHead u h).row = 0 ∧ (getHead u h).chosen = (List.range (ceilDiv (scene b h).w 32)).map (fun c => chooseClass b (now b) (uncert (begin t s)) (contributors b.dsp b.mem (scene b h) 0 c)) ∧ sameMem u.mem s.mem = true)) ∧
  (∀ (s : State) (t : Nat) (h r : Nat),
    wellFormed (.regionF7Check t h r) = true →
    s.pwr.phase = ResetPhase.run →
    domainGood s 6 = true →
    rdF s (ART_R_SIZE.W h r) ≠ 0 →
    Runs (.regionF7Check t h r) s (fun u => (getRegion u h r).stale = (!(getRegion s h r).chosen || decide (rdF s TIME_STATUS.STATE = 0 ∨ rdF s ART_F7_LIMIT.LIMIT_US * 1000 ≤ (now (begin t s) - regionTsrc s h r) + (if rdF s TIME_STATUS.STATE = 1 then uncert (begin t s) else 0))) ∧ (getRegion u h r).due = some (frameOf s (groupOf h), expectedSig s h r (getRegion u h r).content) ∧ (getRegion u h r).content = (if bit (rdF s (ART_HD_STATUS.GUARD h)) r = true ∨ patternFrame s h = true then Content.guard else if (getRegion u h r).stale = true then Content.hatched else Content.plate) ∧ u.mem = s.mem)) ∧
  (∀ (s : State) (t : Nat) (g o : Nat),
    wellFormed (.commitPoint t g) = true →
    s.pwr.phase = ResetPhase.run →
    domainGood s 6 = true →
    g < 3 →
    o < 3 →
    (getGroup s g).retune = none →
    Runs (.commitPoint t g) s (fun u => frameOf u o = (if o = g then (frameOf s g + 1) % 2 ^ 64 else frameOf s o)))

/-- A GO whose checks pass makes the commit pending with its stamp; a CANCEL ends it with RESULT ST_OK and reloads the shadow registers from the active values. -/
def Obligations.Commits : Prop :=
  (∀ (s : State) (t : Nat) (h : Nat),
    wellFormed (.headCommitGo t h) = true →
    s.pwr.phase = ResetPhase.run →
    rdF s BOOT_STATUS.STAGE = 6 →
    headPending s h = false →
    goStatus s [h] false = ST_OK →
    Runs (.headCommitGo t h) s (fun u => u.dsp.commits = s.dsp.commits ++ [({ heads := [h], cgroup := none, stamp := now (begin t s) } : Commit)] ∧ flag u (HD_COMMIT.PEND h) = true ∧ u.dsp.active = s.dsp.active ∧ u.mem = s.mem)) ∧
  (∀ (s : State) (t : Nat) (h : Nat) (c : Commit),
    wellFormed (.headCommitCancel t h) = true →
    s.pwr.phase = ResetPhase.run →
    rdF s BOOT_STATUS.STAGE = 6 →
    (s.dsp.commits.find? (fun (c : Commit) => c.heads.contains h) = some c) →
    (c.heads.all (fun i => decide (i < 12)) = true) →
    (c.cgroup.all (fun i => decide (i < 4)) = true) →
    Runs (.headCommitCancel t h) s (fun u => u.dsp.commits = s.dsp.commits.erase c ∧ flag u (HD_COMMIT.PEND h) = false ∧ rdF u (HD_COMMIT.RESULT h) = ST_OK ∧ (headShadow h).all (fun r => decide (rd u r = View.reg s.dsp.active r)) = true ∧ u.dsp.active = s.dsp.active)) ∧
  (∀ (s : State) (t : Nat) (k mask : Nat) (hs : List Nat),
    wellFormed (.commitGroupGo t k mask) = true →
    s.pwr.phase = ResetPhase.run →
    rdF s BOOT_STATUS.STAGE = 6 →
    pendingGroup s k = none →
    hs = allHeads.filter (bit mask) →
    hs ≠ [] →
    (hs.all (fun h => decide (groupOf h = groupOf (hs.headD 0))) = true) →
    hs.any (headPending s) = false →
    goStatus s hs true = ST_OK →
    Runs (.commitGroupGo t k mask) s (fun u => u.dsp.commits = s.dsp.commits ++ [({ heads := hs, cgroup := some k, stamp := now (begin t s) } : Commit)] ∧ flag u (HDCG_STATUS.PEND k) = true ∧ u.dsp.active = s.dsp.active)) ∧
  (∀ (s : State) (t : Nat) (k : Nat) (c : Commit),
    wellFormed (.commitGroupCancel t k) = true →
    s.pwr.phase = ResetPhase.run →
    rdF s BOOT_STATUS.STAGE = 6 →
    pendingGroup s k = some c →
    c.cgroup = some k →
    (c.heads.all (fun i => decide (i < 12)) = true) →
    Runs (.commitGroupCancel t k) s (fun u => u.dsp.commits = s.dsp.commits.erase c ∧ flag u (HDCG_STATUS.PEND k) = false ∧ rdF u (HDCG_STATUS.RESULT k) = ST_OK ∧ c.heads.all (fun h => (headShadow h).all (fun r => decide (rd u r = View.reg s.dsp.active r))) = true ∧ u.dsp.active = s.dsp.active))

/-- The first reference point opens the count of a group with genlock on; a valid one shows its phase error and is the point that the next interval counts from; one bad reference ends a count of valid ones; a second in a row takes a LOCKED group to HOLDOVER and the next point only opens the count; a retuned PLL that has locked shows so and its frame begins. -/
def Obligations.Genlock : Prop :=
  (∀ (s : State) (t : Nat) (g : Nat),
    wellFormed (.syncInReference t) = true →
    s.pwr.phase = ResetPhase.run →
    domainGood s 6 = true →
    g < 3 →
    genlockOn s g = true →
    (getGroup s g).lastRef = none →
    Runs (.syncInReference t) s (fun u => (getGroup u g).lastRef = some (now (begin t s)) ∧ genlockState u g = genlockState s g)) ∧
  (∀ (s : State) (t : Nat) (g : Nat),
    wellFormed (.syncInReference t) = true →
    s.pwr.phase = ResetPhase.run →
    domainGood s 6 = true →
    g < 3 →
    genlockOn s g = true →
    onTime (begin t s) g = some true →
    Runs (.syncInReference t) s (fun u => (getGroup u g).lastRef = some (now (begin t s)) ∧ (getGroup u g).refBad = 0 ∧ rd u (.HDG_PHASE_ERR g) = BitVec.ofNat 32 (unsigned 32 (phaseError (begin t s) g)))) ∧
  (∀ (s : State) (t : Nat) (g : Nat),
    wellFormed (.syncInReference t) = true →
    s.pwr.phase = ResetPhase.run →
    domainGood s 6 = true →
    g < 3 →
    genlockOn s g = true →
    onTime (begin t s) g = some false →
    (getGroup s g).refBad = 0 →
    Runs (.syncInReference t) s (fun u => (getGroup u g).lastRef = (getGroup s g).lastRef ∧ (getGroup u g).refGood = 0 ∧ (getGroup u g).refBad = 1 ∧ genlockState u g = genlockState s g)) ∧
  (∀ (s : State) (t : Nat) (g : Nat),
    wellFormed (.syncInReference t) = true →
    s.pwr.phase = ResetPhase.run →
    domainGood s 6 = true →
    g < 3 →
    genlockOn s g = true →
    onTime (begin t s) g = some false →
    (getGroup s g).refBad ≠ 0 →
    genlockState s g = GL_LOCKED →
    Runs (.syncInReference t) s (fun u => (getGroup u g).lastRef = none ∧ genlockState u g = GL_HOLDOVER ∧ (getGroup u g).phaseOff = 0)) ∧
  (∀ (s : State) (t : Nat) (g : Nat),
    wellFormed (.syncInReferenceMissing t) = true →
    s.pwr.phase = ResetPhase.run →
    domainGood s 6 = true →
    g < 3 →
    genlockOn s g = true →
    (getGroup s g).lastRef.isSome = true →
    (2 * ((getGroup s g).refMissing + 1) + 1) * refPeriod s g ≤ 2 * (now (begin t s) - (getGroup s g).lastPoint) →
    (getGroup s g).refBad ≠ 0 →
    genlockState s g = GL_LOCKED →
    Runs (.syncInReferenceMissing t) s (fun u => (getGroup u g).lastRef = none ∧ genlockState u g = GL_HOLDOVER ∧ (getGroup u g).phaseOff = 0)) ∧
  (∀ (s : State) (t : Nat) (g : Nat),
    wellFormed (.pixelPllLock t g) = true →
    s.pwr.phase = ResetPhase.run →
    domainGood s 6 = true →
    g < 3 →
    (getGroup s g).retune.isSome = true →
    Runs (.pixelPllLock t g) s (fun u => (getGroup u g).retune = none ∧ (getGroup u g).lineZero = now (begin t s) ∧ bit (rdF u CLK_STATUS.PIX_LOCK) g = true ∧ u.mem = s.mem))

/-- Hot-plug high for 100 ms and low for 2 ms set and clear HPD, and an unplug takes a head that is not OFF to LINK_FAIL with reason 1; a lost link takes RUN to LINK_LOST; a training that succeeds, on a candidate of R219 unless it is the configuration that trained last, shows lanes and rate; one that fails keeps the reason of Table 8.5; clock recovery takes at most 10 tries on a configuration, 5 of them where the swing stays the same, and equalisation at most 5; the policy runs again 1 s later. -/
def Obligations.Links : Prop :=
  (∀ (s : State) (t : Nat) (h : Nat),
    wellFormed (.hpdDebounce t h) = true →
    s.pwr.phase = ResetPhase.run →
    domainGood s 6 = true →
    portIdle s h = false →
    flag s (HD_STATUS.HPD h) = false →
    Runs (.hpdDebounce t h) s (fun u => flag u (HD_STATUS.HPD h) = true ∧ u.mem = s.mem)) ∧
  (∀ (s : State) (t : Nat) (h : Nat),
    wellFormed (.hpdUnplug t h) = true →
    s.pwr.phase = ResetPhase.run →
    domainGood s 6 = true →
    portIdle s h = false →
    Runs (.hpdUnplug t h) s (fun u => flag u (HD_STATUS.HPD h) = false ∧ headState u h = (if headState s h = OFF then OFF else LINK_FAIL) ∧ (headState s h ≠ OFF → rdF u (HD_STATUS.FAIL_REASON h) = 1))) ∧
  (∀ (s : State) (t : Nat) (h : Nat),
    wellFormed (.irqHpd t h true) = true →
    s.pwr.phase = ResetPhase.run →
    domainGood s 6 = true →
    portIdle s h = false →
    headState s h = RUN →
    Runs (.irqHpd t h true) s (fun u => headState u h = LINK_LOST ∧ rdF u (HD_STATUS.FAIL_REASON h) = 7 ∧ (getHead u h).training = true ∧ (getHead u h).lastFirst = true ∧ u.mem = s.mem)) ∧
  (∀ (s : State) (t : Nat) (h : Nat) (k : SinkReport) (cfg : Nat × Nat),
    wellFormed (.linkTrainResult t h k) = true →
    s.pwr.phase = ResetPhase.run →
    domainGood s 6 = true →
    domainGood s (7 + groupOf h) = true →
    (getHead s h).training = true →
    (trainRun s.dsp.active h (getHead s h) k).trained = some cfg →
    cfg.1 < 4 →
    cfg.2 < 4 →
    Runs (.linkTrainResult t h k) s (fun u => (getHead u h).trained = true ∧ (getHead u h).training = false ∧ (getHead u h).lastCfg = some cfg ∧ rdF u (HD_STATUS.LANES h) = cfg.2 ∧ rdF u (HD_STATUS.RATE h) = cfg.1 ∧ rdF u (HD_STATUS.FAIL_REASON h) = 0 ∧ ((getHead s h).lastFirst = false → cfg ∈ candidates s.dsp.active h k.maxRate k.maxLanes))) ∧
  (∀ (s : State) (t : Nat) (h : Nat) (k : SinkReport),
    wellFormed (.linkTrainResult t h k) = true →
    s.pwr.phase = ResetPhase.run →
    domainGood s 6 = true →
    domainGood s (7 + groupOf h) = true →
    (getHead s h).training = true →
    (trainRun s.dsp.active h (getHead s h) k).trained = none →
    Runs (.linkTrainResult t h k) s (fun u => (getHead u h).training = false ∧ (getHead u h).failAt = now (begin t s) ∧ rdF u (HD_STATUS.FAIL_REASON h) = (trainRun s.dsp.active h (getHead s h) k).reason ∧ u.mem = s.mem)) ∧
  (∀ (ts : List LevelTry) (l : Nat × Nat),
    (clockRecovery ts).driven.length ≤ 10 ∧ (equalisation l ts).driven.length ≤ 5 ∧ (∀ m, (levelTries 10 5 m l (List.replicate 10 { swing := l.1 })).driven.length = 5)) ∧
  (∀ (s : State) (t : Nat) (h : Nat),
    wellFormed (.linkTrainRetry t h) = true →
    s.pwr.phase = ResetPhase.run →
    domainGood s 6 = true →
    portIdle s h = false →
    flag s (HD_STATUS.HPD h) = true →
    (getHead s h).training = false →
    (getHead s h).trained = false →
    headState s h = LINK_FAIL →
    (getHead s h).failAt + 1000000000 ≤ now (begin t s) →
    (getGroup s (groupOf h)).retune = none →
    Runs (.linkTrainRetry t h) s (fun u => (getHead u h).training = true ∧ RegsKept s u [] ∧ u.mem = s.mem))

/-- A record whose checks pass is stored with its measurement time clamped to its acceptance; one older than the record held is not stored, is answered ST_BAD_DESC and counts in VAL_OLD_REJECT; one of the same measurement time replaces it. -/
def Obligations.ValueRecords : Prop :=
  (∀ (s : State) (t : Nat) (k : Taken),
    wellFormed (.valuePost t) = true →
    s.pwr.phase = ResetPhase.run →
    (Dispatches t s (fun o => decide (o = OP_VALUE_POST)) checkValuePost k = true) →
    memClean s = true →
    olderThanHeld (getField s (u16 k.d 24)) (min (u64 k.d 40) (now (begin t s))) = false →
    Runs (.valuePost t) s (fun u => (getField u (u16 k.d 24)).record = some ({ value := u64 k.d 32, meas := min (u64 k.d 40) (now (begin t s)), quality := u8 k.d 26, stamp := now (begin t s) } : VRecord) ∧ (getField u (u16 k.d 24)).active = (getField s (u16 k.d 24)).active ∧ Answered u k ST_OK = true ∧ sameMem u.mem s.mem = true)) ∧
  (∀ (s : State) (t : Nat) (k : Taken),
    wellFormed (.valuePost t) = true →
    s.pwr.phase = ResetPhase.run →
    (Dispatches t s (fun o => decide (o = OP_VALUE_POST)) checkValuePost k = true) →
    memClean s = true →
    olderThanHeld (getField s (u16 k.d 24)) (min (u64 k.d 40) (now (begin t s))) = true →
    Runs (.valuePost t) s (fun u => getField u (u16 k.d 24) = getField s (u16 k.d 24) ∧ Answered u k ST_BAD_DESC = true ∧ rdF u VAL_OLD_REJECT.COUNT = min (rdF s VAL_OLD_REJECT.COUNT + 1) (2 ^ 32 - 1) ∧ sameMem u.mem s.mem = true)) ∧
  (∀ (s : State) (t : Nat) (f : Nat),
    wellFormed (.fieldLatch t f false) = true →
    s.pwr.phase = ResetPhase.run →
    domainGood s 6 = true →
    memClean s = true →
    fdEnable (getField s f).active = true →
    (getField s f).lost = false →
    Runs (.fieldLatch t f false) s (fun u => (getField u f).latched = Latched.held (heldBefore (getField s f) (now (begin t s))) ∧ (getField u f).record = (getField s f).record ∧ sameMem u.mem s.mem = true)) ∧
  (∀ (s : State) (t : Nat) (f : Nat),
    wellFormed (.fieldLatch t f true) = true →
    s.pwr.phase = ResetPhase.run →
    domainGood s 6 = true →
    memClean s = true →
    fdEnable (getField s f).active = true →
    eccOn s 31 = true →
    (pageEntry s (((VALUE_STORE + 32 * f) / 64) / 64)).state = PageState.normal →
    blockIn s.mem.plateStore ((VALUE_STORE + 32 * f) / 64) = false →
    blockIn (fontRange s) ((VALUE_STORE + 32 * f) / 64) = false →
    blockIn (journalRange s) ((VALUE_STORE + 32 * f) / 64) = false →
    Runs (.fieldLatch t f true) s (fun u => (getField u f).latched = Latched.bad ∧ (getField u f).record = none ∧ rdF u MEM_ECC_UE.COUNT = min (rdF s MEM_ECC_UE.COUNT + 1) (2 ^ 32 - 1)))

/-- A GO whose checks pass makes D0 to D7 the shadow descriptor of the field and RESULT ST_OK, and never changes a record; a READ puts the shadow descriptor into D0 to D7. A font load whose region is good and free starts its copy and shows RESULT 0xFF; a copy that ends without error waits for the heads with what it read; a rewrite that completes puts the blob's font region back. -/
def Obligations.FieldsAndFonts : Prop :=
  (∀ (s : State) (t : Nat) (f : Nat),
    wellFormed (.fdescWrite t f) = true →
    s.pwr.phase = ResetPhase.run →
    rdF s BOOT_STATUS.STAGE = 6 →
    f < 65536 →
    fieldPending s (getField s f) (fdescWords s) = false →
    fdescStatus s f (fdescWords s) = ST_OK →
    Runs (.fdescWrite t f) s (fun u => (getField u f).shadow = fdescWords s ∧ (getField u f).record = (getField s f).record ∧ (getField u f).active = (getField s f).active ∧ rdF u VAL_FDESC_CTRL.RESULT = ST_OK)) ∧
  (∀ (s : State) (t : Nat) (f i : Nat),
    wellFormed (.fdescRead t f) = true →
    s.pwr.phase = ResetPhase.run →
    rdF s BOOT_STATUS.STAGE = 6 →
    f < 65536 →
    i < 8 →
    Runs (.fdescRead t f) s (fun u => rd u (.VAL_FDESC_D i) = BitVec.ofNat 32 (u32 (getField s f).shadow (4 * i)) ∧ u.val = s.val)) ∧
  (∀ (s : State) (t : Nat),
    wellFormed (.fontLoad t) = true →
    s.pwr.phase = ResetPhase.run →
    rdF s BOOT_STATUS.STAGE = 6 →
    locked s = false →
    rdF s VAL_FONT_LOAD.RESULT ≠ 0xFF →
    fontPlaceOk s (rdF s VAL_FONT_SRC.BASE) = true →
    s.val.rewriting = false →
    Runs (.fontLoad t) s (fun u => rdF u VAL_FONT_LOAD.RESULT = 0xFF ∧ u.mem.fontRegion = some (rdF s VAL_FONT_SRC.BASE) ∧ u.val.load.any (fun (l : FontLoad) => l.copied.isNone) = true)) ∧
  (∀ (s : State) (t : Nat) (l : FontLoad),
    wellFormed (.fontCopyComplete t) = true →
    s.pwr.phase = ResetPhase.run →
    domainGood s 6 = true →
    memClean s = true →
    s.val.load = some l →
    l.copied = none →
    (regionBytes s.mem (s.mem.fontRegion.getD 0 * CHUNK) 256).any badStateByte = false →
    Runs (.fontCopyComplete t) s (fun u => u.val.load = some { l with copied := some (now (begin t s)) } ∧ (if s.val.inUse = 0 then u.val.copyB else u.val.copyA) = ({ bytes := regionBytes s.mem (s.mem.fontRegion.getD 0 * CHUNK) 256, sizes := l.sizes } : FontCopy))) ∧
  (∀ (s : State) (t : Nat) (b : Nat),
    wellFormed (.fontRegionRewriteComplete t) = true →
    s.pwr.phase = ResetPhase.run →
    domainGood s 6 = true →
    memClean s = true →
    s.val.rewriting = true →
    s.mem.fontRegion = some b →
    Runs (.fontRegionRewriteComplete t) s (fun u => u.val.rewriting = false ∧ sameMem u.mem (writeMem s (b * CHUNK) ((activeBlob s).fonts.take FONT_SIZE)).mem = true))

/-- A poll finds the commands published since the last acknowledgement and takes them in order; too many are acknowledged and count as an overrun; a SELECT or REFRESH whose checks pass is accepted with its source time clamped to the poll. A plate whose CRC differs is marked bad; a rewritten plate that verifies is good again with its bytes back; the signature of a frame is shown, one that differs makes its region's guard due and counts once for the frame, and the eighth guarded match in a row ends a guard. -/
def Obligations.ArtichokeCommands : Prop :=
  (∀ (s : State) (t : Nat),
    wellFormed (.safetyPagePoll t) = true →
    s.pwr.phase = ResetPhase.run →
    pageLive s = true →
    pageNum s 8 8 < pageNum s 0 8 →
    pageNum s 0 8 ≤ pageNum s 8 8 + 48 →
    pageNum s (slotOff (pageNum s 8 8 + 1)) 1 = 1 ∨ pageNum s (slotOff (pageNum s 8 8 + 1)) 1 = 2 →
    Runs (.safetyPagePoll t) s (fun u => u.art.todo = (List.range (pageNum s 0 8 - pageNum s 8 8)).map (· + pageNum s 8 8 + 1) ∧ u.art.pollAt = now (begin t s) ∧ u.mem = s.mem)) ∧
  (∀ (s : State) (t : Nat),
    wellFormed (.safetyPagePoll t) = true →
    s.pwr.phase = ResetPhase.run →
    pageLive s = true →
    pageNum s 8 8 + 48 < pageNum s 0 8 →
    Runs (.safetyPagePoll t) s (fun u => u.art.todo = [] ∧ rdF u ART_OVERRUN.COUNT = satAdd32 (pageNum s 16 4) 1)) ∧
  (∀ (s : State) (t : Nat) (k : Nat) (rest : List Nat),
    wellFormed (.select t) = true →
    s.pwr.phase = ResetPhase.run →
    pageLive s = true →
    s.art.todo = k :: rest →
    pageNum s (slotOff k) 1 = 1 →
    slotStatus s (BitVec.ofNat 512 (pageNum s (slotOff k) 64) : Desc) = ST_OK →
    Runs (.select t) s (fun u => u.art.cmds.any (fun (c : ArtCmd) => decide (c.k = k ∧ c.head = u8 (BitVec.ofNat 512 (pageNum s (slotOff k) 64) : Desc) 4 ∧ c.region = u8 (BitVec.ofNat 512 (pageNum s (slotOff k) 64) : Desc) 5 ∧ c.plate = some (u8 (BitVec.ofNat 512 (pageNum s (slotOff k) 64) : Desc) 6) ∧ c.tsrc = min (u64 (BitVec.ofNat 512 (pageNum s (slotOff k) 64) : Desc) 8) s.art.pollAt)) = true ∧ u.art.todo.length ≤ rest.length)) ∧
  (∀ (s : State) (t : Nat) (k : Nat) (rest : List Nat),
    wellFormed (.refresh t) = true →
    s.pwr.phase = ResetPhase.run →
    pageLive s = true →
    s.art.todo = k :: rest →
    pageNum s (slotOff k) 1 = 2 →
    slotStatus s (BitVec.ofNat 512 (pageNum s (slotOff k) 64) : Desc) = ST_OK →
    Runs (.refresh t) s (fun u => u.art.cmds.any (fun (c : ArtCmd) => decide (c.k = k ∧ c.head = u8 (BitVec.ofNat 512 (pageNum s (slotOff k) 64) : Desc) 4 ∧ c.region = u8 (BitVec.ofNat 512 (pageNum s (slotOff k) 64) : Desc) 5 ∧ c.plate = (none : Option Nat) ∧ c.tsrc = min (u64 (BitVec.ofNat 512 (pageNum s (slotOff k) 64) : Desc) 8) s.art.pollAt)) = true ∧ u.art.todo.length ≤ rest.length)) ∧
  (∀ (s : State) (t : Nat) (p : Nat) (q : Plate),
    wellFormed (.plateCrcCheck t) = true →
    s.pwr.phase = ResetPhase.run →
    domainGood s 6 = true →
    memClean s = true →
    s.art.plates[p]? = some q →
    q.bad = true ∨ plateCrc s q ≠ q.crc →
    Runs (.plateCrcCheck t) s (fun u => u.art.plates[p]?.any (fun (x : Plate) => x.bad && decide (x.addr = q.addr ∧ x.crc = q.crc)) = true ∧ sameMem u.mem s.mem = true)) ∧
  (∀ (s : State) (t : Nat) (p : Nat) (q : Plate),
    wellFormed (.plateRewriteComplete t p true) = true →
    s.pwr.phase = ResetPhase.run →
    domainGood s 6 = true →
    memClean s = true →
    s.art.plates[p]? = some q →
    q.bad = true →
    (plateCrc (writeMem s q.addr ((match (activeBlob s).shallot.plates[p]? with | some b => b.words | none => []).flatMap (toBytes 4))) q = q.crc) →
    Runs (.plateRewriteComplete t p true) s (fun u => u.art.plates[p]?.any (fun (x : Plate) => !x.bad) = true ∧ plateCrc u q = q.crc)) ∧
  (∀ (s : State) (t : Nat) (h r upset n e g : Nat),
    wellFormed (.regionSignatureCompare t h r upset) = true →
    s.pwr.phase = ResetPhase.run →
    domainGood s 6 = true →
    (getRegion s h r).due = some (n, e) →
    (getRegion s h r).ended.getD (regionSig (begin t s) h r) = g →
    Runs (.regionSignatureCompare t h r upset) s (fun u => rdF u (ART_R_SIG.SIG h r) = (g ^^^ upset) % 2 ^ 32 ∧ (getRegion u h r).due = none ∧ (getSink u h).checked = n)) ∧
  (∀ (s : State) (t : Nat) (h r upset n e g : Nat),
    wellFormed (.regionSignatureCompare t h r upset) = true →
    s.pwr.phase = ResetPhase.run →
    domainGood s 6 = true →
    (getRegion s h r).due = some (n, e) →
    (getRegion s h r).ended.getD (regionSig (begin t s) h r) = g →
    (g ^^^ upset) % 2 ^ 32 ≠ e →
    (getRegion s h r).sigGuard = false →
    (getRegion s h r).sigDue = none →
    Runs (.regionSignatureCompare t h r upset) s (fun u => (getRegion u h r).sigDue = some (now (begin t s)) ∧ rdF u (ART_HD_STATUS.LAST_FAULT h) = 1 ∧ ((getSink s h).mismatchFrame ≠ some n → rdF u (ART_HD_SIG_MISMATCH.COUNT h) = min (rdF s (ART_HD_SIG_MISMATCH.COUNT h) + 1) (2 ^ 32 - 1)))) ∧
  (∀ (s : State) (t : Nat) (h r upset n e g : Nat),
    wellFormed (.regionSignatureCompare t h r upset) = true →
    s.pwr.phase = ResetPhase.run →
    domainGood s 6 = true →
    (getRegion s h r).due = some (n, e) →
    (getRegion s h r).ended.getD (regionSig (begin t s) h r) = g →
    (g ^^^ upset) % 2 ^ 32 = e →
    (getRegion s h r).sigGuard = true →
    (getRegion s h r).content = Content.guard →
    Runs (.regionSignatureCompare t h r upset) s (fun u => (getRegion u h r).sigGuard = decide ((getRegion s h r).matched ≠ 7) ∧ rdF u (ART_HD_SIG_MISMATCH.COUNT h) = rdF s (ART_HD_SIG_MISMATCH.COUNT h)))

/-- A read of the sink that completes shows the three CRCs and the count; the first only gives the count to compare with; a later one with a new count matches where its CRCs are the predictions of one of the three frames before it, and a mismatch counts; the third in a row of one kind shows in SINK and a link in RUN is lost; a read that does not complete is no response. -/
def Obligations.SinkReads : Prop :=
  (∀ (s : State) (t : Nat) (h cr cg cb count : Nat) (replies : List AuxReply),
    wellFormed (.sinkCrcReadResult t h replies cr cg cb count) = true →
    s.pwr.phase = ResetPhase.run →
    domainGood s 6 = true →
    (getSink s h).reading = true →
    auxDone replies = true →
    (getSink s h).hasPrev = false →
    Runs (.sinkCrcReadResult t h replies cr cg cb count) s (fun u => (getSink u h).reading = false ∧ rdF u (ART_HD_SINK_RG.CRC_R h) = cr ∧ rdF u (ART_HD_SINK_RG.CRC_G h) = cg ∧ rdF u (ART_HD_SINK_B.CRC_B h) = cb ∧ rdF u (ART_HD_STATUS.LAST_COUNT h) = count ∧ (getSink u h).hasPrev = true ∧ rdF u (ART_HD_SINK_MISMATCH.COUNT h) = rdF s (ART_HD_SINK_MISMATCH.COUNT h))) ∧
  (∀ (s : State) (t : Nat) (h cr cg cb count : Nat) (replies : List AuxReply),
    wellFormed (.sinkCrcReadResult t h replies cr cg cb count) = true →
    s.pwr.phase = ResetPhase.run →
    domainGood s 6 = true →
    (getSink s h).reading = true →
    auxDone replies = true →
    (getSink s h).hasPrev = true →
    count ≠ rdF s (ART_HD_STATUS.LAST_COUNT h) →
    crcsMatch s h [cr, cg, cb] = true →
    Runs (.sinkCrcReadResult t h replies cr cg cb count) s (fun u => (getSink u h).reading = false ∧ rdF u (ART_HD_SINK_RG.CRC_R h) = cr ∧ rdF u (ART_HD_SINK_RG.CRC_G h) = cg ∧ rdF u (ART_HD_SINK_B.CRC_B h) = cb ∧ rdF u (ART_HD_STATUS.LAST_COUNT h) = count ∧ (getSink u h).streak = (0, 0) ∧ rdF u (ART_HD_STATUS.SINK h) = 2 ∧ rdF u (ART_HD_SINK_MISMATCH.COUNT h) = rdF s (ART_HD_SINK_MISMATCH.COUNT h))) ∧
  (∀ (s : State) (t : Nat) (h cr cg cb count : Nat) (replies : List AuxReply),
    wellFormed (.sinkCrcReadResult t h replies cr cg cb count) = true →
    s.pwr.phase = ResetPhase.run →
    domainGood s 6 = true →
    (getSink s h).reading = true →
    auxDone replies = true →
    (getSink s h).hasPrev = true →
    count ≠ rdF s (ART_HD_STATUS.LAST_COUNT h) →
    crcsMatch s h [cr, cg, cb] = false →
    (getSink s h).streak ≠ (2, 2) →
    (getSink s h).streak.2 ≤ 2 →
    Runs (.sinkCrcReadResult t h replies cr cg cb count) s (fun u => (getSink u h).reading = false ∧ rdF u (ART_HD_SINK_RG.CRC_R h) = cr ∧ rdF u (ART_HD_SINK_RG.CRC_G h) = cg ∧ rdF u (ART_HD_SINK_B.CRC_B h) = cb ∧ rdF u (ART_HD_STATUS.LAST_COUNT h) = count ∧ (getSink u h).streak = (2, if (getSink s h).streak.1 = 2 then (getSink s h).streak.2 + 1 else 1) ∧ rdF u (ART_HD_SINK_MISMATCH.COUNT h) = min (rdF s (ART_HD_SINK_MISMATCH.COUNT h) + 1) (2 ^ 32 - 1))) ∧
  (∀ (s : State) (t : Nat) (h cr cg cb count : Nat) (replies : List AuxReply),
    wellFormed (.sinkCrcReadResult t h replies cr cg cb count) = true →
    s.pwr.phase = ResetPhase.run →
    domainGood s 6 = true →
    (getSink s h).reading = true →
    auxDone replies = true →
    (getSink s h).hasPrev = true →
    count ≠ rdF s (ART_HD_STATUS.LAST_COUNT h) →
    crcsMatch s h [cr, cg, cb] = false →
    (getSink s h).streak = (2, 2) →
    headState s h = RUN →
    portIdle s h = false →
    Runs (.sinkCrcReadResult t h replies cr cg cb count) s (fun u => (getSink u h).reading = false ∧ rdF u (ART_HD_STATUS.SINK h) = 3 ∧ rdF u (ART_HD_STATUS.LAST_FAULT h) = 4 ∧ headState u h = LINK_LOST)) ∧
  (∀ (s : State) (t : Nat) (h cr cg cb count : Nat) (replies : List AuxReply),
    wellFormed (.sinkCrcReadResult t h replies cr cg cb count) = true →
    s.pwr.phase = ResetPhase.run →
    domainGood s 6 = true →
    (getSink s h).reading = true →
    auxDone replies = false →
    (getSink s h).streak = (3, 2) →
    headState s h = RUN →
    portIdle s h = false →
    Runs (.sinkCrcReadResult t h replies cr cg cb count) s (fun u => (getSink u h).reading = false ∧ rdF u (ART_HD_STATUS.SINK h) = 5 ∧ rdF u (ART_HD_STATUS.LAST_FAULT h) = 6 ∧ headState u h = LINK_LOST ∧ rdF u (ART_HD_SINK_MISMATCH.COUNT h) = rdF s (ART_HD_SINK_MISMATCH.COUNT h)))

/-- A write that passes the MMU's check is in memory from its arrival on; a zero-fill's write leaves its block zero; a read on an idle channel delivers the 64 bytes of its block and changes none; a channel in a pause serves nothing; an access outside what its source reaches counts, writes nothing and reads as zeros marked poisoned. -/
def Obligations.MemoryRequests : Prop :=
  (∀ (s : State) (t : Nat) (src addr err ofs : Nat) (k : Traffic) (bs : List Byte),
    wellFormed (.memoryRequest t src addr k (some (ofs, bs)) err 0) = true →
    s.pwr.phase = ResetPhase.run →
    domainGood s 4 = true →
    k ≠ Traffic.zeroFill →
    mmuOk s src (addr % 2 ^ 35 / 64) k = true →
    ofs + bs.length ≤ 64 →
    Runs (.memoryRequest t src addr k (some (ofs, bs)) err 0) s (fun u => u.mem.bytes = (writeMem s (addr % 2 ^ 35 / 64 * 64 + ofs % 64) (bs.take (64 - ofs % 64))).mem.bytes ∧ u.mem.pages = s.mem.pages)) ∧
  (∀ (s : State) (t : Nat) (src addr err : Nat) (w : Option (Nat × List Byte)),
    wellFormed (.memoryRequest t src addr .zeroFill w err 0) = true →
    s.pwr.phase = ResetPhase.run →
    domainGood s 4 = true →
    mmuOk s src (addr % 2 ^ 35 / 64) Traffic.zeroFill = true →
    Runs (.memoryRequest t src addr .zeroFill w err 0) s (fun u => u.mem.bytes = (writeMem s (addr % 2 ^ 35 / 64 * 64) (List.replicate 64 0)).mem.bytes ∧ u.mem.pages = s.mem.pages)) ∧
  (∀ (s : State) (t : Nat) (src addr : Nat) (k : Traffic),
    wellFormed (.memoryRequest t src addr k none 0 1) = true →
    s.pwr.phase = ResetPhase.run →
    domainGood s 4 = true →
    k ≠ Traffic.zeroFill →
    mmuOk s src (addr % 2 ^ 35 / 64) k = true →
    (getChannel s (channelOf s (addr % 2 ^ 35 / 64))).queue = [] →
    paused (begin t s) (channelOf s (addr % 2 ^ 35 / 64)) = false →
    errorOf s (storedBlock s.mem (addr % 2 ^ 35 / 64)) = 0 →
    Runs (.memoryRequest t src addr k none 0 1) s (fun u => u.mem.lastData = blockData s (addr % 2 ^ 35 / 64) ∧ u.mem.lastPoison = storedDead s.mem (addr % 2 ^ 35 / 64 * 64) ∧ u.mem.bytes = s.mem.bytes)) ∧
  (∀ (s : State) (t : Nat) (src addr n : Nat) (k : Traffic),
    wellFormed (.memoryRequest t src addr k none 0 n) = true →
    s.pwr.phase = ResetPhase.run →
    domainGood s 4 = true →
    k ≠ Traffic.zeroFill →
    mmuOk s src (addr % 2 ^ 35 / 64) k = true →
    paused (begin t s) (channelOf s (addr % 2 ^ 35 / 64)) = true →
    Runs (.memoryRequest t src addr k none 0 n) s (fun u => u.mem.lastData = s.mem.lastData ∧ u.mem.bytes = s.mem.bytes ∧ (getChannel u (channelOf s (addr % 2 ^ 35 / 64))).queue.length = (getChannel s (channelOf s (addr % 2 ^ 35 / 64))).queue.length + 1)) ∧
  (∀ (s : State) (t : Nat) (src addr err ofs : Nat) (k : Traffic) (bs : List Byte),
    wellFormed (.memoryRequest t src addr k (some (ofs, bs)) err 0) = true →
    s.pwr.phase = ResetPhase.run →
    domainGood s 4 = true →
    mmuOk s src (addr % 2 ^ 35 / 64) k = false →
    Runs (.memoryRequest t src addr k (some (ofs, bs)) err 0) s (fun u => u.mem = s.mem ∧ rdF u MEM_MMU_FAULT.COUNT = min (rdF s MEM_MMU_FAULT.COUNT + 1) (2 ^ 32 - 1))) ∧
  (∀ (s : State) (t : Nat) (src addr err : Nat) (k : Traffic),
    wellFormed (.memoryRequest t src addr k none err 0) = true →
    s.pwr.phase = ResetPhase.run →
    domainGood s 4 = true →
    mmuOk s src (addr % 2 ^ 35 / 64) k = false →
    Runs (.memoryRequest t src addr k none err 0) s (fun u => u.mem.lastData = List.replicate 64 0 ∧ u.mem.lastPoison = true ∧ u.mem.bytes = s.mem.bytes)) ∧
  (∀ (s : State) (t : Nat) (c : Nat),
    wellFormed (.requestAgeRaise t c) = true →
    s.pwr.phase = ResetPhase.run →
    domainGood s 4 = true →
    Runs (.requestAgeRaise t c) s (fun u => (getChannel u c).queue = (getChannel s c).queue.map (raiseAge (now (begin t s))) ∧ u.mem.bytes = s.mem.bytes ∧ RegsKept s u []))

/-- Patrol scrub goes on to its next block with a request of class 5; a read of it that finds a correctable error counts it, one that finds an uncorrectable error counts it and leaves a poison marker on a block outside the protected surfaces; a page whose remap completes reads as before from its spare; a fill that completes leaves zeros; a change of ECC_EN fills the regions whose bit changes. A refresh that is made puts the rate last read in force, and one that a pause holds back counts as behind; a retraining falls due after its interval and is forced when late; an opportunity, at a group with an enabled head or at any moment while no head is enabled, takes one step of a channel that may pause, in a pause of at most 1,200 ns that shares no moment with another channel's that it takes later; a step that fails stays due; an idle channel enters self-refresh. -/
def Obligations.MemoryUpkeep : Prop :=
  (∀ (s : State) (t : Nat) (err : Nat),
    wellFormed (.patrolScrubRead t { err := err, served := 0 }) = true →
    s.pwr.phase = ResetPhase.run →
    domainGood s 4 = true →
    patrolBlock s s.mem.patrol = true →
    Runs (.patrolScrubRead t { err := err, served := 0 }) s (fun u => u.mem.patrol = patrolNext s s.mem.patrol ∧ u.mem.bytes = s.mem.bytes ∧ (getChannel u (channelOf s s.mem.patrol)).queue.any (fun (r : MemReq) => decide (r.block = storedBlock s.mem s.mem.patrol ∧ r.cls = 5 ∧ r.patrol = true ∧ r.arrive = now (begin t s))) = true)) ∧
  (∀ (s : State) (t : Nat),
    wellFormed (.patrolScrubRead t { err := 1, served := 1 }) = true →
    s.pwr.phase = ResetPhase.run →
    domainGood s 4 = true →
    patrolBlock s s.mem.patrol = true →
    eccOn s (storedBlock s.mem s.mem.patrol / 16777216) = true →
    errorOf s (storedBlock s.mem s.mem.patrol) = 0 →
    (getChannel s (channelOf s s.mem.patrol)).queue = [] →
    paused (begin t s) (channelOf s s.mem.patrol) = false →
    Runs (.patrolScrubRead t { err := 1, served := 1 }) s (fun u => rdF u MEM_ECC_CE.COUNT = min (rdF s MEM_ECC_CE.COUNT + 1) (2 ^ 32 - 1) ∧ rdF u MEM_ECC_LAST_HI.UE = 0 ∧ rdF u MEM_ECC_UE.COUNT = rdF s MEM_ECC_UE.COUNT)) ∧
  (∀ (s : State) (t : Nat),
    wellFormed (.patrolScrubRead t { err := 2, served := 1 }) = true →
    s.pwr.phase = ResetPhase.run →
    domainGood s 4 = true →
    patrolBlock s s.mem.patrol = true →
    eccOn s (storedBlock s.mem s.mem.patrol / 16777216) = true →
    errorOf s (storedBlock s.mem s.mem.patrol) = 0 →
    protected? s (storedBlock s.mem s.mem.patrol) = false →
    (getChannel s (channelOf s s.mem.patrol)).queue = [] →
    paused (begin t s) (channelOf s s.mem.patrol) = false →
    Runs (.patrolScrubRead t { err := 2, served := 1 }) s (fun u => rdF u MEM_ECC_UE.COUNT = min (rdF s MEM_ECC_UE.COUNT + 1) (2 ^ 32 - 1) ∧ rdF u MEM_ECC_LAST_HI.UE = 1 ∧ (storedBlock s.mem s.mem.patrol) ∈ u.mem.poison)) ∧
  (∀ (s : State) (t : Nat) (p q i : Nat),
    wellFormed (.pageRemapComplete t p) = true →
    s.pwr.phase = ResetPhase.run →
    domainGood s 4 = true →
    memClean s = true →
    s.mem.wf = true →
    pageEntry s p = ({ target := some q, state := PageState.copying } : PageEntry) →
    p ≠ q →
    dueOf s U_PAGE p = none →
    i < 4096 →
    Runs (.pageRemapComplete t p) s (fun u => pageEntry u p = ({ target := some q, state := PageState.remapped } : PageEntry) ∧ u.mem.byte (p * 4096 + i) = s.mem.byte (p * 4096 + i) ∧ (p, q) ∈ u.shl.pages)) ∧
  (∀ (s : State) (t : Nat) (k a : Nat) (f : Nat × Nat × Nat),
    wellFormed (.zeroFillComplete t k) = true →
    s.pwr.phase = ResetPhase.run →
    domainGood s 4 = true →
    s.mem.wf = true →
    (s.mem.fills.find? (fun (f : Nat × Nat × Nat) => decide (f.1 = k)) = some f) →
    k * CHUNK ≤ a →
    a < f.2.1 * CHUNK →
    storedDead s.mem a = false →
    Runs (.zeroFillComplete t k) s (fun u => u.mem.byte a = 0 ∧ u.mem.fills = s.mem.fills.erase f)) ∧
  (∀ (s : State) (t : Nat) (v : Word),
    wellFormed (.eccRegionChange t v) = true →
    s.pwr.phase = ResetPhase.run →
    rdF s BOOT_STATUS.STAGE = 6 →
    locked s = false →
    (((List.range 31).filter (fun r => decide (bit v.toNat r ≠ bit (rd s .MEM_ECC_EN).toNat r))).any (fun r => regionSlices s r || regionPlaced s r) = false) →
    Runs (.eccRegionChange t v) s (fun u => rd u .MEM_ECC_EN = BitVec.ofNat 32 (fieldWrite false (Reg.fields .MEM_ECC_EN) (rd s .MEM_ECC_EN).toNat v.toNat) ∧ u.mem.fills = s.mem.fills ++ ((List.range 31).filter (fun r => decide (bit v.toNat r ≠ bit (rd s .MEM_ECC_EN).toNat r))).map (fun r => (r * 512, r * 512 + 512, 0)))) ∧
  (∀ (s : State) (t : Nat) (c b : Nat),
    wellFormed (.bankRefresh t c b false) = true →
    s.pwr.phase = ResetPhase.run →
    domainGood s 4 = true →
    memState s c = CH_ACTIVE →
    paused (begin t s) c = false →
    (getChannel s c).rateRead < 3 →
    Runs (.bankRefresh t c b false) s (fun u => (getChannel u c).refreshed = (getChannel s c).refreshed + 1 ∧ rdF u (MEM_CH_STATUS.RATE c) = (getChannel s c).rateRead ∧ u.mem.bytes = s.mem.bytes)) ∧
  (∀ (s : State) (t : Nat) (c b : Nat) (held : Bool),
    wellFormed (.bankRefresh t c b held) = true →
    s.pwr.phase = ResetPhase.run →
    domainGood s 4 = true →
    memState s c = CH_ACTIVE →
    held = true ∨ paused (begin t s) c = true →
    Runs (.bankRefresh t c b held) s (fun u => Sparse.get 0 (getChannel u c).heldBack b = min (Sparse.get 0 (getChannel s c).heldBack b + 1) 8 ∧ (getChannel u c).refreshed = (getChannel s c).refreshed ∧ RegsKept s u [])) ∧
  (∀ (s : State) (t : Nat) (c rate : Nat),
    wellFormed (.refreshRateRead t c rate) = true →
    s.pwr.phase = ResetPhase.run →
    domainGood s 4 = true →
    rate < 3 →
    Runs (.refreshRateRead t c rate) s (fun u => (getChannel u c).rateRead = rate ∧ RegsKept s u [] ∧ u.mem.bytes = s.mem.bytes)) ∧
  (∀ (s : State) (t : Nat) (c : Nat),
    wellFormed (.retrainDue t c) = true →
    s.pwr.phase = ResetPhase.run →
    domainGood s 4 = true →
    memState s c = CH_ACTIVE →
    stepsDue s c = 0 →
    lastTrained s c + rdF s MEM_RETRAIN.INTERVAL_MS * 1000000 ≤ now (begin t s) →
    Runs (.retrainDue t c) s (fun u => stepsDue u c = 4 ∧ (getChannel u c).dueAt = some (now (begin t s)) ∧ u.mem.bytes = s.mem.bytes)) ∧
  (∀ (s : State) (t : Nat) (c d : Nat),
    wellFormed (.retrainForce t c) = true →
    s.pwr.phase = ResetPhase.run →
    domainGood s 4 = true →
    (getChannel s c).dueAt = some d →
    (getChannel s c).forced = false →
    d + rdF s MEM_RETRAIN.FORCE_MS * 1000000 ≤ now (begin t s) →
    Runs (.retrainForce t c) s (fun u => (getChannel u c).forced = true ∧ rdF u (MEM_CH_FORCED.COUNT c) = min (rdF s (MEM_CH_FORCED.COUNT c) + 1) (2 ^ 32 - 1))) ∧
  (∀ (s : State) (t : Nat) (g c : Nat) (margins results : List Bool),
    wellFormed (.retrainOpportunity t g margins results) = true →
    s.pwr.phase = ResetPhase.run →
    domainGood s 4 = true →
    (anyHead s = true → (headsOf g).any (headOn s.dsp.active) = true) →
    c < 4 →
    pauseOk c (margins.getD c false) s = true →
    results.getD c false = true →
    Runs (.retrainOpportunity t g margins results) s (fun u => stepsDue u c = stepsDue s c - 1 ∧ (stepsDue s c = 1 → rdF u (MEM_CH_RETRAINED.COUNT c) = min (rdF s (MEM_CH_RETRAINED.COUNT c) + 1) (2 ^ 32 - 1) ∧ rd64 u (.MEM_CH_LAST_LO c) (.MEM_CH_LAST_HI c) = now (begin t s) % 2 ^ 64) ∧ (getChannel u c).pauseFrom < (getChannel u c).pauseTo ∧ (getChannel u c).pauseTo ≤ (getChannel u c).pauseFrom + 1200 ∧ (∀ d, d < c → (getChannel u d).pauseTo ≤ (getChannel u c).pauseFrom) ∧ u.mem.bytes = s.mem.bytes)) ∧
  (∀ (s : State) (t : Nat) (g c : Nat) (margins results : List Bool),
    wellFormed (.retrainOpportunity t g margins results) = true →
    s.pwr.phase = ResetPhase.run →
    domainGood s 4 = true →
    (anyHead s = true → (headsOf g).any (headOn s.dsp.active) = true) →
    c < 4 →
    pauseOk c (margins.getD c false) s = true →
    results.getD c false = false →
    Runs (.retrainOpportunity t g margins results) s (fun u => stepsDue u c = stepsDue s c ∧ rdF u (MEM_CH_RETRAINED.COUNT c) = rdF s (MEM_CH_RETRAINED.COUNT c) ∧ u.mem.bytes = s.mem.bytes)) ∧
  (∀ (s : State) (t : Nat) (c : Nat),
    wellFormed (.selfRefreshEntry t c) = true →
    s.pwr.phase = ResetPhase.run →
    domainGood s 4 = true →
    memState s c = CH_ACTIVE →
    flag s MEM_SR.EN = true →
    (getChannel s c).queue = [] →
    (getChannel s c).lastReq + rdF s MEM_SR.IDLE_US * 1000 ≤ now (begin t s) →
    class0Active s = false →
    Runs (.selfRefreshEntry t c) s (fun u => memState u c = CH_SELF_REFRESH ∧ u.mem.bytes = s.mem.bytes ∧ RegsKept s u [.MEM_CH_STATUS c]))

/-- A lockstep mismatch, an expiry of the Shallot core watchdog, a DTIME window out of bounds and a fault of IDs 1 to 8 on the fault bus set SAFE with their ID as the cause where it was not set, the first two also while a module reset holds the other blocks; an unlocked root PLL shows in CLK_STATUS; a window within bounds changes no register; a cluster fault that Shallot reports resets the cluster. -/
def Obligations.SafeState : Prop :=
  (∀ (s : State) (t : Nat),
    (wellFormed (.lockstepMismatch t) = true) →
    flag s SHL_STATUS.SAFE = false →
    s.pwr.pd0 = true →
    Runs (.lockstepMismatch t) s (fun u => flag u SHL_STATUS.SAFE = true ∧ rdF u SHL_STATUS.SAFE_CAUSE = 1 ∧ u.mem = s.mem)) ∧
  (∀ (s : State) (t : Nat),
    wellFormed (.shallotCoreWdExpiry t) = true →
    flag s SHL_STATUS.SAFE = false →
    s.pwr.pd0 = true →
    Runs (.shallotCoreWdExpiry t) s (fun u => flag u SHL_STATUS.SAFE = true ∧ rdF u SHL_STATUS.SAFE_CAUSE = 3 ∧ u.mem = s.mem)) ∧
  (∀ (s : State) (t : Nat) (adv : Nat),
    wellFormed (.dtimeMonitorWindow t adv) = true →
    s.pwr.phase = ResetPhase.run →
    flag s SHL_STATUS.SAFE = false →
    adv < 99900000 ∨ 100100000 < adv →
    Runs (.dtimeMonitorWindow t adv) s (fun u => flag u SHL_STATUS.SAFE = true ∧ rdF u SHL_STATUS.SAFE_CAUSE = 6)) ∧
  (∀ (s : State) (t : Nat) (adv : Nat),
    wellFormed (.dtimeMonitorWindow t adv) = true →
    s.pwr.phase = ResetPhase.run →
    99900000 ≤ adv →
    adv ≤ 100100000 →
    Runs (.dtimeMonitorWindow t adv) s (fun u => RegsKept s u [] ∧ u.mem = s.mem)) ∧
  (∀ (s : State) (t : Nat) (id unit detail line col last : Nat) (ok : Bool),
    wellFormed (.faultReport t id unit detail line col last ok) = true →
    s.pwr.phase = ResetPhase.run →
    flag s SHL_STATUS.SAFE = false →
    1 ≤ id →
    id ≤ 8 →
    s.pwr.pd0 = true ∨ 4 ≤ id →
    Runs (.faultReport t id unit detail line col last ok) s (fun u => flag u SHL_STATUS.SAFE = true ∧ rdF u SHL_STATUS.SAFE_CAUSE = id)) ∧
  (∀ (s : State) (t : Nat) (unit line col last : Nat) (ok : Bool),
    wellFormed (.faultReport t 5 unit 0 line col last ok) = true →
    s.pwr.phase = ResetPhase.run →
    flag s SHL_STATUS.SAFE = false →
    Runs (.faultReport t 5 unit 0 line col last ok) s (fun u => flag u SHL_STATUS.SAFE = true ∧ rdF u SHL_STATUS.SAFE_CAUSE = 5 ∧ flag u CLK_STATUS.ROOT_LOCK = false)) ∧
  (∀ (s : State) (t : Nat) (unit detail line col last : Nat) (ok : Bool),
    wellFormed (.faultReport t 0x0B unit detail line col last ok) = true →
    s.pwr.phase = ResetPhase.run →
    unit < 24 →
    1 ≤ detail →
    detail < 3 →
    Runs (.faultReport t 0x0B unit detail line col last ok) s (fun u => (getCluster u unit).ctx = none ∧ (getCluster u unit).resetAt = some (now (begin t s)))) ∧
  (∀ (s : State) (t : Nat) (g h : Nat),
    wellFormed (.groupFrameWdExpiry t g) = true →
    s.pwr.phase = ResetPhase.run →
    g < 3 →
    frameWdEnd s g ≤ now (begin t s) →
    (getGroup s g).wdFor ≠ some (getGroup s g).commitAt →
    h ∈ headsOf g →
    headOn s.dsp.active h = true →
    Runs (.groupFrameWdExpiry t g) s (fun u => (getGroup u g).wdFor = some (getGroup s g).commitAt ∧ (getHead u h).patternNext = true ∧ u.mem = s.mem))

/-- A kick with the current generation restarts the watchdog; its expiry and a link out of L0 for 10 ms make the host absent with the lowest reason that holds; L0 and a kick make it present again where nothing else holds. The reaction that leaves a retirement due ends with the unit retired; an SHL_UNRETIRE of a retired unit not in use starts its self-test with RESULT 0xFF; a test that passes returns the unit, and one that fails leaves it retired. -/
def Obligations.HostAndRetirement : Prop :=
  (∀ (s : State) (t : Nat) (gen : Nat),
    wellFormed (.mgrKick t gen) = true →
    s.pwr.phase = ResetPhase.run →
    gen = instGen s 0 →
    rdF s SHL_MGR_WD.PERIOD_MS ≠ 0 →
    Runs (.mgrKick t gen) s (fun u => u.shl.mgrKick = some (now (begin t s)) ∧ u.shl.mgrExpired = false ∧ flag u SHL_STATUS.HOST_ABSENT = (s.shl.linkDown || s.shl.perstLow) ∧ rdF u SHL_STATUS.ABSENT_REASON = (if s.shl.linkDown = true then 1 else if s.shl.perstLow = true then 2 else 0) ∧ u.mem = s.mem)) ∧
  (∀ (s : State) (t : Nat) (k : Nat),
    wellFormed (.managerWdExpiry t) = true →
    s.pwr.phase = ResetPhase.run →
    s.shl.mgrKick = some k →
    k + rdF s SHL_MGR_WD.PERIOD_MS * 1000000 ≤ now (begin t s) →
    Runs (.managerWdExpiry t) s (fun u => u.shl.mgrExpired = true ∧ flag u SHL_STATUS.HOST_ABSENT = true ∧ rdF u SHL_STATUS.ABSENT_REASON = (if s.shl.linkDown = true then 1 else if s.shl.perstLow = true then 2 else 3) ∧ u.mem = s.mem)) ∧
  (∀ (s : State) (t : Nat),
    wellFormed (.linkDown10ms t) = true →
    s.pwr.phase = ResetPhase.run →
    Runs (.linkDown10ms t) s (fun u => u.host.linkUp = false ∧ flag u SHL_STATUS.HOST_ABSENT = true ∧ rdF u SHL_STATUS.ABSENT_REASON = 1 ∧ u.mem = s.mem)) ∧
  (∀ (s : State) (t : Nat),
    wellFormed (.pcieLinkL0 t) = true →
    s.pwr.phase = ResetPhase.run →
    domainGood s 3 = true →
    Runs (.pcieLinkL0 t) s (fun u => u.host.linkUp = true ∧ flag u SHL_STATUS.HOST_ABSENT = (s.shl.perstLow || s.shl.mgrExpired) ∧ u.mem = s.mem)) ∧
  (∀ (s : State) (t : Nat) (kind unit : Nat) (d : RetireDue),
    wellFormed (.unitRetire t kind unit) = true →
    s.pwr.phase = ResetPhase.run →
    dueOf s kind unit = some d →
    kind ≠ U_PAGE →
    retirable kind = true →
    unit < unitsOfKind kind →
    Runs (.unitRetire t kind unit) s (fun u => isRetired u kind unit = true ∧ retireIsDue u kind unit = false)) ∧
  (∀ (s : State) (t : Nat) (v : Word) (kind unit : Nat),
    wellFormed (.unretire t v) = true →
    s.pwr.phase = ResetPhase.run →
    bit v.toNat 31 = true →
    bitsOf v.toNat 15 12 = kind →
    bitsOf v.toNat 6 0 = unit →
    unit < unitsOfKind kind →
    retirable kind = true →
    kind ≠ U_PAGE →
    s.shl.selfTest = none →
    isRetired s kind unit = true →
    unitInUse s kind unit = false →
    safe s = false →
    Runs (.unretire t v) s (fun u => u.shl.selfTest = some (kind, unit) ∧ rdF u SHL_UNRETIRE.RESULT = 0xFF ∧ isRetired u kind unit = true)) ∧
  (∀ (s : State) (t : Nat) (kind unit : Nat),
    wellFormed (.unretireSelftestComplete t true) = true →
    s.pwr.phase = ResetPhase.run →
    s.shl.selfTest = some (kind, unit) →
    s.shl.testFailed = false →
    unit < unitsOfKind kind →
    retirable kind = true →
    Runs (.unretireSelftestComplete t true) s (fun u => isRetired u kind unit = false ∧ rdF u SHL_UNRETIRE.RESULT = ST_OK ∧ u.shl.selfTest = none)) ∧
  (∀ (s : State) (t : Nat) (kind unit : Nat),
    wellFormed (.unretireSelftestComplete t false) = true →
    s.pwr.phase = ResetPhase.run →
    s.shl.selfTest = some (kind, unit) →
    Runs (.unretireSelftestComplete t false) s (fun u => u.shl.retired = s.shl.retired ∧ rdF u SHL_UNRETIRE.RESULT = ST_FAULT_PERMANENT ∧ u.shl.selfTest = none ∧ RegsKept s u [.SHL_UNRETIRE]))

/-- An AUDIO_BUFFER whose checks pass takes the last place of its channel's queue; a buffer whose last sample has been played leaves the queue and completes; a sample that has not arrived marks the buffer that plays, or starts with the next sample, late with ST_TIMEOUT, unless a lower status applies. -/
def Obligations.AudioBuffers : Prop :=
  (∀ (s : State) (t : Nat) (k : Taken) (data : List Byte),
    wellFormed (.audioBuffer t data) = true →
    s.pwr.phase = ResetPhase.run →
    (Dispatches t s (fun o => decide (o = OP_AUDIO_BUFFER)) checkAudio k = true) →
    Runs (.audioBuffer t data) s (fun u => (getChan u (u8 k.d 24)).bufs = (getChan s (u8 k.d 24)).bufs ++ [({ fn := k.fn, q := k.q, id := k.id, addr := u64 k.d 32, len := dLen k.d, data := data, stamp := now (begin t s), after := if now (begin t s) < dNotBefore k.d then some (dNotBefore k.d) else none, ripe := !(decide (now (begin t s) < dNotBefore k.d)) && decide (chanState s (u8 k.d 24) = CH_PLAYING) } : AudioBuf)] ∧ (hostSpace (u64 k.d 32) = true → u.out.contains (HostMsg.hostRead k.fn (pasidOf s k.fn k.d) (hostAddr (u64 k.d 32)) (dLen k.d)) = true) ∧ u.mem = s.mem)) ∧
  (∀ (s : State) (t : Nat) (a : Nat) (b : AudioBuf),
    wellFormed (.audioBufferComplete t a) = true →
    s.pwr.phase = ResetPhase.run →
    domainGood s 12 = true →
    ((getChan s a).bufs.find? (fun (b : AudioBuf) => b.lastAt.isSome) = some b) →
    Runs (.audioBufferComplete t a) s (fun u => (getChan u a).bufs = (getChan s a).bufs.erase b ∧ Completed u b.fn b.q b.id = true ∧ u.mem = s.mem)) ∧
  (∀ (s : State) (t : Nat) (a : Nat) (b : AudioBuf) (bs : List AudioBuf),
    wellFormed (.bufferUnderrun t a) = true →
    s.pwr.phase = ResetPhase.run →
    domainGood s 12 = true →
    liveBufs (getChan s a) = b :: bs →
    b.started = true ∨ (b.ripe = true ∧ chanState s a = CH_PLAYING) →
    Runs (.bufferUnderrun t a) s (fun u => liveBufs (getChan u a) = ({ b with late := true, status := lowerStatus b.status ST_TIMEOUT } : AudioBuf) :: bs ∧ RegsKept s u [.AUD_A_STATUS a] ∧ u.mem = s.mem))

/-- A block boundary latches its DTIME, starts the ramps of the gains written before it, settles every swap of an equaliser asked for before it and takes the maps as written before it; a sample period moves every gain ramp and every route fade on by one sample and fills no memory. A GO on a route leaves it pending; a gain write sets GAIN and RAMP_MS and waits for its block boundary, which until a later stamp still takes what the register held; a coefficient write to a bank not in use stores its word and advances WORD; SWAP leaves the swap pending; a map write takes its fields and changes nothing in effect. -/
def Obligations.AudioEngine : Prop :=
  (∀ (s : State) (t : Nat),
    wellFormed (.blockBoundary t) = true →
    s.pwr.phase = ResetPhase.run →
    domainGood s 12 = true →
    Runs (.blockBoundary t) s (fun u => rd64 u .AUD_BLOCK_TIME_LO .AUD_BLOCK_TIME_HI = now (begin t s) % 2 ^ 64 ∧ u.aud.sample = 0 ∧ (∀ a : Nat, a < 64 → (getChan u a).gain = (if isBefore (begin t s) (getChan s a).gainAt = true then (getChan s a).gain.to (fOfCode (rdFBefore (begin t s) (AUD_A_GAIN.GAIN a))) (rdFBefore (begin t s) (AUD_A_GAIN.RAMP_MS a) * perMs s) else (getChan s a).gain)) ∧ (∀ b : Nat, b < 32 → (getBus s b).swapAt < now (begin t s) → flag u (AUD_B_EQ.PEND b) = false) ∧ (∀ r ∈ mapRegs, Sparse.get r.reset u.aud.maps r.key = rdBefore (begin t s) r) ∧ u.mem = s.mem)) ∧
  (∀ (s : State) (t : Nat),
    wellFormed (.engineSamplePeriod t) = true →
    s.pwr.phase = ResetPhase.run →
    domainGood s 12 = true →
    memClean s = true →
    Runs (.engineSamplePeriod t) s (fun u => u.aud.sample = s.aud.sample + 1 ∧ (∀ a : Nat, a < 64 → (getChan u a).gain = (getChan s a).gain.tick ∧ (getChan u a).gainAt = (getChan s a).gainAt ∧ (getChan u a).fadeN = (getChan s a).fadeN + (if fading (getChan s a) = true then 1 else 0)) ∧ sameMem u.mem s.mem = true)) ∧
  (∀ (s : State) (t : Nat) (a : Nat) (v : Word),
    wellFormed (.routeGo t a v) = true →
    s.pwr.phase = ResetPhase.run →
    rdF s BOOT_STATUS.STAGE = 6 →
    admitted (Reg.fields (.AUD_A_RCTL a)) v.toNat = true →
    bit v.toNat 31 = true →
    Runs (.routeGo t a v) s (fun u => flag u (AUD_A_RCTL.PEND a) = true ∧ rdF u (AUD_A_RCTL.RAMP_MS a) = bitsOf v.toNat 8 0 ∧ RegsKept s u [.AUD_A_RCTL a] ∧ getChan u a = { getChan s a with goAt := if flag s (AUD_A_RCTL.PEND a) = true then (getChan s a).goAt else now (begin t s), goLast := now (begin t s) } ∧ (writtenNow (begin t s) (.AUD_A_RCTL a) = false → rdBefore u (.AUD_A_RCTL a) = rd s (.AUD_A_RCTL a)))) ∧
  (∀ (s : State) (t : Nat) (n : Nat) (v : Word),
    wellFormed (.gainWrite t false n v) = true →
    s.pwr.phase = ResetPhase.run →
    rdF s BOOT_STATUS.STAGE = 6 →
    n < 64 →
    admitted (Reg.fields (.AUD_A_GAIN n)) v.toNat = true →
    Runs (.gainWrite t false n v) s (fun u => rdF u (AUD_A_GAIN.GAIN n) = bitsOf v.toNat 15 0 ∧ rdF u (AUD_A_GAIN.RAMP_MS n) = bitsOf v.toNat 24 16 ∧ getChan u n = { getChan s n with gainAt := some ((getChan s n).gainAt.getD (now (begin t s))) } ∧ (writtenNow (begin t s) (.AUD_A_GAIN n) = false → rdBefore u (.AUD_A_GAIN n) = rd s (.AUD_A_GAIN n)) ∧ RegsKept s u [.AUD_A_GAIN n])) ∧
  (∀ (s : State) (t : Nat) (n : Nat) (v : Word),
    wellFormed (.gainWrite t true n v) = true →
    s.pwr.phase = ResetPhase.run →
    rdF s BOOT_STATUS.STAGE = 6 →
    n < 32 →
    admitted (Reg.fields (.AUD_B_GAIN n)) v.toNat = true →
    Runs (.gainWrite t true n v) s (fun u => rdF u (AUD_B_GAIN.GAIN n) = bitsOf v.toNat 15 0 ∧ rdF u (AUD_B_GAIN.RAMP_MS n) = bitsOf v.toNat 24 16 ∧ getBus u n = { getBus s n with gainAt := some ((getBus s n).gainAt.getD (now (begin t s))) } ∧ (writtenNow (begin t s) (.AUD_B_GAIN n) = false → rdBefore u (.AUD_B_GAIN n) = rd s (.AUD_B_GAIN n)) ∧ RegsKept s u [.AUD_B_GAIN n])) ∧
  (∀ (s : State) (t : Nat) (v : Word) (b k w : Nat),
    wellFormed (.eqDataWrite t v) = true →
    s.pwr.phase = ResetPhase.run →
    rdF s BOOT_STATUS.STAGE = 6 →
    rdF s AUD_EQ_ADDR.BUS = b →
    rdF s AUD_EQ_ADDR.BANK = k →
    rdF s AUD_EQ_ADDR.WORD = w →
    badCoef v.toNat = false →
    rdF s (AUD_B_EQ.BANK b) ≠ k →
    flag s (AUD_B_EQ.PEND b) = false →
    Runs (.eqDataWrite t v) s (fun u => eqWord u.aud b k w = v.toNat ∧ rdF u AUD_EQ_ADDR.WORD = (if w = 29 then 0 else w + 1) ∧ RegsKept s u [.AUD_EQ_ADDR] ∧ u.aud.chans = s.aud.chans ∧ u.aud.buses = s.aud.buses)) ∧
  (∀ (s : State) (t : Nat) (b : Nat),
    wellFormed (.eqSwap t b) = true →
    s.pwr.phase = ResetPhase.run →
    rdF s BOOT_STATUS.STAGE = 6 →
    b < 32 →
    flag s (AUD_B_EQ.PEND b) = false →
    Runs (.eqSwap t b) s (fun u => flag u (AUD_B_EQ.PEND b) = true ∧ rdF u (AUD_B_EQ.BANK b) = rdF s (AUD_B_EQ.BANK b) ∧ RegsKept s u [.AUD_B_EQ b] ∧ getBus u b = { getBus s b with swapAt := now (begin t s) } ∧ u.aud.chans = s.aud.chans ∧ u.aud.coef = s.aud.coef)) ∧
  (∀ (s : State) (t : Nat) (n k : Nat) (v : Word),
    wellFormed (.mapWrite t false n k v) = true →
    s.pwr.phase = ResetPhase.run →
    rdF s BOOT_STATUS.STAGE = 6 →
    n < 4 →
    k < 4 →
    Runs (.mapWrite t false n k v) s (fun u => rd u (.AUD_T_TXMAP n k) = v &&& 0x9F9F9F9F ∧ RegsKept s u [.AUD_T_TXMAP n k] ∧ u.aud.maps = s.aud.maps ∧ u.aud.chans = s.aud.chans ∧ u.aud.buses = s.aud.buses ∧ (writtenNow (begin t s) (.AUD_T_TXMAP n k) = false → rdBefore u (.AUD_T_TXMAP n k) = rd s (.AUD_T_TXMAP n k)))) ∧
  (∀ (s : State) (t : Nat) (n k : Nat) (v : Word),
    wellFormed (.mapWrite t true n k v) = true →
    s.pwr.phase = ResetPhase.run →
    rdF s BOOT_STATUS.STAGE = 6 →
    n < 12 →
    k < 2 →
    Runs (.mapWrite t true n k v) s (fun u => rd u (.AUD_HD_MAP n k) = v &&& 0x9F9F9F9F ∧ RegsKept s u [.AUD_HD_MAP n k] ∧ u.aud.maps = s.aud.maps ∧ u.aud.chans = s.aud.chans ∧ u.aud.buses = s.aud.buses ∧ (writtenNow (begin t s) (.AUD_HD_MAP n k) = false → rdBefore u (.AUD_HD_MAP n k) = rd s (.AUD_HD_MAP n k))))

/-- EN enters RUN for a master, with 32 idle frames to send, and SYNCING for a slave; clearing it in RUN stops the port at the next frame boundary and otherwise at once; the second frame sync of a slave, 512 bit clocks after the first, enters RUN; a frame in RUN, of a slave or of a master that has begun, sends the oldest frame behind a frame sync that the master drives and keeps the one received, and a held position is counted; in SYNCING, in RESYNC and with nothing to send it sends the idle item and counts it; a frame boundary ends a port that is stopping; a frame sync off a multiple of 512 bit clocks, a lost bit clock or missing frame syncs leave a slave in RESYNC with empty FIFOs. -/
def Obligations.TdmPorts : Prop :=
  (∀ (s : State) (t : Nat) (p : Nat) (v : Word),
    wellFormed (.tdmPortEnable t p v) = true →
    s.pwr.phase = ResetPhase.run →
    rdF s BOOT_STATUS.STAGE = 6 →
    flag s (AUD_T_CFG.EN p) = false →
    bit v.toNat 31 = true →
    portState s p ≠ PT_RETIRED →
    (getPort s p).stopping = false →
    Runs (.tdmPortEnable t p v) s (fun u => flag u (AUD_T_CFG.EN p) = true ∧ portState u p = (if bit v.toNat 30 then PT_RUN else PT_SYNCING) ∧ (getPort u p).tx = (if bit v.toNat 30 then List.replicate 32 idleFrame else []) ∧ (getPort u p).rx = [] ∧ (getPort u p).enAt = now (begin t s) ∧ (getPort u p).begun = false ∧ RegsKept s u [.AUD_T_CFG p, .AUD_T_STATUS p])) ∧
  (∀ (s : State) (t : Nat) (p : Nat) (v : Word),
    wellFormed (.tdmPortDisable t p v) = true →
    s.pwr.phase = ResetPhase.run →
    rdF s BOOT_STATUS.STAGE = 6 →
    flag s (AUD_T_CFG.EN p) = true →
    bitsOf v.toNat 30 28 = bitsOf (rd s (.AUD_T_CFG p)).toNat 30 28 →
    bit v.toNat 31 = false →
    portState s p = PT_RUN →
    Runs (.tdmPortDisable t p v) s (fun u => flag u (AUD_T_CFG.EN p) = false ∧ (getPort u p).stopping = true ∧ portState u p = PT_RUN ∧ RegsKept s u [.AUD_T_CFG p])) ∧
  (∀ (s : State) (t : Nat) (p : Nat) (v : Word),
    wellFormed (.tdmPortDisable t p v) = true →
    s.pwr.phase = ResetPhase.run →
    rdF s BOOT_STATUS.STAGE = 6 →
    flag s (AUD_T_CFG.EN p) = true →
    bitsOf v.toNat 30 28 = bitsOf (rd s (.AUD_T_CFG p)).toNat 30 28 →
    bit v.toNat 31 = false →
    portState s p ≠ PT_RUN →
    portState s p ≠ PT_RETIRED →
    Runs (.tdmPortDisable t p v) s (fun u => flag u (AUD_T_CFG.EN p) = false ∧ portState u p = PT_OFF ∧ RegsKept s u [.AUD_T_CFG p, .AUD_T_STATUS p])) ∧
  (∀ (s : State) (t : Nat) (p : Nat),
    wellFormed (.tdmFrameSync t p 512) = true →
    s.pwr.phase = ResetPhase.run →
    domainGood s 12 = true →
    slaveOn s p = true →
    portState s p ≠ PT_RUN →
    (getPort s p).seen = true →
    Runs (.tdmFrameSync t p 512) s (fun u => portState u p = PT_RUN ∧ (getPort u p).tx = List.replicate 32 idleFrame ∧ (getPort u p).rx = [] ∧ RegsKept s u [.AUD_T_STATUS p])) ∧
  (∀ (s : State) (t : Nat) (p n : Nat),
    wellFormed (.tdmFrameSync t p n) = true →
    s.pwr.phase = ResetPhase.run →
    domainGood s 12 = true →
    slaveOn s p = true →
    (getPort s p).seen = true →
    n % 512 ≠ 0 →
    Runs (.tdmFrameSync t p n) s (fun u => portState u p = PT_RESYNC ∧ (getPort u p).tx = [] ∧ (getPort u p).rx = [] ∧ u.mem = s.mem)) ∧
  (∀ (s : State) (t : Nat) (p : Nat) (bits : List Bool) (f : List Nat) (rest : List (List Nat)),
    wellFormed (.tdmFrame t p false bits) = true →
    s.pwr.phase = ResetPhase.run →
    domainGood s 12 = true →
    portState s p = PT_RUN →
    (getPort s p).stopping = false →
    (flag s (AUD_T_CFG.MASTER p) = true → (getPort s p).begun = true) →
    flag s (AUD_T_CFG.TX_EN p) = true →
    flag s (AUD_T_CFG.RX_EN p) = true →
    (getPort s p).tx = f :: rest →
    (getPort s p).rx.length < 64 →
    Runs (.tdmFrame t p false bits) s (fun u => u.out = [HostMsg.tdm p (tdmWave (flag s (AUD_T_CFG.MASTER p)) f)] ∧ (getPort u p).tx = rest ∧ (getPort u p).rx = (getPort s p).rx ++ [tdmSlots bits] ∧ u.mem = s.mem)) ∧
  (∀ (s : State) (t : Nat) (p : Nat) (bits : List Bool),
    wellFormed (.tdmFrame t p false bits) = true →
    s.pwr.phase = ResetPhase.run →
    domainGood s 12 = true →
    portState s p = PT_SYNCING ∨ portState s p = PT_RESYNC ∨ (portState s p = PT_RUN ∧ (getPort s p).tx = []) →
    (getPort s p).stopping = false →
    (flag s (AUD_T_CFG.MASTER p) = true → (getPort s p).begun = true) →
    flag s (AUD_T_CFG.TX_EN p) = true →
    Runs (.tdmFrame t p false bits) s (fun u => u.out = [HostMsg.tdm p (tdmWave (flag s (AUD_T_CFG.MASTER p)) idleFrame)] ∧ rdF u (AUD_T_IDLE.TX p) = min (rdF s (AUD_T_IDLE.TX p) + 1) (2 ^ 32 - 1) ∧ (getPort u p).tx = (getPort s p).tx ∧ u.mem = s.mem)) ∧
  (∀ (s : State) (t : Nat) (p : Nat) (bits : List Bool),
    wellFormed (.tdmFrame t p false bits) = true →
    s.pwr.phase = ResetPhase.run →
    domainGood s 12 = true →
    flag s (AUD_T_CFG.MASTER p) = true →
    (getPort s p).begun = false →
    (getPort s p).stopping = false →
    Runs (.tdmFrame t p false bits) s (fun u => u.out = [] ∧ getPort u p = getPort s p ∧ RegsKept s u [] ∧ u.mem = s.mem)) ∧
  (∀ (s : State) (t : Nat) (p : Nat) (held : Bool) (bits : List Bool),
    wellFormed (.tdmFrame t p held bits) = true →
    s.pwr.phase = ResetPhase.run →
    domainGood s 12 = true →
    (getPort s p).stopping = true →
    flag s (AUD_T_CFG.EN p) = false →
    Runs (.tdmFrame t p held bits) s (fun u => portState u p = PT_OFF ∧ u.out = [] ∧ getPort u p = ({} : TdmPort) ∧ u.mem = s.mem)) ∧
  (∀ (s : State) (t : Nat) (p : Nat) (bits : List Bool),
    wellFormed (.tdmFrame t p true bits) = true →
    s.pwr.phase = ResetPhase.run →
    domainGood s 12 = true →
    portState s p = PT_RUN →
    (getPort s p).stopping = false →
    flag s (AUD_T_CFG.MASTER p) = false →
    Runs (.tdmFrame t p true bits) s (fun u => rdF u (AUD_T_HOLDS.COUNT p) = min (rdF s (AUD_T_HOLDS.COUNT p) + 1) (2 ^ 32 - 1) ∧ (getPort u p).tx = (getPort s p).tx ∧ (getPort u p).rx = (getPort s p).rx ∧ u.mem = s.mem)) ∧
  (∀ (s : State) (t : Nat) (p : Nat),
    wellFormed (.tdmBclkLoss t p) = true →
    s.pwr.phase = ResetPhase.run →
    domainGood s 12 = true →
    slaveOn s p = true →
    Runs (.tdmBclkLoss t p) s (fun u => portState u p = PT_RESYNC ∧ (getPort u p).tx = [] ∧ (getPort u p).rx = [] ∧ flag u (AUD_T_STATUS.FLOW_TX p) = false ∧ flag u (AUD_T_STATUS.FLOW_RX p) = false)) ∧
  (∀ (s : State) (t : Nat) (p : Nat),
    wellFormed (.tdmFrameSyncMissing t p) = true →
    s.pwr.phase = ResetPhase.run →
    domainGood s 12 = true →
    slaveOn s p = true →
    2 ≤ (getPort s p).missing →
    Runs (.tdmFrameSyncMissing t p) s (fun u => portState u p = PT_RESYNC ∧ (getPort u p).tx = [] ∧ (getPort u p).rx = [] ∧ flag u (AUD_T_STATUS.FLOW_TX p) = false ∧ flag u (AUD_T_STATUS.FLOW_RX p) = false))

/-- A digitiser found on an enabled port that can serve it is enumerated, with Input Mode set where it has it, and its port runs; the first report of a contact gives it a number and its route's holder, or I0 where it is unrouted; a surface silent for 100 ms and a route that is disabled lose their contacts; an interrupt edge is stamped, and the active state of that moment kept. -/
def Obligations.TouchInput : Prop :=
  (∀ (s : State) (t : Nat) (p : Nat) (d : TouchDevice),
    wellFormed (.touchDeviceAttach t p 0 d) = true →
    s.pwr.phase = ResetPhase.run →
    domainGood s 12 = true →
    flag s (TCH_P_CFG.EN p) = true →
    rdF s (TCH_P_STATUS.STATE p) ≠ TP_OFF →
    rdF s (TCH_P_STATUS.STATE p) ≠ TP_RETIRED →
    (s.tch.devices.all (fun (x : Digitiser) => decide (x.port ≠ p)) = true) →
    served p d = true →
    Runs (.touchDeviceAttach t p 0 d) s (fun u => u.tch.devices = s.tch.devices ++ [({ port := p, hub := 0, contactMax := min 10 (d.contactMax.getD 10), colls := d.colls.filter (fun us => hasUsage us 0x0D0004) } : Digitiser)] ∧ rdF u (TCH_P_STATUS.STATE p) = TP_RUN ∧ rdF u (TCH_P_STATUS.DEVICES p) = 1 ∧ (d.inputMode = true → u.out.contains (HostMsg.inputMode p 0 2) = true) ∧ u.tch.surfaces = s.tch.surfaces)) ∧
  (∀ (s : State) (t : Nat) (p : Nat) (d : TouchDevice),
    wellFormed (.touchDeviceAttach t p 0 d) = true →
    s.pwr.phase = ResetPhase.run →
    domainGood s 12 = true →
    flag s (TCH_P_CFG.EN p) = true →
    rdF s (TCH_P_STATUS.STATE p) ≠ TP_OFF →
    rdF s (TCH_P_STATUS.STATE p) ≠ TP_RETIRED →
    (s.tch.devices.all (fun (x : Digitiser) => decide (x.port ≠ p)) = true) →
    served p d = false →
    Runs (.touchDeviceAttach t p 0 d) s (fun u => u.tch.devices = s.tch.devices ∧ rdF u (TCH_P_STATUS.STATE p) = TP_RUN ∧ u.tch.surfaces = s.tch.surfaces)) ∧
  (∀ (s : State) (t : Nat) (p : Nat),
    wellFormed (.i2cIntFall t p) = true →
    s.pwr.phase = ResetPhase.run →
    domainGood s 12 = true →
    4 ≤ p →
    Runs (.i2cIntFall t p) s (fun u => Sparse.get 0 u.tch.intAt p = now (begin t s) ∧ Sparse.get [] u.tch.intView p = s.dsp.active ∧ RegsKept s u [] ∧ u.tch.surfaces = s.tch.surfaces)) ∧
  (∀ (s : State) (t : Nat) (n : Nat) (k : TouchPoint) (gx gy h hx r : Nat) (v : View),
    wellFormed (.touchReport t [{ surface := n, points := [k] }]) = true →
    s.pwr.phase = ResetPhase.run →
    domainGood s 12 = true →
    (v = (if rdF s (TCH_S_SRC.PORT n) < 4 then s.dsp.active else Sparse.get [] s.tch.intView (rdF s (TCH_S_SRC.PORT n)))) →
    n < 16 →
    rdF s (TCH_S_STATUS.STATE n) = SF_BOUND →
    (getSurface s n).contacts = [] →
    k.tip = true →
    k.conf = true →
    mapPoint s n k = (gx, gy) →
    onHead v (rdF s (TCH_S_MAP2.HEAD n)) gx = (h, hx) →
    findRoute s v h hx gy = some r →
    routeContacts s r < rdF s (TCH_R_CFG.MAXC r) →
    Runs (.touchReport t [{ surface := n, points := [k] }]) s (fun u => (getSurface u n).contacts.map (fun (c : Contact) => (c.id, c.num, c.route, c.holder)) = [(k.id, some 0, r, (getLease s K_TOUCH r).holder)] ∧ (getSurface u n).contacts.map (fun (c : Contact) => (c.head, c.x, c.y)) = [(h, hx, gy)] ∧ rdF u (TCH_S_STATUS.CONTACTS n) = 1)) ∧
  (∀ (s : State) (t : Nat) (n : Nat) (k : TouchPoint) (gx gy h hx : Nat) (v : View),
    wellFormed (.touchReport t [{ surface := n, points := [k] }]) = true →
    s.pwr.phase = ResetPhase.run →
    domainGood s 12 = true →
    (v = (if rdF s (TCH_S_SRC.PORT n) < 4 then s.dsp.active else Sparse.get [] s.tch.intView (rdF s (TCH_S_SRC.PORT n)))) →
    n < 16 →
    rdF s (TCH_S_STATUS.STATE n) = SF_BOUND →
    (getSurface s n).contacts = [] →
    k.tip = true →
    k.conf = true →
    mapPoint s n k = (gx, gy) →
    onHead v (rdF s (TCH_S_MAP2.HEAD n)) gx = (h, hx) →
    findRoute s v h hx gy = none →
    flag s TCH_CFG.UNROUTED = true →
    Runs (.touchReport t [{ surface := n, points := [k] }]) s (fun u => (getSurface u n).contacts.map (fun (c : Contact) => (c.id, c.num, c.route, c.holder)) = [(k.id, some 0, 0xFFFF, 0)] ∧ (getSurface u n).contacts.map (fun (c : Contact) => (c.head, c.x, c.y)) = [(h, hx, gy)])) ∧
  (∀ (s : State) (t : Nat) (n : Nat),
    wellFormed (.surfaceSilentTimeout t n) = true →
    s.pwr.phase = ResetPhase.run →
    domainGood s 12 = true →
    (getSurface s n).lastReport + 100000000 ≤ now (begin t s) →
    Runs (.surfaceSilentTimeout t n) s (fun u => active (getSurface u n) = [] ∧ (∀ m : Nat, m < 16 → m ≠ n → getSurface u m = getSurface s m))) ∧
  (∀ (s : State) (t : Nat) (r : Nat) (v : Word),
    wellFormed (.routeDisable t r v) = true →
    s.pwr.phase = ResetPhase.run →
    rdF s BOOT_STATUS.STAGE = 6 →
    admitted (Reg.fields (.TCH_R_CFG r)) v.toNat = true →
    (bitsOf v.toNat 6 0 < (if bit v.toNat 30 then 12 else 96)) →
    flag s (TCH_R_CFG.EN r) = true →
    bit v.toNat 31 = false →
    Runs (.routeDisable t r v) s (fun u => flag u (TCH_R_CFG.EN r) = false ∧ (∀ n : Nat, n < 16 → (active (getSurface u n)).all (fun (c : Contact) => decide (c.route ≠ r)) = true)))

/-- A HAPTIC_PLAY whose checks pass and a recognised trigger edge put their request at the end of what the channel waits to act on; a drive that has run its duration goes over to BRAKE; a brake that ends leaves the channel idle, or starts the latched drive; an over-current ends both at once with the bridge low; each tick at a multiple of 10 us, while PD13 is on, refills the governor's bucket by 40 uJ less what was drawn, and another one changes nothing; a brake that a module reset meets goes on to its end. -/
def Obligations.Haptics : Prop :=
  (∀ (s : State) (t : Nat) (k : Taken),
    wellFormed (.hapticPlay t) = true →
    s.pwr.phase = ResetPhase.run →
    (Dispatches t s (fun o => decide (o = OP_HAPTIC_PLAY)) checkHaptic k = true) →
    Runs (.hapticPlay t) s (fun u => (getHap u (u8 k.d 24)).waiting = (getHap s (u8 k.d 24)).waiting ++ [({ pin := none, fn := k.fn, q := k.q, id := k.id, effect := u8 k.d 25, gain := u8 k.d 26, prio := max (u8 k.d 27) (rdF s (HAP_K_CFG.MAXP (u8 k.d 24))), stamp := k.stamp } : HapReq)] ∧ u.mem = s.mem)) ∧
  (∀ (s : State) (t : Nat) (m n : Nat) (rising : Bool),
    wellFormed (.htrigEdge t m rising) = true →
    s.pwr.phase = ResetPhase.run →
    rdF s BOOT_STATUS.STAGE = 6 →
    flag s (HAP_TRIG.EN m) = true →
    safe s = false →
    (rdF s (HAP_TRIG.EDGE m) = 2 ∨ rdF s (HAP_TRIG.EDGE m) = (if rising then 0 else 1)) →
    ((Sparse.get none s.hap.edgeAt m).all (fun (l : Nat) => decide (l + 2 * deglitch (rdF s (HAP_TRIG.DEGL m)) ≤ now (begin t s))) = true) →
    rdF s (HAP_TRIG.CHANNEL m) = n →
    Runs (.htrigEdge t m rising) s (fun u => (getHap u n).waiting = (getHap s n).waiting ++ [({ pin := some m, fn := 0, q := 0, id := 0, effect := rdF s (HAP_TRIG.EFFECT m), gain := rdF s (HAP_TRIG.GAIN m), prio := rdF s (HAP_TRIG.PRIO m), stamp := now (begin t s) } : HapReq)] ∧ RegsKept s u [] ∧ u.mem = s.mem)) ∧
  (∀ (s : State) (t : Nat) (sense : List CoilSense) (brakeUj measuredUj : Nat),
    wellFormed (.hapticTick t sense brakeUj measuredUj) = true →
    s.pwr.phase = ResetPhase.run →
    s.pwr.pd0 = true →
    domainGood s 13 = true →
    now (begin t s) % 10000 = 0 →
    Runs (.hapticTick t sense brakeUj measuredUj) s (fun u => rdF u HAP_GOV.BUCKET_UJ = min (rdF s HAP_GOV.BUCKET_UJ + 40 - measuredUj) 400000 ∧ u.mem = s.mem)) ∧
  (∀ (s : State) (t : Nat) (sense : List CoilSense) (brakeUj measuredUj : Nat),
    wellFormed (.hapticTick t sense brakeUj measuredUj) = true →
    s.pwr.phase = ResetPhase.run →
    domainGood s 13 = false →
    Runs (.hapticTick t sense brakeUj measuredUj) s (fun u => rdF u HAP_GOV.BUCKET_UJ = rdF s HAP_GOV.BUCKET_UJ ∧ rdF u HAP_GOV_LIMITED.COUNT = rdF s HAP_GOV_LIMITED.COUNT ∧ u.mem = s.mem)) ∧
  (∀ (s : State) (t : Nat) (sense : List CoilSense) (brakeUj measuredUj n b : Nat),
    wellFormed (.hapticTick t sense brakeUj measuredUj) = true →
    s.pwr.pd0 = true →
    s.pwr.phase ≠ ResetPhase.run →
    now (begin t s) % 10000 = 0 →
    n < 16 →
    (getHap s n).drive = none →
    (getHap s n).brake = some b →
    (getHap s n).brakeAgo + 10000 < 4000000 →
    rdF s (HAP_K_DET.STOP_MV n) ≤ (sense.getD n {}).bemf.natAbs →
    Runs (.hapticTick t sense brakeUj measuredUj) s (fun u => (getHap u n).brake = some b ∧ (getHap u n).brakeAgo = (getHap s n).brakeAgo + 10000 ∧ u.mem = s.mem)) ∧
  (∀ (s : State) (t : Nat) (sense : List CoilSense) (brakeUj measuredUj : Nat),
    wellFormed (.hapticTick t sense brakeUj measuredUj) = true →
    s.pwr.phase = ResetPhase.run →
    now (begin t s) % 10000 ≠ 0 →
    Runs (.hapticTick t sense brakeUj measuredUj) s (fun u => RegsKept s u [] ∧ u.hap = s.hap ∧ u.mem = s.mem)) ∧
  (∀ (s : State) (t : Nat) (n d : Nat) (r : HapReq),
    wellFormed (.driveEnd t n) = true →
    s.pwr.phase = ResetPhase.run →
    (getHap s n).drive = some (r, d) →
    d + effectMs r * 1000000 ≤ now (begin t s) →
    Runs (.driveEnd t n) s (fun u => (getHap u n).drive = none ∧ (getHap u n).brake = some (now (begin t s)) ∧ (getHap u n).latch = (getHap s n).latch ∧ hapState u n = HK_BRAKE ∧ u.mem = s.mem)) ∧
  (∀ (s : State) (t : Nat) (n b : Nat) (bemf : Int),
    wellFormed (.brakeEnd t n bemf) = true →
    s.pwr.phase = ResetPhase.run →
    (getHap s n).brake = some b →
    (getHap s n).latch = none →
    now (begin t s) % 10000 = 0 →
    ((b < now (begin t s) ∨ 0 < (getHap s n).brakeAgo) ∧ bemf.natAbs < rdF s (HAP_K_DET.STOP_MV n)) ∨ b + 4000000 ≤ now (begin t s) + (getHap s n).brakeAgo →
    Runs (.brakeEnd t n bemf) s (fun u => (getHap u n).brake = none ∧ hapState u n = restState s n ∧ RegsKept s u [.HAP_K_STATUS n] ∧ u.mem = s.mem)) ∧
  (∀ (s : State) (t : Nat) (n b : Nat) (bemf : Int) (r : HapReq),
    wellFormed (.brakeEnd t n bemf) = true →
    s.pwr.phase = ResetPhase.run →
    (getHap s n).brake = some b →
    (getHap s n).latch = some r →
    now (begin t s) % 10000 = 0 →
    ((b < now (begin t s) ∨ 0 < (getHap s n).brakeAgo) ∧ bemf.natAbs < rdF s (HAP_K_DET.STOP_MV n)) ∨ b + 4000000 ≤ now (begin t s) + (getHap s n).brakeAgo →
    Runs (.brakeEnd t n bemf) s (fun u => (getHap u n).drive = some (r, now (begin t s)) ∧ (getHap u n).brake = none ∧ (getHap u n).latch = none ∧ hapState u n = HK_DRIVE ∧ RegsKept s u [.HAP_K_STATUS n] ∧ u.mem = s.mem)) ∧
  (∀ (s : State) (t : Nat) (n : Nat),
    wellFormed (.hapticOvercurrent t n) = true →
    s.pwr.phase = ResetPhase.run →
    hapOn s n = true →
    Runs (.hapticOvercurrent t n) s (fun u => (getHap u n).drive = none ∧ (getHap u n).brake = none ∧ hapState u n = HK_IDLE ∧ u.out.contains (HostMsg.bridge n 0) = true ∧ u.mem = s.mem))

/-- VIN below 5.5 V starts a brown-out with its stamp; above 42 V the input switch opens with OVERVOLT; back in range both end; the end of the ride-through, PWR_EN low, a loss of PD0 switch everything off but what is non-volatile; with the start conditions met the power-up order begins. -/
def Obligations.PowerInput : Prop :=
  (∀ (s : State) (t : Nat) (vin store iin : Nat),
    wellFormed (.brownOut t vin store iin) = true →
    s.pwr.pd0 = true →
    vin < 5500 →
    flag s PWR_STATUS.BROWNOUT = false →
    Runs (.brownOut t vin store iin) s (fun u => flag u PWR_STATUS.BROWNOUT = true ∧ u.pwr.rideAt = some (if s.time.run then some (now (begin t s)) else none) ∧ rdF u PWR_STATUS.VIN_MV = vin ∧ rdF u PWR_STATUS.STORE = min (store / 250) 255 ∧ rdF u PWR_IIN.IIN_MA = min iin 65535 ∧ u.mem = s.mem ∧ u.dsp = s.dsp)) ∧
  (∀ (s : State) (t : Nat) (vin store iin : Nat),
    wellFormed (.overvoltage t vin store iin) = true →
    s.pwr.pd0 = true →
    42000 < vin →
    Runs (.overvoltage t vin store iin) s (fun u => u.pwr.openSwitch = true ∧ flag u PWR_STATUS.OVERVOLT = true ∧ flag u PWR_STATUS.BROWNOUT = true ∧ u.mem = s.mem)) ∧
  (∀ (s : State) (t : Nat) (vin store iin : Nat) (r : Option Nat),
    wellFormed (.vinRecovered t vin store iin) = true →
    s.pwr.pd0 = true →
    6000 ≤ vin →
    vin ≤ 40000 →
    flag s PWR_STATUS.BROWNOUT = true →
    s.pwr.rideAt = some r →
    Runs (.vinRecovered t vin store iin) s (fun u => u.pwr.openSwitch = false ∧ flag u PWR_STATUS.OVERVOLT = false ∧ flag u PWR_STATUS.BROWNOUT = false ∧ u.pwr.rideAt = none ∧ rdF u PWR_BO_COUNT.COUNT = min (rdF s PWR_BO_COUNT.COUNT + 1) (2 ^ 32 - 1) ∧ u.mem = s.mem)) ∧
  (∀ (s : State) (t : Nat) (r : Option Nat),
    wellFormed (.rideThroughExpiry t) = true →
    s.pwr.pd0 = true →
    s.pwr.phase = ResetPhase.run →
    s.pwr.rideAt = some r →
    flag s PWR_STATUS.BROWNOUT = true →
    (r.all (fun (x : Nat) => decide (x + 10000000 ≤ now (begin t s))) = true) →
    Runs (.rideThroughExpiry t) s (fun u => u.pwr.phase = ResetPhase.held ∧ rdF u PWR_STATUS.RESET_CAUSE = 3 ∧ (List.range 14).all (fun d => decide (d = 0) || !(domainGood u d)) = true ∧ u.time.run = false ∧ u.flash = (flashCut (begin t s)).flash ∧ u.otp = s.otp ∧ u.boot.store0 = (flashCut (begin t s)).boot.store0 ∧ u.boot.store1 = (flashCut (begin t s)).boot.store1)) ∧
  (∀ (s : State) (t : Nat),
    wellFormed (.pwrEnLow t) = true →
    s.pwr.pd0 = true →
    s.pwr.phase = ResetPhase.run →
    Runs (.pwrEnLow t) s (fun u => u.pwr.pwrEn = false ∧ u.pwr.phase = ResetPhase.held ∧ rdF u PWR_STATUS.RESET_CAUSE = 1 ∧ (List.range 14).all (fun d => decide (d = 0) || !(domainGood u d)) = true ∧ u.time.run = false ∧ u.flash = (flashCut (begin t s)).flash ∧ u.otp = s.otp ∧ u.boot.store0 = (flashCut (begin t s)).boot.store0 ∧ u.boot.store1 = (flashCut (begin t s)).boot.store1)) ∧
  (∀ (s : State) (t : Nat) (vin store iin : Nat),
    wellFormed (.pd0PowerLoss t vin store iin) = true →
    s.pwr.pd0 = true →
    vin < 5200 →
    store < 9000 →
    Runs (.pd0PowerLoss t vin store iin) s (fun u => u.pwr.pd0 = false ∧ rd u .PWR_DOMAIN = 0 ∧ u.flash = (flashCut (begin t s)).flash ∧ u.otp = s.otp ∧ u.boot.store0 = (flashCut (begin t s)).boot.store0 ∧ u.boot.store1 = (flashCut (begin t s)).boot.store1)) ∧
  (∀ (s : State) (t : Nat) (vin store iin : Nat),
    wellFormed (.pd0PowerUp t vin store iin) = true →
    s.pwr.pd0 = false →
    5800 ≤ vin ∨ 9000 < store →
    Runs (.pd0PowerUp t vin store iin) s (fun u => u.pwr.pd0 = true ∧ bit (rd u .PWR_DOMAIN).toNat 0 = true ∧ rdF u PWR_STATUS.VIN_MV = min vin 65535 ∧ u.flash = s.flash ∧ u.otp = s.otp ∧ u.boot.store0 = s.boot.store0 ∧ u.boot.store1 = s.boot.store1)) ∧
  (∀ (s : State) (t : Nat) (vin store iin : Nat),
    wellFormed (.pwrEnRise t vin store iin) = true →
    flag s PWR_STATUS.BROWNOUT = false →
    6000 ≤ vin →
    vin ≤ 40000 →
    34000 ≤ store →
    s.pwr.pd0 = true →
    s.pwr.phase = ResetPhase.held →
    s.pwr.kept = false →
    s.pwr.seq = [] →
    s.pwr.hot = false →
    s.pwr.openSwitch = false →
    Runs (.pwrEnRise t vin store iin) s (fun u => u.pwr.pwrEn = true ∧ u.pwr.phase = ResetPhase.held ∧ u.pwr.seq = [1, 2, 4, 5, 3, 6, 12] ∧ u.pwr.rising = [] ∧ rdF u PWR_STATUS.VIN_MV = vin)) ∧
  (∀ (s : State) (t : Nat) (vin store iin : Nat),
    wellFormed (.startAllowed t vin store iin) = true →
    flag s PWR_STATUS.BROWNOUT = false →
    6000 ≤ vin →
    vin ≤ 40000 →
    34000 ≤ store →
    s.pwr.pd0 = true →
    s.pwr.phase = ResetPhase.held →
    s.pwr.kept = false →
    s.pwr.seq = [] →
    s.pwr.hot = false →
    s.pwr.openSwitch = false →
    s.pwr.pwrEn = true →
    Runs (.startAllowed t vin store iin) s (fun u => u.pwr.phase = ResetPhase.held ∧ u.pwr.seq = [1, 2, 4, 5, 3, 6, 12] ∧ u.pwr.rising = [] ∧ rdF u PWR_STATUS.VIN_MV = vin)) ∧
  (∀ (s : State) (t : Nat) (vin store iin : Nat),
    wellFormed (.thermalRecovery t vin store iin) = true →
    flag s PWR_STATUS.BROWNOUT = false →
    6000 ≤ vin →
    vin ≤ 40000 →
    34000 ≤ store →
    s.pwr.pd0 = true →
    s.pwr.phase = ResetPhase.held →
    s.pwr.kept = false →
    s.pwr.seq = [] →
    s.pwr.openSwitch = false →
    s.pwr.pwrEn = true →
    Runs (.thermalRecovery t vin store iin) s (fun u => u.pwr.hot = false ∧ u.pwr.phase = ResetPhase.held ∧ u.pwr.seq = [1, 2, 4, 5, 3, 6, 12] ∧ u.pwr.rising = [] ∧ rdF u PWR_STATUS.VIN_MV = vin))

/-- A domain that comes good is marked so and leaves the power-up order, PD1 releasing the first stage of the reset and PD2 the second; a reset of powered domains is released in the same two stages, and its second starts DTIME at 0; an idle render domain is gated; temperatures are reported, step the throttle and trip. The start fails: its reason is committed and a module reset with cause start retry begins, which resumes after PD1 where that is good. -/
def Obligations.PowerDomains : Prop :=
  (∀ (s : State) (t : Nat) (d : Nat),
    wellFormed (.domainGood t d) = true →
    s.pwr.pd0 = true →
    s.pwr.rising = [] →
    s.pwr.seq.head? = some d →
    d ≠ 2 →
    Runs (.domainGood t d) s (fun u => bit (rd u .PWR_DOMAIN).toNat d = true ∧ u.pwr.seq = s.pwr.seq.filter (fun (x : Nat) => decide (x ≠ d)) ∧ (d = 1 → u.pwr.phase = ResetPhase.first ∧ flag u CLK_STATUS.ROOT_LOCK = true) ∧ u.mem = s.mem)) ∧
  (∀ (s : State) (t : Nat),
    wellFormed (.domainGood t 2) = true →
    s.pwr.pd0 = true →
    s.pwr.rising = [] →
    s.pwr.seq.head? = some 2 →
    s.pwr.phase = ResetPhase.first →
    Runs (.domainGood t 2) s (fun u => bit (rd u .PWR_DOMAIN).toNat 2 = true ∧ u.pwr.phase = ResetPhase.run ∧ u.time.acc = 0 ∧ u.time.run = true)) ∧
  (∀ (s : State) (t : Nat),
    wellFormed (.resetStageRelease t) = true →
    s.pwr.pd0 = true →
    s.pwr.kept = true →
    s.pwr.phase = ResetPhase.held →
    Runs (.resetStageRelease t) s (fun u => u.pwr.phase = ResetPhase.first ∧ flag u CLK_STATUS.ROOT_LOCK = true ∧ u.mem = s.mem ∧ u.shl = s.shl)) ∧
  (∀ (s : State) (t : Nat),
    wellFormed (.resetStageRelease t) = true →
    s.pwr.pd0 = true →
    s.pwr.kept = true →
    s.pwr.phase = ResetPhase.first →
    domainGood s 2 = true →
    Runs (.resetStageRelease t) s (fun u => u.pwr.phase = ResetPhase.run ∧ u.time.acc = 0 ∧ u.time.run = true ∧ u.shl.retired = s.shl.retired)) ∧
  (∀ (s : State) (t : Nat) (d : Nat),
    wellFormed (.renderGateIdle t d) = true →
    s.pwr.phase = ResetPhase.run →
    flag s PWR_CTRL.RENDER_GATE = true →
    d = 10 ∨ d = 11 →
    domainBusy s (d - 10) = false →
    Sparse.get 0 s.rnd.idleSince (d - 10) + rdF s PWR_CTRL.GATE_IDLE_US * 1000 ≤ now (begin t s) →
    Runs (.renderGateIdle t d) s (fun u => bit (rd u .PWR_DOMAIN).toNat d = false ∧ RegsKept s u [.PWR_DOMAIN] ∧ u.mem = s.mem)) ∧
  (∀ (s : State) (t : Nat) (die : DieSensors) (tMod x : Int),
    wellFormed (.thermalSample t die tMod) = true →
    s.pwr.phase ≠ ResetPhase.held →
    dieHighest die = x →
    x < 115 →
    Runs (.thermalSample t die tMod) s (fun u => rdF u PWR_THERM.T_DIE = s8sat x ∧ rdF u PWR_THERM.T_MOD = s8sat tMod ∧ u.pwr.hotFault = false ∧ rdF u SHL_STATUS.SAFE_CAUSE = rdF s SHL_STATUS.SAFE_CAUSE ∧ u.mem = s.mem)) ∧
  (∀ (s : State) (t : Nat) (die : DieSensors) (tMod : Int),
    wellFormed (.thermalSample t die tMod) = true →
    s.pwr.phase ≠ ResetPhase.held →
    115 ≤ dieHighest die →
    s.pwr.hotFault = false →
    flag s SHL_STATUS.SAFE = false →
    Runs (.thermalSample t die tMod) s (fun u => flag u SHL_STATUS.SAFE = true ∧ rdF u SHL_STATUS.SAFE_CAUSE = 7)) ∧
  (∀ (s : State) (t : Nat) (die : DieSensors) (tMod : Int),
    wellFormed (.thermalSample t die tMod) = true →
    s.pwr.phase ≠ ResetPhase.held →
    ((rdF s PWR_THROTTLE.THROTTLE_C : Nat) : Int) ≤ dieHighest die →
    s.pwr.stepAt = none →
    rdF s PWR_THROTTLE.STEP < 5 →
    Runs (.thermalSample t die tMod) s (fun u => rdF u PWR_THROTTLE.STEP = rdF s PWR_THROTTLE.STEP + 1 ∧ u.pwr.stepAt = some (now (begin t s)))) ∧
  (∀ (s : State) (t : Nat) (tDie tMod : Int),
    wellFormed (.thermalTrip t tDie tMod) = true →
    s.pwr.pd0 = true →
    s.pwr.phase = ResetPhase.run →
    125 ≤ tDie ∨ 110 ≤ tMod →
    Runs (.thermalTrip t tDie tMod) s (fun u => u.pwr.hot = true ∧ u.pwr.phase = ResetPhase.held ∧ rdF u PWR_STATUS.RESET_CAUSE = 4 ∧ (List.range 14).all (fun d => decide (d = 0) || !(domainGood u d)) = true ∧ u.time.run = false ∧ u.flash = (flashCut (begin t s)).flash ∧ u.otp = s.otp ∧ u.boot.store0 = (flashCut (begin t s)).boot.store0 ∧ u.boot.store1 = (flashCut (begin t s)).boot.store1)) ∧
  (∀ (s : State) (t : Nat) (d : Nat),
    wellFormed (.domainGoodTimeout t d true) = true →
    s.pwr.pd0 = true →
    s.pwr.seq.head? = some d →
    s.pwr.phase ≠ ResetPhase.run →
    Runs (.domainGoodTimeout t d true) s (fun u => u.pwr.phase = ResetPhase.held ∧ u.pwr.kept = domainGood s 1 ∧ rdF u PWR_STATUS.RESET_CAUSE = 5 ∧ u.shl.moduleResets = s.shl.moduleResets + 1))

/-- A write with GO = 1 and KEY = 0x5EED starts a module reset with cause PWR_RESET whatever SETUP_LOCK and safe state say; one with any other KEY is discarded with an event log entry, which counts as dropped where the log's limit of information entries is reached. -/
def Obligations.ModuleResetWrite : Prop :=
  (∀ (s : State) (t : Nat) (v : Word),
    wellFormed (.pwrReset t v) = true →
    s.pwr.phase = ResetPhase.run →
    v.toNat % 65536 = 0x5EED →
    bit v.toNat 31 = true →
    Runs (.pwrReset t v) s (fun u => u.pwr.phase = ResetPhase.held ∧ rdF u PWR_STATUS.RESET_CAUSE = 2 ∧ u.time.run = false ∧ u.flash.a = s.flash.a ∧ u.flash.b = s.flash.b ∧ u.otp = s.otp ∧ u.boot.store0 = s.boot.store0 ∧ u.boot.store1 = s.boot.store1 ∧ u.shl.retired = s.shl.retired)) ∧
  (∀ (s : State) (t : Nat) (v : Word),
    wellFormed (.pwrReset t v) = true →
    s.pwr.phase = ResetPhase.run →
    v.toNat % 65536 ≠ 0x5EED →
    Runs (.pwrReset t v) s (fun u => (if infoFits (begin t s) 1 then rd u .SHL_LOG_HEAD = rd s .SHL_LOG_HEAD + 1 else rdF u SHL_LOG_DROP.COUNT = min (rdF s SHL_LOG_DROP.COUNT + 1) (2 ^ 32 - 1)) ∧ u.pwr = s.pwr ∧ u.mem = s.mem ∧ RegsKept s u [.SHL_LOG_HEAD, .SHL_LOG_DROP]))

/-- A conventional reset takes VF Enable and the interrupt tables away, once for triggers of one stamp; PERST_N low is seen, and remembered until it rises, also while a module reset holds the link; once it has risen in RUN, configuration requests are answered from 20 ms on. -/
def Obligations.HostResets : Prop :=
  (∀ (s : State) (t : Nat) (kind : Nat),
    wellFormed (.conventionalPcieReset t kind) = true →
    s.pwr.phase = ResetPhase.run →
    s.host.perst = false →
    s.host.convAt ≠ some (now (begin t s)) →
    Runs (.conventionalPcieReset t kind) s (fun u => u.host.vfEnable = false ∧ u.host.numVFs = 0 ∧ u.host.msix = [] ∧ u.host.msixPend = [] ∧ u.host.perst = decide (kind = 0) ∧ u.host.convAt = some (now (begin t s)) ∧ u.flash = s.flash)) ∧
  (∀ (s : State) (t : Nat),
    wellFormed (.conventionalPcieReset t 0) = true →
    Runs (.conventionalPcieReset t 0) s (fun u => u.host.perst = true ∧ u.shl.perstLow = s.pwr.pd0 ∧ u.flash = s.flash)) ∧
  (∀ (s : State) (t : Nat),
    wellFormed (.perstNRise t) = true →
    s.host.perst = true →
    s.pwr.phase ≠ ResetPhase.run →
    Runs (.perstNRise t) s (fun u => u.host.perst = false ∧ u.shl.perstLow = false ∧ u.mem = s.mem)) ∧
  (∀ (s : State) (t : Nat),
    wellFormed (.perstNRise t) = true →
    s.pwr.phase = ResetPhase.run →
    s.host.perst = true →
    Runs (.perstNRise t) s (fun u => u.host.perst = false ∧ u.shl.perstLow = false ∧ u.host.cfgFrom = max s.host.cfgFrom (now (begin t s) + 20000000) ∧ u.mem = s.mem))

/-- A start whose count stands below 3 starts the slot chosen, and without a valid image in either ends in Seedling mode with reason 3 and its count raised; each stage that passes leads to the next, LOADER to STAGING, STAGING to MEMORY, MEMORY to FIRMWARE, FIRMWARE to SETUP, and SETUP, once its section is loaded, to RUN; a stage that fails, the deadline, and a RETRY or SEEDLING request begin a module reset with cause start retry; a fault of the control cores in a start fails it; in RUN it counts as transient, loses the mailbox requests under way and restarts ingests, and the manager's command in progress, where its change was not taken, has the result ST_FAULT_TRANSIENT. -/
def Obligations.StartSteps : Prop :=
  (∀ (s : State) (t : Nat) (oks : List Bool),
    wellFormed (.bootStart t true oks) = true →
    s.pwr.phase = ResetPhase.run →
    stage s = 0 →
    s.boot.begun = false →
    (newest s).isSome = true →
    (record s).attempts < 3 →
    imageIn s.flash.a SLOT_OFS SLOT_SIZE = none →
    imageIn s.flash.b SLOT_OFS SLOT_SIZE = none →
    oks.getD 0 true = true →
    oks.getD 1 true = true →
    Runs (.bootStart t true oks) s (fun u => stage u = 7 ∧ flag u BOOT_STATUS.SEEDLING = true ∧ rdF u BOOT_REASON.REASON = 3 ∧ rdF u BOOT_STATUS.ATTEMPTS = (if 1 ≤ rdF s PWR_STATUS.RESET_CAUSE ∧ rdF s PWR_STATUS.RESET_CAUSE ≤ 4 then (record s).attempts - 1 else (record s).attempts) + 1 ∧ u.flash.a = s.flash.a ∧ u.flash.b = s.flash.b)) ∧
  (∀ (s : State) (t : Nat) (oks : List Bool),
    wellFormed (.bootStart t true oks) = true →
    s.pwr.phase = ResetPhase.run →
    stage s = 0 →
    s.boot.begun = false →
    (newest s).isSome = true →
    (record s).attempts < 3 →
    oks.getD 0 true = true →
    oks.getD 1 true = true →
    Runs (.bootStart t true oks) s (fun u => ((chooseSlot s (romRecord s (record s)).1.slot).isSome = true → stage u = 1 ∧ rdF u BOOT_STATUS.SLOT = (chooseSlot s (romRecord s (record s)).1.slot).getD 0 % 2 ∧ flag u BOOT_STATUS.SEEDLING = flag s BOOT_STATUS.SEEDLING) ∧ (chooseSlot s (romRecord s (record s)).1.slot = none → stage u = 7 ∧ flag u BOOT_STATUS.SEEDLING = true ∧ rdF u BOOT_REASON.REASON = 3) ∧ u.boot.begun = true ∧ flag u ID_STATUS.KEY = s.otp.key ∧ flag u CLK_STATUS.ROOT_LOCK = true ∧ u.flash.a = s.flash.a ∧ u.flash.b = s.flash.b)) ∧
  (∀ (s : State) (t : Nat) (oks : List Bool),
    wellFormed (.bootStart t false oks) = true →
    s.pwr.phase = ResetPhase.run →
    stage s = 0 →
    s.boot.begun = false →
    oks.getD 0 true = true →
    Runs (.bootStart t false oks) s (fun u => u.pwr.phase = ResetPhase.held ∧ rdF u PWR_STATUS.RESET_CAUSE = 5 ∧ u.flash.a = s.flash.a ∧ u.flash.b = s.flash.b ∧ u.otp = s.otp)) ∧
  (∀ (s : State) (t : Nat) (o : BootOutcome),
    wellFormed (.bootStageComplete t o) = true →
    s.pwr.phase = ResetPhase.run →
    stage s = 1 →
    o.selfTest = true →
    Runs (.bootStageComplete t o) s (fun u => stage u = 2 ∧ flag u ID_STATUS.CERT = certGood s ∧ u.shl.firmware = Config.shallotImage ((imageIn (slotFlash s (rdF s BOOT_STATUS.SLOT)) SLOT_OFS SLOT_SIZE).getD []) ∧ u.mem = s.mem)) ∧
  (∀ (s : State) (t : Nat) (o : BootOutcome),
    wellFormed (.bootStageComplete t o) = true →
    s.pwr.phase = ResetPhase.run →
    stage s = 1 →
    o.selfTest = false →
    o.store.getD 0 true = true →
    Runs (.bootStageComplete t o) s (fun u => u.pwr.phase = ResetPhase.held ∧ rdF u PWR_STATUS.RESET_CAUSE = 5 ∧ u.flash.a = s.flash.a ∧ u.flash.b = s.flash.b ∧ u.otp = s.otp)) ∧
  (∀ (s : State) (t : Nat) (o : BootOutcome),
    wellFormed (.bootStageComplete t o) = true →
    s.pwr.phase = ResetPhase.run →
    stage s = 2 →
    (record s).staged = 0 →
    Runs (.bootStageComplete t o) s (fun u => stage u = 3 ∧ u.flash = s.flash ∧ u.boot.copyNs = s.boot.copyNs + o.copyNs)) ∧
  (∀ (s : State) (t : Nat) (o : BootOutcome),
    wellFormed (.bootStageComplete t o) = true →
    s.pwr.phase = ResetPhase.run →
    stage s = 3 →
    ((List.range 4).all (fun c => !(trainsInFull o s c) || fullTraining o c) = true) →
    o.store.getD 0 true = true →
    Runs (.bootStageComplete t o) s (fun u => stage u = 4 ∧ u.mem.bytes = [] ∧ (∀ c : Nat, c < 4 → memState u c = CH_ACTIVE) ∧ u.flash.a = s.flash.a ∧ u.flash.b = s.flash.b)) ∧
  (∀ (s : State) (t : Nat) (o : BootOutcome),
    wellFormed (.bootStageComplete t o) = true →
    s.pwr.phase = ResetPhase.run →
    stage s = 3 →
    ((List.range 4).any (fun c => trainsInFull o s c && !(fullTraining o c)) = true) →
    o.store.getD 0 true = true →
    Runs (.bootStageComplete t o) s (fun u => u.pwr.phase = ResetPhase.held ∧ rdF u PWR_STATUS.RESET_CAUSE = 5 ∧ u.flash.a = s.flash.a ∧ u.flash.b = s.flash.b ∧ u.otp = s.otp)) ∧
  (∀ (s : State) (t : Nat) (o : BootOutcome),
    wellFormed (.bootStageComplete t o) = true →
    s.pwr.phase = ResetPhase.run →
    stage s = 4 →
    o.store.getD 0 true = true →
    Runs (.bootStageComplete t o) s (fun u => (validIn s s.flash.a FW_OFS FW_SIZE 2 = none → u.pwr.phase = ResetPhase.held ∧ rdF u PWR_STATUS.RESET_CAUSE = 5 ∧ u.flash.a = s.flash.a ∧ u.flash.b = s.flash.b ∧ u.otp = s.otp) ∧ ((validIn s s.flash.a FW_OFS FW_SIZE 2).isSome = true → stage u = 5 ∧ u.boot.svnMain = imageSvn ((validIn s s.flash.a FW_OFS FW_SIZE 2).getD []) ∧ u.mem.bytes = (writeMem s FW_LOAD ((validIn s s.flash.a FW_OFS FW_SIZE 2).getD [])).mem.bytes))) ∧
  (∀ (s : State) (t : Nat) (o : BootOutcome),
    wellFormed (.bootStageComplete t o) = true →
    s.pwr.phase = ResetPhase.run →
    stage s = 5 →
    s.boot.setupDone = false →
    imageIn s.flash.a BLOB_OFS BLOB_SIZE = none →
    o.store.getD 0 true = true →
    Runs (.bootStageComplete t o) s (fun u => u.pwr.phase = ResetPhase.held ∧ rdF u PWR_STATUS.RESET_CAUSE = 5 ∧ u.flash.a = s.flash.a ∧ u.flash.b = s.flash.b ∧ u.otp = s.otp)) ∧
  (∀ (s : State) (t : Nat) (o : BootOutcome),
    wellFormed (.bootStageComplete t o) = true →
    s.pwr.phase = ResetPhase.run →
    stage s = 5 →
    s.boot.setupDone = false →
    o.store.getD 0 true = true →
    (imageIn s.flash.a BLOB_OFS BLOB_SIZE).isSome = true →
    Runs (.bootStageComplete t o) s (fun u => (s.boot.blobDigest ≠ some (Config.sha384 ((imageIn s.flash.a BLOB_OFS BLOB_SIZE).getD [])) → u.pwr.phase = ResetPhase.held ∧ rdF u PWR_STATUS.RESET_CAUSE = 5 ∧ u.flash.a = s.flash.a ∧ u.flash.b = s.flash.b ∧ u.otp = s.otp))) ∧
  (∀ (s : State) (t : Nat) (o : BootOutcome),
    wellFormed (.bootStageComplete t o) = true →
    s.pwr.phase = ResetPhase.run →
    stage s = 5 →
    s.boot.setupDone = false →
    o.store.getD 0 true = true →
    (imageIn s.flash.a BLOB_OFS BLOB_SIZE).isSome = true →
    Runs (.bootStageComplete t o) s (fun u => (s.boot.blobDigest = some (Config.sha384 ((imageIn s.flash.a BLOB_OFS BLOB_SIZE).getD [])) ∧ sectionOk s (Config.parseBlob (imageBody ((imageIn s.flash.a BLOB_OFS BLOB_SIZE).getD []))).shallot = false → u.pwr.phase = ResetPhase.held ∧ rdF u PWR_STATUS.RESET_CAUSE = 5 ∧ u.flash.a = s.flash.a ∧ u.flash.b = s.flash.b ∧ u.otp = s.otp))) ∧
  (∀ (s : State) (t : Nat) (o : BootOutcome),
    wellFormed (.bootStageComplete t o) = true →
    s.pwr.phase = ResetPhase.run →
    stage s = 5 →
    s.boot.setupDone = false →
    o.store.getD 0 true = true →
    (imageIn s.flash.a BLOB_OFS BLOB_SIZE).isSome = true →
    Runs (.bootStageComplete t o) s (fun u => (s.boot.blobDigest = some (Config.sha384 ((imageIn s.flash.a BLOB_OFS BLOB_SIZE).getD [])) ∧ sectionOk s (Config.parseBlob (imageBody ((imageIn s.flash.a BLOB_OFS BLOB_SIZE).getD []))).shallot = true ∧ (record s).mgmt = ofBytes (areaBytes (Config.parseBlob (imageBody ((imageIn s.flash.a BLOB_OFS BLOB_SIZE).getD []))).mgmt 0 96) → stage u = 5 ∧ u.boot.setupDone = true ∧ flag u SHL_STATUS.LOADED = true))) ∧
  (∀ (s : State) (t : Nat) (o : BootOutcome),
    wellFormed (.bootStageComplete t o) = true →
    s.pwr.phase = ResetPhase.run →
    stage s = 5 →
    s.boot.setupDone = true →
    o.store.getD 0 true = true →
    (imageIn s.flash.a BLOB_OFS BLOB_SIZE).isSome = true →
    Runs (.bootStageComplete t o) s (fun u => stage u = 6)) ∧
  (∀ (s : State) (t : Nat),
    wellFormed (.startDeadline t true) = true →
    s.pwr.phase = ResetPhase.run →
    starting s = true →
    3000000000 + s.boot.copyNs ≤ now (begin t s) →
    Runs (.startDeadline t true) s (fun u => u.pwr.phase = ResetPhase.held ∧ rdF u PWR_STATUS.RESET_CAUSE = 5 ∧ u.flash.a = s.flash.a ∧ u.flash.b = s.flash.b ∧ u.otp = s.otp)) ∧
  (∀ (s : State) (t : Nat) (v : Word),
    wellFormed (.retry t v true) = true →
    s.pwr.phase = ResetPhase.run →
    v.toNat % 65536 = 0x5EED →
    bit v.toNat 31 = true →
    bit v.toNat 30 = false →
    Runs (.retry t v true) s (fun u => u.pwr.phase = ResetPhase.held ∧ rdF u PWR_STATUS.RESET_CAUSE = 5 ∧ u.flash.a = s.flash.a ∧ u.flash.b = s.flash.b ∧ u.otp = s.otp)) ∧
  (∀ (s : State) (t : Nat) (v : Word),
    wellFormed (.seedling t v true) = true →
    s.pwr.phase = ResetPhase.run →
    v.toNat % 65536 = 0x5EED →
    bit v.toNat 30 = true →
    bit v.toNat 31 = false →
    updState s ≠ INSTALLING →
    Runs (.seedling t v true) s (fun u => u.pwr.phase = ResetPhase.held ∧ rdF u PWR_STATUS.RESET_CAUSE = 5 ∧ u.flash.a = s.flash.a ∧ u.flash.b = s.flash.b ∧ u.otp = s.otp)) ∧
  (∀ (s : State) (t : Nat) (v : Word) (ok : Bool),
    wellFormed (.seedling t v ok) = true →
    s.pwr.phase = ResetPhase.run →
    v.toNat % 65536 = 0x5EED →
    bit v.toNat 30 = true →
    bit v.toNat 31 = false →
    updState s = INSTALLING →
    Runs (.seedling t v ok) s (fun u => u.upd.seedling = true ∧ RegsKept s u [] ∧ u.boot = s.boot)) ∧
  (∀ (s : State) (t : Nat) (ok : Bool) (n : Nat),
    wellFormed (.controlCoreWdExpiry t ok true) = true →
    s.pwr.phase = ResetPhase.run →
    rdF s BOOT_STATUS.STAGE = 6 →
    isRetired s U_CORES 0 = false →
    Runs (.controlCoreWdExpiry t ok true) s (fun u => rdF u SHL_TRANSIENT_TOTAL.COUNT = min (rdF s SHL_TRANSIENT_TOTAL.COUNT + 1) (2 ^ 32 - 1) ∧ (getInst u n).mbReq.all (fun (r : MbReq) => r.lost) = true ∧ u.rnd.ingests = s.rnd.ingests.map (fun (i : Ingest) => { i with startedAt := i.startedAt.map (fun (_ : Nat) => now (begin t s)) }) ∧ (∀ h : Nat, h < 12 → (getHead u h).lastFirst = false) ∧ u.dsp.active = s.dsp.active ∧ u.mem = s.mem ∧ u.fab.batch = s.fab.batch)) ∧
  (∀ (s : State) (t : Nat) (taken : Bool),
    wellFormed (.controlCoreWdExpiry t true taken) = true →
    s.pwr.phase = ResetPhase.run →
    1 ≤ stage s →
    starting s = true →
    Runs (.controlCoreWdExpiry t true taken) s (fun u => u.pwr.phase = ResetPhase.held ∧ rdF u PWR_STATUS.RESET_CAUSE = 5 ∧ u.flash.a = s.flash.a ∧ u.flash.b = s.flash.b ∧ u.otp = s.otp)) ∧
  (∀ (s : State) (t : Nat) (ok : Bool) (b : Batch) (c d : Rec32) (rest : List Rec32),
    wellFormed (.controlCoreWdExpiry t ok false) = true →
    s.pwr.phase = ResetPhase.run →
    rdF s BOOT_STATUS.STAGE = 6 →
    s.fab.batch = some b →
    b.current = none →
    b.todo = c :: d :: rest →
    knownCommand (cOpcode d) = true →
    Runs (.controlCoreWdExpiry t ok false) s (fun u => u.fab.batch = some { b with todo := d :: rest, wait := .none, results := b.results ++ [commandResult c ST_FAULT_TRANSIENT (genOf s (cInstance c)) (nextJseq s) (now (begin t s))] }))

/-- BEGIN drops what was kept and enters RECEIVING, CANCEL enters IDLE; a transfer in order reads the host and its failure is ST_NOT_OWNER; a manifest delivered again is ST_OK; INSTALL enters INSTALLING and writes every component to its target where all of them are good, and none where the first is bad; an install whose components and writes are good ends INSTALLED, one with a bad component COMPLETE with ST_BAD_DESC, one whose writes fail COMPLETE with ST_FAULT_TRANSIENT. -/
def Obligations.FieldUpdate : Prop :=
  (∀ (s : State) (t : Nat) (src : Nat),
    wellFormed (.updBegin t src true) = true →
    s.pwr.phase = ResetPhase.run →
    updState s ≠ INSTALLING →
    Runs (.updBegin t src true) s (fun u => updState u = RECEIVING ∧ rdF u UPD_STATUS.RESULT = ST_OK ∧ rdF u UPD_STATUS.SRC = src % 2 ∧ rdF u UPD_STATUS.KEPT = 0 ∧ u.upd.manifest = none ∧ u.upd.kept = [] ∧ u.flash.a = s.flash.a ∧ u.flash.b = s.flash.b)) ∧
  (∀ (s : State) (t : Nat),
    wellFormed (.updCancel t true) = true →
    s.pwr.phase = ResetPhase.run →
    updState s ≠ INSTALLING →
    Runs (.updCancel t true) s (fun u => updState u = U_IDLE ∧ rdF u UPD_STATUS.KEPT = 0 ∧ u.upd.manifest = none ∧ u.flash.a = s.flash.a ∧ u.flash.b = s.flash.b)) ∧
  (∀ (s : State) (t : Nat) (v : Word) (i len : Nat),
    wellFormed (.updXfer t v) = true →
    s.pwr.phase = ResetPhase.run →
    bitsOf v.toNat 26 17 = i →
    bitsOf v.toNat 16 0 = len →
    bit v.toNat 31 = true →
    i ≤ 767 →
    1 ≤ len →
    len ≤ 65536 →
    i = 0 ∨ len = 65536 →
    rdF s UPD_XFER_RESULT.RESULT ≠ 0xFF →
    updState s = RECEIVING →
    flag s UPD_STATUS.SRC = false →
    Runs (.updXfer t v) s (fun u => u.upd.xfer = some (i, len, rd64 s .UPD_XFER_ADDR_LO .UPD_XFER_ADDR_HI) ∧ rdF u UPD_XFER_RESULT.RESULT = 0xFF ∧ u.out = [HostMsg.hostRead 0 none (rd64 s .UPD_XFER_ADDR_LO .UPD_XFER_ADDR_HI) len] ∧ RegsKept s u [.UPD_XFER, .UPD_XFER_RESULT])) ∧
  (∀ (s : State) (t : Nat) (data : List Byte) (progOk ok : Bool),
    wellFormed (.updXferComplete t data false progOk ok) = true →
    s.pwr.phase = ResetPhase.run →
    s.upd.xfer.isSome = true →
    Runs (.updXferComplete t data false progOk ok) s (fun u => u.upd.xfer = none ∧ rdF u UPD_XFER_RESULT.RESULT = ST_NOT_OWNER ∧ RegsKept s u [.UPD_XFER_RESULT] ∧ u.flash = s.flash)) ∧
  (∀ (s : State) (t : Nat) (data : List Byte) (progOk ok : Bool) (len a : Nat),
    wellFormed (.updXferComplete t data true progOk ok) = true →
    s.pwr.phase = ResetPhase.run →
    s.upd.xfer = some (0, len, a) →
    data.length = len →
    updState s = RECEIVING →
    flag s UPD_STATUS.SRC = false →
    s.upd.manifest.isSome = true →
    Runs (.updXferComplete t data true progOk ok) s (fun u => u.upd.xfer = none ∧ rdF u UPD_XFER_RESULT.RESULT = ST_OK ∧ u.upd.manifest = s.upd.manifest ∧ u.flash = s.flash)) ∧
  (∀ (s : State) (t : Nat) (m : List Byte),
    wellFormed (.updInstall t) = true →
    s.pwr.phase = ResetPhase.run →
    updState s = COMPLETE →
    s.upd.manifest = some m →
    ((mfComponents m).all (fun (c : Component) => decide (c.len ≤ targetSize c.type)) = true) →
    Runs (.updInstall t) s (fun u => updState u = INSTALLING ∧ u.upd.manifest = some m ∧ ((mfComponents m).all (componentGood s) = true → u.flash = ((mfComponents m).foldl (fun (x : State) c => writeTarget c (componentBytes s c) x) (begin t s)).flash) ∧ (((mfComponents m).head?.all (componentGood s)) = false → u.flash = s.flash) ∧ u.boot = s.boot)) ∧
  (∀ (s : State) (t : Nat) (m : List Byte) (progOk : Bool),
    wellFormed (.installComplete t progOk true) = true →
    s.pwr.phase = ResetPhase.run →
    updState s = INSTALLING →
    s.upd.manifest = some m →
    s.upd.seedling = false →
    Runs (.installComplete t progOk true) s (fun u => ((mfComponents m).all (componentGood s) = true → updState u = (if progOk then INSTALLED else COMPLETE) ∧ rdF u UPD_STATUS.RESULT = (if progOk then ST_OK else ST_FAULT_TRANSIENT)) ∧ ((mfComponents m).all (componentGood s) = false → updState u = COMPLETE ∧ rdF u UPD_STATUS.RESULT = ST_BAD_DESC) ∧ u.flash.a = s.flash.a ∧ u.flash.b = s.flash.b))

/-- A POST of the server starts a CoAP update with 2.04 from any state but an install and a PF update, and one against those is 4.09; a full block, which came after so many retransmissions, asks for the next; an exchange that no answer ends, its GET retransmitted 4 times, waits, and is asked again after RETRY_S; a GET of health is answered with the record. -/
def Obligations.ManagementPort : Prop :=
  (∀ (s : State) (t : Nat),
    wellFormed (.coapUpdateStart t true true) = true →
    s.pwr.phase = ResetPhase.run →
    mgmtLive s = true →
    updState s ≠ INSTALLING →
    (updState s = RECEIVING → flag s UPD_STATUS.SRC = true) →
    Runs (.coapUpdateStart t true true) s (fun u => updState u = RECEIVING ∧ flag u UPD_STATUS.SRC = true ∧ u.out.contains (HostMsg.coap none COAP_CHANGED 0 []) = true ∧ u.upd.manifest = none ∧ u.flash.a = s.flash.a ∧ u.flash.b = s.flash.b)) ∧
  (∀ (s : State) (t : Nat) (ok : Bool),
    wellFormed (.coapUpdateStart t true ok) = true →
    s.pwr.phase = ResetPhase.run →
    mgmtLive s = true →
    updState s = INSTALLING ∨ updState s = RECEIVING ∧ flag s UPD_STATUS.SRC = false →
    Runs (.coapUpdateStart t true ok) s (fun u => u.out = [HostMsg.coap none COAP_CONFLICT 0 []] ∧ RegsKept s u [] ∧ u.upd = s.upd)) ∧
  (∀ (s : State) (t : Nat) (data : List Byte) (resent : Nat) (progOk ok : Bool) (x : Exchange),
    wellFormed (.coapResponse t data true { good := true, resent := resent } progOk ok) = true →
    s.pwr.phase = ResetPhase.run →
    s.upd.coap = some x →
    x.failedAt = none →
    data.length = 1024 →
    x.block < 63 →
    Runs (.coapResponse t data true { good := true, resent := resent } progOk ok) s (fun u => u.upd.coap = some { x with got := x.got ++ data, block := x.block + 1 } ∧ u.out = List.replicate (min resent 4) (HostMsg.coap (some (server s)) COAP_GET x.block (resource s x.index)) ++ [HostMsg.coap (some (server s)) COAP_GET (x.block + 1) (resource s x.index)] ∧ RegsKept s u [] ∧ u.flash = s.flash)) ∧
  (∀ (s : State) (t : Nat) (x : Exchange),
    wellFormed (.coapExchangeTimeout t) = true →
    s.pwr.phase = ResetPhase.run →
    s.upd.coap = some x →
    x.failedAt = none →
    Runs (.coapExchangeTimeout t) s (fun u => u.upd.coap = some { x with failedAt := some (now (begin t s)) } ∧ u.out = List.replicate 4 (HostMsg.coap (some (server s)) COAP_GET x.block (resource s x.index)) ∧ RegsKept s u [] ∧ u.flash = s.flash)) ∧
  (∀ (s : State) (t : Nat) (x : Exchange) (f : Nat),
    wellFormed (.coapRetry t) = true →
    s.pwr.phase = ResetPhase.run →
    s.upd.coap = some x →
    x.failedAt = some f →
    f + rdF s UPD_COAP.RETRY_S * 1000000000 ≤ now (begin t s) →
    Runs (.coapRetry t) s (fun u => u.upd.coap = some { x with failedAt := none } ∧ u.out = [HostMsg.coap (some (server s)) COAP_GET x.block (resource s x.index)] ∧ RegsKept s u [])) ∧
  (∀ (s : State) (t : Nat),
    wellFormed (.coapHealthGet t) = true →
    s.pwr.phase = ResetPhase.run →
    mgmtLive s = true →
    Runs (.coapHealthGet t) s (fun u => u.out = [HostMsg.coap none COAP_CONTENT 42 ((healthRecord (begin t s)).map (fun (b : Byte) => b.toNat))] ∧ RegsKept s u [] ∧ u.upd = s.upd))

/-- An ID_CTRL operation with none running sets RESULT to 0xFF and sends its output by DMA to ID_OUT_ADDR with the PF's requester ID; its end sets RESULT to ST_OK, or to ST_NOT_OWNER where the host write failed. -/
def Obligations.Attestation : Prop :=
  (∀ (s : State) (t : Nat),
    wellFormed (.quote t) = true →
    s.pwr.phase = ResetPhase.run →
    rdF s ID_CTRL.RESULT ≠ 0xFF →
    Runs (.quote t) s (fun u => rdF u ID_CTRL.RESULT = 0xFF ∧ rdF u ID_CTRL.OP = 0 ∧ u.out = [HostMsg.dma 0 none (rd64 s .ID_OUT_ADDR_LO .ID_OUT_ADDR_HI) (quoteBytes (begin t s))] ∧ RegsKept s u [.ID_CTRL] ∧ u.boot = s.boot)) ∧
  (∀ (s : State) (t : Nat),
    wellFormed (.certs t) = true →
    s.pwr.phase = ResetPhase.run →
    rdF s ID_CTRL.RESULT ≠ 0xFF →
    Runs (.certs t) s (fun u => rdF u ID_CTRL.RESULT = 0xFF ∧ rdF u ID_CTRL.OP = 1 ∧ u.out = [HostMsg.dma 0 none (rd64 s .ID_OUT_ADDR_LO .ID_OUT_ADDR_HI) (certBytes (begin t s))] ∧ RegsKept s u [.ID_CTRL] ∧ u.boot = s.boot)) ∧
  (∀ (s : State) (t : Nat) (ok : Bool),
    wellFormed (.attestComplete t ok) = true →
    s.pwr.phase = ResetPhase.run →
    rdF s ID_CTRL.RESULT = 0xFF →
    Runs (.attestComplete t ok) s (fun u => rdF u ID_CTRL.RESULT = (if ok then ST_OK else ST_NOT_OWNER) ∧ RegsKept s u [.ID_CTRL] ∧ u.boot = s.boot))

/-- For every command, queue and state: a step of a state with the command at the front of its queue is exec of it on the state with the queue's rest. -/
def Obligations.StepRunsFront : Prop :=
  ∀ (s : State) (c : Instr) (rest : List Instr),
    step { s with pending := c :: rest } = exec c { s with pending := rest }

/-- On an empty queue a step answers a state in which the accumulator has taken TIME_INC where module reset has released it, and nothing else has changed. That an idle step is one FCLK cycle is the model's choice (log entry 1). -/
def Obligations.IdleStep : Prop :=
  ∀ (s : State),
    s.pending = [] →
    ∃ u, step s = .next u ∧ u.time.acc = (if s.time.run then s.time.acc + s.time.inc else s.time.acc) ∧ { u with time := s.time } = s

/-- The queue is empty, every register holds the reset value of its table, the accumulator is 0 and TIME_INC nominal, SETUP_LOCK is clear, every tenant is ABSENT, and memory and SHL_ALERT have the forms that steps keep. Reset values that the spec does not give are the model's (NOTES.md, Assumptions). -/
def Obligations.ResetState : Prop :=
  (State.reset.pending = [] ∧ State.reset.time.acc = 0 ∧ State.reset.time.inc = 0x138800000 ∧ locked State.reset = false ∧ Memory.wf State.reset.mem = true ∧ AlertShown State.reset) ∧
  (∀ (r : Reg),
    rd State.reset r = r.reset) ∧
  (∀ (h : Nat),
    rdF State.reset (HD_HTIM.HTOTAL h) = 0x1130 ∧ rdF State.reset (HD_HTIM.HACT h) = 0xF00 ∧ rdF State.reset (HD_VTIM.VTOTAL h) = 0x8CA ∧ rdF State.reset (HD_VTIM.VACT h) = 0x870) ∧
  (∀ (n : Nat),
    1 ≤ n →
    n ≤ 256 →
    instState State.reset n = ABSENT)

/-- Whatever command acts, or none: where SHL_ALERT.CAUSE shows exactly the causes that hold (or no register has left its reset value yet), it does so in the next state. -/
def Obligations.AlertKept : Prop :=
  ∀ (s u : State),
    AlertShown s →
    step s = .next u →
    AlertShown u

/-- No command of the table ends in a fault or a refusal, in any state. -/
def Obligations.EveryCommandAnswers : Prop :=
  ∀ (c : Instr) (s : State),
    ∃ u, exec c s = .next u

/-- After a write of any register's fields, each bit of an RW field is the one written, of an LK field too until SETUP_LOCK and the old one after it, of a W1C field the old one where 0 was written and 0 else, of a W1S field the old one or 1 where 1 was written, of an RO, WO or RC field the old one; a reserved bit keeps what it held. -/
def Obligations.FieldWrites : Prop :=
  (∀ (lk : Bool) (r : Reg) (f : FieldSpec) (old v i : Nat),
    f ∈ r.fields →
    f.lo ≤ i →
    i ≤ f.hi →
    (fieldWrite lk r.fields old v).testBit i = (match f.acc with | .rw => v.testBit i | .lk => if lk then old.testBit i else v.testBit i | .w1c => old.testBit i && !(v.testBit i) | .w1s => old.testBit i || v.testBit i | .ro => old.testBit i | .wo => old.testBit i | .rc => old.testBit i)) ∧
  (∀ (lk : Bool) (r : Reg) (old v i : Nat),
    (r.fields.all (fun (f : FieldSpec) => decide (i < f.lo ∨ f.hi < i)) = true) →
    (fieldWrite lk r.fields old v).testBit i = old.testBit i)

/-- Of a list of conditions with their codes, the code reported is that of some condition that applies, no applicable code other than ST_OK is lower, and it is ST_OK exactly where none applies. -/
def Obligations.LowestStatus : Prop :=
  (∀ (cs : List (Bool × Nat)),
    pickStatus cs = ST_OK ↔ ∀ c ∈ cs, c.1 = true → c.2 = ST_OK) ∧
  (∀ (cs : List (Bool × Nat)) (c : Bool × Nat),
    c ∈ cs →
    c.1 = true →
    c.2 ≠ ST_OK →
    pickStatus cs ≠ ST_OK ∧ pickStatus cs ≤ c.2) ∧
  (∀ (cs : List (Bool × Nat)),
    pickStatus cs ≠ ST_OK →
    (true, pickStatus cs) ∈ cs)
end

