-- ==== Sys2Proof/Laws/Sparse.lean ====
section
/-! SUPPORT. Laws of sparse data: what a read after a write answers, and that every operation keeps the canonical form. -/

namespace Sys2Proof.Machine

variable {α : Type}

theorem Sparse.get_of_all_ne (d : α) (m : Sparse α) (k : Nat) (h : ∀ p ∈ m, p.1 ≠ k) : Sparse.get d m k = d := by
  induction m with
  | nil => rfl
  | cons p m ih =>
    obtain ⟨j, v⟩ := p
    have hj : j ≠ k := h (j, v) (by simp)
    simp [Sparse.get, hj, ih (fun q hq => h q (by simp [hq]))]

theorem Sparse.get_erase_same (d : α) (m : Sparse α) (k : Nat) : Sparse.get d (Sparse.erase m k) k = d :=
  Sparse.get_of_all_ne d _ k (by simp [Sparse.erase])

theorem Sparse.get_erase_ne (d : α) (m : Sparse α) {j k : Nat} (h : k ≠ j) : Sparse.get d (Sparse.erase m j) k = Sparse.get d m k := by
  induction m with
  | nil => rfl
  | cons p m ih =>
    obtain ⟨i, v⟩ := p
    by_cases hi : i = j
    · subst hi
      simpa [Sparse.erase, Sparse.get, Ne.symm h] using ih
    · by_cases hk : i = k <;> simp_all [Sparse.erase, Sparse.get]

theorem Sparse.get_place_same (d : α) (m : Sparse α) (k : Nat) (v : α) (h : ∀ p ∈ m, p.1 ≠ k) : Sparse.get d (Sparse.place m k v) k = v := by
  induction m with
  | nil => simp [Sparse.place, Sparse.get]
  | cons p m ih =>
    obtain ⟨j, w⟩ := p
    have hj : j ≠ k := h (j, w) (by simp)
    by_cases hlt : k < j
    · simp [Sparse.place, Sparse.get, hlt]
    · simp [Sparse.place, Sparse.get, hlt, hj, ih (fun q hq => h q (by simp [hq]))]

theorem Sparse.get_place_ne (d : α) (m : Sparse α) {j k : Nat} (v : α) (h : k ≠ j) : Sparse.get d (Sparse.place m j v) k = Sparse.get d m k := by
  induction m with
  | nil => simp [Sparse.place, Sparse.get, Ne.symm h]
  | cons p m ih =>
    obtain ⟨i, w⟩ := p
    by_cases hlt : j < i
    · simp [Sparse.place, Sparse.get, hlt, Ne.symm h]
    · simp [Sparse.place, Sparse.get, hlt, ih]

/-- A read of the key written answers the value written. -/
@[simp] theorem Sparse.get_set_same [DecidableEq α] (d : α) (m : Sparse α) (k : Nat) (v : α) : Sparse.get d (Sparse.set d m k v) k = v := by
  by_cases h : v = d
  · subst h; simp [Sparse.set, Sparse.get_erase_same]
  · simp only [Sparse.set, h, if_false]
    exact Sparse.get_place_same d _ k v (by simp [Sparse.erase])

/-- A write leaves every other key, whatever an unlisted key reads as there. -/
theorem Sparse.get_set_ne [DecidableEq α] (d e : α) (m : Sparse α) {j k : Nat} (v : α) (h : k ≠ j) :
    Sparse.get e (Sparse.set d m j v) k = Sparse.get e m k := by
  by_cases hv : v = d
  · simp [Sparse.set, hv, Sparse.get_erase_ne e m h]
  · simp [Sparse.set, hv, Sparse.get_place_ne e _ v h, Sparse.get_erase_ne e m h]

theorem Sparse.get_filter_key (d : α) (m : Sparse α) (g : Nat → Bool) (k : Nat) :
    Sparse.get d (m.filter (fun p => g p.1)) k = if g k then Sparse.get d m k else d := by
  induction m with
  | nil => simp [Sparse.get]
  | cons p m ih =>
    obtain ⟨j, v⟩ := p
    by_cases hj : g j
    · by_cases hk : j = k
      · subst hk; simp [hj, Sparse.get]
      · simp [hj, Sparse.get, hk, ih]
    · by_cases hk : j = k
      · subst hk; simpa [hj] using ih
      · simp [hj, Sparse.get, hk, ih]

/-- Clearing a range makes its keys read as unlisted ones and leaves the others. -/
theorem Sparse.get_clear (d : α) (m : Sparse α) (lo hi k : Nat) :
    Sparse.get d (Sparse.clear m lo hi) k = if lo ≤ k ∧ k < hi then d else Sparse.get d m k := by
  have h := Sparse.get_filter_key d m (fun j => decide (¬ (lo ≤ j ∧ j < hi))) k
  by_cases hk : lo ≤ k ∧ k < hi
  · simpa [Sparse.clear, hk] using h
  · have hk' : decide (¬ (lo ≤ k ∧ k < hi)) = true := decide_eq_true hk
    rw [if_neg hk]
    rw [if_pos hk'] at h
    exact h

/-! ### The canonical form -/

/-- Keys strictly rising, as a property of the list. -/
theorem Sparse.rising_iff (m : Sparse α) : Sparse.rising m = true ↔ m.Pairwise (fun p q => p.1 < q.1) := by
  induction m with
  | nil => simp [Sparse.rising]
  | cons p m ih =>
    cases m with
    | nil => simp [Sparse.rising]
    | cons q m =>
      obtain ⟨j, v⟩ := p
      obtain ⟨k, w⟩ := q
      simp only [Sparse.rising, Bool.and_eq_true, decide_eq_true_eq, ih, List.pairwise_cons, List.mem_cons, forall_eq_or_imp]
      constructor
      · rintro ⟨hjk, hk, hm⟩
        exact ⟨⟨hjk, fun r hr => Nat.lt_trans hjk (hk r hr)⟩, hk, hm⟩
      · rintro ⟨⟨hjk, _⟩, hk, hm⟩
        exact ⟨hjk, hk, hm⟩

theorem Sparse.mem_place {m : Sparse α} {k : Nat} {v : α} {p : Nat × α} (h : p ∈ Sparse.place m k v) : p = (k, v) ∨ p ∈ m := by
  induction m with
  | nil => simpa [Sparse.place] using h
  | cons q m ih =>
    obtain ⟨j, w⟩ := q
    by_cases hlt : k < j
    · simpa [Sparse.place, hlt] using h
    · simp only [Sparse.place, hlt, if_false, List.mem_cons] at h
      rcases h with rfl | h
      · simp
      · rcases ih h with h | h <;> simp [h]

theorem Sparse.pairwise_place {m : Sparse α} (k : Nat) (v : α) (hm : m.Pairwise (fun p q => p.1 < q.1)) (hk : ∀ p ∈ m, p.1 ≠ k) :
    (Sparse.place m k v).Pairwise (fun p q => p.1 < q.1) := by
  induction m with
  | nil => simp [Sparse.place]
  | cons q m ih =>
    obtain ⟨j, w⟩ := q
    rw [List.pairwise_cons] at hm
    by_cases hlt : k < j
    · rw [Sparse.place, if_pos hlt, List.pairwise_cons, List.pairwise_cons]
      refine ⟨fun r hr => ?_, hm.1, hm.2⟩
      rcases List.mem_cons.1 hr with rfl | hr
      · exact hlt
      · exact Nat.lt_trans hlt (hm.1 r hr)
    · simp only [Sparse.place, hlt, if_false, List.pairwise_cons]
      refine ⟨fun r hr => ?_, ih hm.2 (fun p hp => hk p (by simp [hp]))⟩
      rcases Sparse.mem_place hr with rfl | hr
      · have : j ≠ k := hk (j, w) (by simp)
        simp; omega
      · exact hm.1 r hr

theorem Sparse.wf_filter [DecidableEq α] {d : α} {m : Sparse α} (f : Nat × α → Bool) (h : Sparse.wf d m = true) : Sparse.wf d (m.filter f) = true := by
  simp only [Sparse.wf, Bool.and_eq_true, Sparse.rising_iff, List.all_eq_true] at h ⊢
  exact ⟨h.1.filter f, fun p hp => h.2 p (List.mem_filter.1 hp).1⟩

/-- A write keeps the canonical form. -/
theorem Sparse.wf_set [DecidableEq α] {d : α} {m : Sparse α} (k : Nat) (v : α) (h : Sparse.wf d m = true) : Sparse.wf d (Sparse.set d m k v) = true := by
  have he : Sparse.wf d (Sparse.erase m k) = true := Sparse.wf_filter _ h
  by_cases hv : v = d
  · simpa [Sparse.set, hv] using he
  · simp only [Sparse.wf, Bool.and_eq_true, Sparse.rising_iff, List.all_eq_true, decide_eq_true_eq] at he
    simp only [Sparse.set, hv, if_false, Sparse.wf, Bool.and_eq_true, Sparse.rising_iff, List.all_eq_true, decide_eq_true_eq]
    refine ⟨Sparse.pairwise_place k v he.1 (by simp [Sparse.erase]), fun p hp => ?_⟩
    rcases Sparse.mem_place hp with rfl | hp
    · exact hv
    · exact he.2 p hp

theorem Sparse.wf_clear [DecidableEq α] {d : α} {m : Sparse α} (lo hi : Nat) (h : Sparse.wf d m = true) : Sparse.wf d (Sparse.clear m lo hi) = true :=
  Sparse.wf_filter _ h

end Sys2Proof.Machine
end

