-- ==== Sys2Proof/Laws/Memory.lean ====
section
/-! SUPPORT. Laws of device memory: every operation on it keeps the canonical form, and a write changes the bytes it names. -/

namespace Sys2Proof.Machine

theorem reset_memory_wf : Memory.wf State.reset.mem = true := rfl

theorem putByte_wf {m : Memory} (a : Nat) (b : Byte) (h : Memory.wf m = true) : Memory.wf (m.putByte a b) = true := by
  simp only [Memory.putByte]
  split
  · exact h
  · exact Sparse.wf_set _ _ (Sparse.wf_set _ _ h)
  · exact Sparse.wf_set _ _ h

theorem put_wf {m : Memory} (a : Nat) (bs : List Byte) (h : Memory.wf m = true) : Memory.wf (m.put a bs) = true := by
  induction bs generalizing m a with
  | nil => exact h
  | cons b bs ih => exact ih (a + 1) (putByte_wf a b h)

theorem writeMem_wf {s : State} (a : Nat) (bs : List Byte) (h : Memory.wf s.mem = true) : Memory.wf (writeMem s a bs).mem = true :=
  put_wf (m := s.mem) a bs h

theorem zeroMem_wf {s : State} (a b : Nat) (h : Memory.wf s.mem = true) : Memory.wf (zeroMem s a b).mem = true := by
  have key : ∀ (qs : List Nat) (m : Sparse Byte), Sparse.wf 0 m = true →
      Sparse.wf 0 (qs.foldl (fun m q => Sparse.clear m (q * 4096) (q * 4096 + 4096)) m) = true := by
    intro qs
    induction qs with
    | nil => exact fun _ h => h
    | cons q qs ih => exact fun m h => ih _ (Sparse.wf_clear _ _ h)
  exact key _ _ (Sparse.wf_clear a b h)

/-- A page that the map leaves alone is not DEAD, and its bytes are its own. -/
theorem byte_normal (m : Memory) (a : Nat) (h : (Sparse.get {} m.pages (a / 4096)).state = .normal) : m.byte a = Sparse.get 0 m.bytes a := by
  simp [Memory.byte, storedDead, mapped, h]

/-- A write of a page that the map leaves alone changes the byte written and no other page's or byte's. -/
theorem byte_putByte_normal (m : Memory) (a c : Nat) (b : Byte) (ha : (Sparse.get {} m.pages (a / 4096)).state = .normal)
    (hc : (Sparse.get {} m.pages (c / 4096)).state = .normal) : (m.putByte a b).byte c = if c = a then b else m.byte c := by
  have hp : (m.putByte a b) = { m with bytes := Sparse.set 0 m.bytes a b } := by simp [Memory.putByte, mapped, ha]
  rw [hp, byte_normal _ _ (by simpa using hc), byte_normal _ _ hc]
  by_cases h : c = a
  · simp [h]
  · rw [if_neg h]; exact Sparse.get_set_ne 0 0 m.bytes b h

end Sys2Proof.Machine
end

