-- ==== Sys2Proof/Laws/Regs.lean ====
section
/-! SUPPORT. Laws of registers and their fields: what a read answers after a write. -/

namespace Sys2Proof.Machine

/-! ### Bit fields -/

/-- A field lies in a 32-bit register. -/
def Fld.ok (f : Fld) : Bool := decide (f.lo ≤ f.hi ∧ f.hi < 32)

/-- Two fields of one register that share no bit. -/
def Fld.apart (f g : Fld) : Bool := decide (f.hi < g.lo ∨ g.hi < f.lo)

theorem bitsOf_lt (v hi lo : Nat) : bitsOf v hi lo < 2 ^ (hi + 1 - lo) := Nat.mod_lt _ (Nat.two_pow_pos _)

theorem setBits_low (v hi lo x : Nat) (h : lo ≤ hi) :
    (x % 2 ^ (hi + 1 - lo)) <<< lo + v % 2 ^ lo < 2 ^ (hi + 1) := by
  have h1 : x % 2 ^ (hi + 1 - lo) < 2 ^ (hi + 1 - lo) := Nat.mod_lt _ (Nat.two_pow_pos _)
  have h2 : v % 2 ^ lo < 2 ^ lo := Nat.mod_lt _ (Nat.two_pow_pos _)
  have h3 : 2 ^ (hi + 1) = 2 ^ (hi + 1 - lo) * 2 ^ lo := by rw [← Nat.pow_add]; congr 1; omega
  rw [Nat.shiftLeft_eq, h3]
  calc (x % 2 ^ (hi + 1 - lo)) * 2 ^ lo + v % 2 ^ lo < (x % 2 ^ (hi + 1 - lo)) * 2 ^ lo + 2 ^ lo := by omega
    _ = (x % 2 ^ (hi + 1 - lo) + 1) * 2 ^ lo := by rw [Nat.add_mul, Nat.one_mul]
    _ ≤ 2 ^ (hi + 1 - lo) * 2 ^ lo := Nat.mul_le_mul_right _ h1

theorem setBits_eq (v hi lo x : Nat) : setBits v hi lo x =
    v / 2 ^ (hi + 1) * 2 ^ (hi + 1) + (x % 2 ^ (hi + 1 - lo) * 2 ^ lo + v % 2 ^ lo) := by
  simp [setBits, Nat.shiftRight_eq_div_pow, Nat.shiftLeft_eq, Nat.add_assoc]

theorem regroup (a l w x r : Nat) : a * (l * w) + (x * l + r) = r + l * (a * w + x) := by
  rw [Nat.mul_add, Nat.mul_comm x l, Nat.mul_left_comm]; omega

/-- The field written reads as what was written, cut to its width. -/
theorem bitsOf_setBits_same (v hi lo x : Nat) (h : lo ≤ hi) : bitsOf (setBits v hi lo x) hi lo = x % 2 ^ (hi + 1 - lo) := by
  have hp : 2 ^ (hi + 1) = 2 ^ lo * 2 ^ (hi + 1 - lo) := by rw [← Nat.pow_add]; congr 1; omega
  have h2 : v % 2 ^ lo < 2 ^ lo := Nat.mod_lt _ (Nat.two_pow_pos _)
  rw [bitsOf, setBits_eq, Nat.shiftRight_eq_div_pow]
  have : v / 2 ^ (hi + 1) * 2 ^ (hi + 1) + (x % 2 ^ (hi + 1 - lo) * 2 ^ lo + v % 2 ^ lo)
      = v % 2 ^ lo + 2 ^ lo * (v / 2 ^ (hi + 1) * 2 ^ (hi + 1 - lo) + x % 2 ^ (hi + 1 - lo)) := by
    rw [hp]; exact regroup _ _ _ _ _
  rw [this, Nat.add_mul_div_left _ _ (Nat.two_pow_pos _), Nat.div_eq_of_lt h2, Nat.zero_add,
    Nat.mul_comm, Nat.mul_add_mod]
  exact Nat.mod_mod _ _

theorem div_setBits (v hi lo x : Nat) (h : lo ≤ hi) : setBits v hi lo x / 2 ^ (hi + 1) = v / 2 ^ (hi + 1) := by
  have := setBits_low v hi lo x h
  rw [Nat.shiftLeft_eq] at this
  rw [setBits_eq, Nat.mul_comm, Nat.mul_add_div (Nat.two_pow_pos _), Nat.div_eq_of_lt this, Nat.add_zero]

theorem mod_setBits (v hi lo x : Nat) (h : lo ≤ hi) : setBits v hi lo x % 2 ^ lo = v % 2 ^ lo := by
  have hp : 2 ^ (hi + 1) = 2 ^ lo * 2 ^ (hi + 1 - lo) := by rw [← Nat.pow_add]; congr 1; omega
  rw [setBits_eq]
  have : v / 2 ^ (hi + 1) * 2 ^ (hi + 1) + (x % 2 ^ (hi + 1 - lo) * 2 ^ lo + v % 2 ^ lo)
      = v % 2 ^ lo + 2 ^ lo * (v / 2 ^ (hi + 1) * 2 ^ (hi + 1 - lo) + x % 2 ^ (hi + 1 - lo)) := by
    rw [hp]; exact regroup _ _ _ _ _
  rw [this, Nat.add_mul_mod_self_left, Nat.mod_mod]

/-- A field above the one written. -/
theorem bitsOf_setBits_above (v hi lo x hi' lo' : Nat) (h : lo ≤ hi) (ha : hi < lo') : bitsOf (setBits v hi lo x) hi' lo' = bitsOf v hi' lo' := by
  have hs : ∀ w, w / 2 ^ lo' = w / 2 ^ (hi + 1) / 2 ^ (lo' - (hi + 1)) := fun w => by
    rw [Nat.div_div_eq_div_mul, ← Nat.pow_add]; congr 2; omega
  simp only [bitsOf, Nat.shiftRight_eq_div_pow]
  rw [hs (setBits v hi lo x), hs v, div_setBits v hi lo x h]

/-- A field below the one written. -/
theorem bitsOf_setBits_below (v hi lo x hi' lo' : Nat) (h : lo ≤ hi) (hb : hi' < lo) (h' : lo' ≤ hi') :
    bitsOf (setBits v hi lo x) hi' lo' = bitsOf v hi' lo' := by
  have hs : ∀ w, w / 2 ^ lo' % 2 ^ (hi' + 1 - lo') = w % 2 ^ lo / 2 ^ lo' % 2 ^ (hi' + 1 - lo') := fun w => by
    have e : 2 ^ lo = 2 ^ lo' * 2 ^ (lo - lo') := by rw [← Nat.pow_add]; congr 1; omega
    rw [e, Nat.mod_mul_right_div_self, Nat.mod_mod_of_dvd _ (Nat.pow_dvd_pow 2 (by omega))]
  simp only [bitsOf, Nat.shiftRight_eq_div_pow]
  rw [hs (setBits v hi lo x), hs v, mod_setBits v hi lo x h]

theorem setBits_lt (v hi lo x : Nat) (h : lo ≤ hi) (hh : hi < 32) (hv : v < 2 ^ 32) : setBits v hi lo x < 2 ^ 32 := by
  have hl := setBits_low v hi lo x h
  rw [Nat.shiftLeft_eq] at hl
  have hp : 2 ^ 32 = 2 ^ (hi + 1) * 2 ^ (32 - (hi + 1)) := by rw [← Nat.pow_add]; congr 1; omega
  have hd : v / 2 ^ (hi + 1) < 2 ^ (32 - (hi + 1)) := by
    apply Nat.div_lt_of_lt_mul; rw [← hp]; exact hv
  rw [setBits_eq]
  calc _ < v / 2 ^ (hi + 1) * 2 ^ (hi + 1) + 2 ^ (hi + 1) := by omega
    _ = (v / 2 ^ (hi + 1) + 1) * 2 ^ (hi + 1) := by rw [Nat.add_mul, Nat.one_mul]
    _ ≤ 2 ^ (32 - (hi + 1)) * 2 ^ (hi + 1) := Nat.mul_le_mul_right _ hd
    _ = 2 ^ 32 := by rw [Nat.mul_comm, ← hp]

/-! ### Registers -/

@[simp] theorem rd_wr_same (s : State) (r : Reg) (v : Word) : rd (wr s r v) r = v := by simp [rd, wr]

theorem rd_wr_ne (s : State) {r q : Reg} (v : Word) (h : q.key ≠ r.key) : rd (wr s r v) q = rd s q :=
  Sparse.get_set_ne r.reset q.reset s.regs v h

theorem rd_wrF_ne (s : State) {f : Fld} {q : Reg} (v : Nat) (h : q.key ≠ f.reg.key) : rd (wrF s f v) q = rd s q := rd_wr_ne s _ h

theorem rdF_wr_ne (s : State) {r : Reg} {f : Fld} (v : Word) (h : f.reg.key ≠ r.key) : rdF (wr s r v) f = rdF s f := by
  rw [rdF, rd_wr_ne s v h, rdF]

theorem rdF_lt (s : State) (f : Fld) : rdF s f < 2 ^ (f.hi + 1 - f.lo) := bitsOf_lt _ _ _

/-- A field written reads as the value, cut to its width. -/
theorem rdF_wrF_same (s : State) (f : Fld) (v : Nat) (h : f.ok = true) : rdF (wrF s f v) f = v % 2 ^ (f.hi + 1 - f.lo) := by
  have h := of_decide_eq_true h
  rw [rdF, wrF, rd_wr_same, BitVec.toNat_ofNat, Nat.mod_eq_of_lt (setBits_lt _ _ _ _ h.1 h.2 (rd s f.reg).isLt),
    bitsOf_setBits_same _ _ _ _ h.1]

/-- A field of another register. -/
theorem rdF_wrF_ne (s : State) {f g : Fld} (v : Nat) (h : g.reg.key ≠ f.reg.key) : rdF (wrF s f v) g = rdF s g := rdF_wr_ne s _ h

/-- Another field of the register. -/
theorem rdF_wrF_apart (s : State) {f g : Fld} (v : Nat) (hr : g.reg = f.reg) (hf : f.ok = true) (hg : g.ok = true) (ha : f.apart g = true) :
    rdF (wrF s f v) g = rdF s g := by
  have hf := of_decide_eq_true hf
  have hg := of_decide_eq_true hg
  have ha := of_decide_eq_true ha
  rw [rdF, hr, wrF, rd_wr_same, BitVec.toNat_ofNat, Nat.mod_eq_of_lt (setBits_lt _ _ _ _ hf.1 hf.2 (rd s f.reg).isLt), rdF, hr]
  rcases ha with ha | ha
  · exact bitsOf_setBits_above _ _ _ _ _ _ hf.1 ha
  · exact bitsOf_setBits_below _ _ _ _ _ _ hf.1 ha hg.1

theorem flag_wrB_same (s : State) (f : Fld) (b : Bool) (h : f.ok = true) : flag (wrB s f b) f = b := by
  have hw : 1 < 2 ^ (f.hi + 1 - f.lo) := by
    have h := of_decide_eq_true h
    exact Nat.one_lt_two_pow (by omega)
  rw [flag, wrB, rdF_wrF_same s f _ h]
  cases b <;> simp [Nat.mod_eq_of_lt hw]

theorem flag_wrF_ne (s : State) {f g : Fld} (v : Nat) (h : g.reg.key ≠ f.reg.key) : flag (wrF s f v) g = flag s g := by
  rw [flag, rdF_wrF_ne s v h, flag]

theorem flag_wrB_ne (s : State) {f g : Fld} (b : Bool) (h : g.reg.key ≠ f.reg.key) : flag (wrB s f b) g = flag s g := flag_wrF_ne s _ h

end Sys2Proof.Machine
end

