-- ==== Sys2Proof/Laws/State.lean ====
section
/-! SUPPORT. What each named update leaves alone, field by field of the state, so that no proof unfolds a record update. -/

namespace Sys2Proof.Machine

variable (s : State)

@[simp] theorem advance_pending (t : Nat) : (advance t s).pending = s.pending := by unfold advance; split <;> rfl
@[simp] theorem advance_free (t : Nat) : (advance t s).free = s.free := by unfold advance; split <;> rfl
@[simp] theorem advance_out (t : Nat) : (advance t s).out = s.out := by unfold advance; split <;> rfl
@[simp] theorem advance_touched (t : Nat) : (advance t s).touched = s.touched := by unfold advance; split <;> rfl
@[simp] theorem advance_meet (t : Nat) : (advance t s).meet = s.meet := by unfold advance; split <;> rfl
@[simp] theorem advance_regs (t : Nat) : (advance t s).regs = s.regs := by unfold advance; split <;> rfl
@[simp] theorem advance_fab (t : Nat) : (advance t s).fab = s.fab := by unfold advance; split <;> rfl
@[simp] theorem advance_host (t : Nat) : (advance t s).host = s.host := by unfold advance; split <;> rfl
@[simp] theorem advance_shl (t : Nat) : (advance t s).shl = s.shl := by unfold advance; split <;> rfl
@[simp] theorem advance_mem (t : Nat) : (advance t s).mem = s.mem := by unfold advance; split <;> rfl
@[simp] theorem advance_rnd (t : Nat) : (advance t s).rnd = s.rnd := by unfold advance; split <;> rfl
@[simp] theorem advance_dsp (t : Nat) : (advance t s).dsp = s.dsp := by unfold advance; split <;> rfl
@[simp] theorem advance_val (t : Nat) : (advance t s).val = s.val := by unfold advance; split <;> rfl
@[simp] theorem advance_art (t : Nat) : (advance t s).art = s.art := by unfold advance; split <;> rfl
@[simp] theorem advance_flash (t : Nat) : (advance t s).flash = s.flash := by unfold advance; split <;> rfl
@[simp] theorem advance_pwr (t : Nat) : (advance t s).pwr = s.pwr := by unfold advance; split <;> rfl
@[simp] theorem advance_otp (t : Nat) : (advance t s).otp = s.otp := by unfold advance; split <;> rfl
@[simp] theorem advance_boot (t : Nat) : (advance t s).boot = s.boot := by unfold advance; split <;> rfl
@[simp] theorem advance_upd (t : Nat) : (advance t s).upd = s.upd := by unfold advance; split <;> rfl
@[simp] theorem advance_aud (t : Nat) : (advance t s).aud = s.aud := by unfold advance; split <;> rfl
@[simp] theorem advance_tch (t : Nat) : (advance t s).tch = s.tch := by unfold advance; split <;> rfl
@[simp] theorem advance_hap (t : Nat) : (advance t s).hap = s.hap := by unfold advance; split <;> rfl

@[simp] theorem begin_pending (t : Nat) : (begin t s).pending = s.pending := by unfold begin advance; split <;> rfl
@[simp] theorem begin_free (t : Nat) : (begin t s).free = s.free := by unfold begin advance; split <;> rfl
@[simp] theorem begin_meet (t : Nat) : (begin t s).meet = s.meet := by unfold begin advance; split <;> rfl
@[simp] theorem begin_regs (t : Nat) : (begin t s).regs = s.regs := by unfold begin advance; split <;> rfl
@[simp] theorem begin_fab (t : Nat) : (begin t s).fab = s.fab := by unfold begin advance; split <;> rfl
@[simp] theorem begin_host (t : Nat) : (begin t s).host = s.host := by unfold begin advance; split <;> rfl
@[simp] theorem begin_shl (t : Nat) : (begin t s).shl = s.shl := by unfold begin advance; split <;> rfl
@[simp] theorem begin_mem (t : Nat) : (begin t s).mem = s.mem := by unfold begin advance; split <;> rfl
@[simp] theorem begin_rnd (t : Nat) : (begin t s).rnd = s.rnd := by unfold begin advance; split <;> rfl
@[simp] theorem begin_dsp (t : Nat) : (begin t s).dsp = s.dsp := by unfold begin advance; split <;> rfl
@[simp] theorem begin_val (t : Nat) : (begin t s).val = s.val := by unfold begin advance; split <;> rfl
@[simp] theorem begin_art (t : Nat) : (begin t s).art = s.art := by unfold begin advance; split <;> rfl
@[simp] theorem begin_flash (t : Nat) : (begin t s).flash = s.flash := by unfold begin advance; split <;> rfl
@[simp] theorem begin_pwr (t : Nat) : (begin t s).pwr = s.pwr := by unfold begin advance; split <;> rfl
@[simp] theorem begin_otp (t : Nat) : (begin t s).otp = s.otp := by unfold begin advance; split <;> rfl
@[simp] theorem begin_boot (t : Nat) : (begin t s).boot = s.boot := by unfold begin advance; split <;> rfl
@[simp] theorem begin_upd (t : Nat) : (begin t s).upd = s.upd := by unfold begin advance; split <;> rfl
@[simp] theorem begin_aud (t : Nat) : (begin t s).aud = s.aud := by unfold begin advance; split <;> rfl
@[simp] theorem begin_tch (t : Nat) : (begin t s).tch = s.tch := by unfold begin advance; split <;> rfl
@[simp] theorem begin_hap (t : Nat) : (begin t s).hap = s.hap := by unfold begin advance; split <;> rfl

@[simp] theorem wr_pending (r : Reg) (v : Word) : (wr s r v).pending = s.pending := rfl
@[simp] theorem wr_free (r : Reg) (v : Word) : (wr s r v).free = s.free := rfl
@[simp] theorem wr_out (r : Reg) (v : Word) : (wr s r v).out = s.out := rfl
@[simp] theorem wr_touched (r : Reg) (v : Word) : (wr s r v).touched = s.touched := rfl
@[simp] theorem wr_meet (r : Reg) (v : Word) : (wr s r v).meet = s.meet := rfl
@[simp] theorem wr_time (r : Reg) (v : Word) : (wr s r v).time = s.time := rfl
@[simp] theorem wr_fab (r : Reg) (v : Word) : (wr s r v).fab = s.fab := rfl
@[simp] theorem wr_host (r : Reg) (v : Word) : (wr s r v).host = s.host := rfl
@[simp] theorem wr_shl (r : Reg) (v : Word) : (wr s r v).shl = s.shl := rfl
@[simp] theorem wr_mem (r : Reg) (v : Word) : (wr s r v).mem = s.mem := rfl
@[simp] theorem wr_rnd (r : Reg) (v : Word) : (wr s r v).rnd = s.rnd := rfl
@[simp] theorem wr_dsp (r : Reg) (v : Word) : (wr s r v).dsp = s.dsp := rfl
@[simp] theorem wr_val (r : Reg) (v : Word) : (wr s r v).val = s.val := rfl
@[simp] theorem wr_art (r : Reg) (v : Word) : (wr s r v).art = s.art := rfl
@[simp] theorem wr_flash (r : Reg) (v : Word) : (wr s r v).flash = s.flash := rfl
@[simp] theorem wr_pwr (r : Reg) (v : Word) : (wr s r v).pwr = s.pwr := rfl
@[simp] theorem wr_otp (r : Reg) (v : Word) : (wr s r v).otp = s.otp := rfl
@[simp] theorem wr_boot (r : Reg) (v : Word) : (wr s r v).boot = s.boot := rfl
@[simp] theorem wr_upd (r : Reg) (v : Word) : (wr s r v).upd = s.upd := rfl
@[simp] theorem wr_aud (r : Reg) (v : Word) : (wr s r v).aud = s.aud := rfl
@[simp] theorem wr_tch (r : Reg) (v : Word) : (wr s r v).tch = s.tch := rfl
@[simp] theorem wr_hap (r : Reg) (v : Word) : (wr s r v).hap = s.hap := rfl

@[simp] theorem wrF_pending (f : Fld) (v : Nat) : (wrF s f v).pending = s.pending := rfl
@[simp] theorem wrF_free (f : Fld) (v : Nat) : (wrF s f v).free = s.free := rfl
@[simp] theorem wrF_out (f : Fld) (v : Nat) : (wrF s f v).out = s.out := rfl
@[simp] theorem wrF_touched (f : Fld) (v : Nat) : (wrF s f v).touched = s.touched := rfl
@[simp] theorem wrF_meet (f : Fld) (v : Nat) : (wrF s f v).meet = s.meet := rfl
@[simp] theorem wrF_time (f : Fld) (v : Nat) : (wrF s f v).time = s.time := rfl
@[simp] theorem wrF_fab (f : Fld) (v : Nat) : (wrF s f v).fab = s.fab := rfl
@[simp] theorem wrF_host (f : Fld) (v : Nat) : (wrF s f v).host = s.host := rfl
@[simp] theorem wrF_shl (f : Fld) (v : Nat) : (wrF s f v).shl = s.shl := rfl
@[simp] theorem wrF_mem (f : Fld) (v : Nat) : (wrF s f v).mem = s.mem := rfl
@[simp] theorem wrF_rnd (f : Fld) (v : Nat) : (wrF s f v).rnd = s.rnd := rfl
@[simp] theorem wrF_dsp (f : Fld) (v : Nat) : (wrF s f v).dsp = s.dsp := rfl
@[simp] theorem wrF_val (f : Fld) (v : Nat) : (wrF s f v).val = s.val := rfl
@[simp] theorem wrF_art (f : Fld) (v : Nat) : (wrF s f v).art = s.art := rfl
@[simp] theorem wrF_flash (f : Fld) (v : Nat) : (wrF s f v).flash = s.flash := rfl
@[simp] theorem wrF_pwr (f : Fld) (v : Nat) : (wrF s f v).pwr = s.pwr := rfl
@[simp] theorem wrF_otp (f : Fld) (v : Nat) : (wrF s f v).otp = s.otp := rfl
@[simp] theorem wrF_boot (f : Fld) (v : Nat) : (wrF s f v).boot = s.boot := rfl
@[simp] theorem wrF_upd (f : Fld) (v : Nat) : (wrF s f v).upd = s.upd := rfl
@[simp] theorem wrF_aud (f : Fld) (v : Nat) : (wrF s f v).aud = s.aud := rfl
@[simp] theorem wrF_tch (f : Fld) (v : Nat) : (wrF s f v).tch = s.tch := rfl
@[simp] theorem wrF_hap (f : Fld) (v : Nat) : (wrF s f v).hap = s.hap := rfl

@[simp] theorem wrB_pending (f : Fld) (b : Bool) : (wrB s f b).pending = s.pending := rfl
@[simp] theorem wrB_free (f : Fld) (b : Bool) : (wrB s f b).free = s.free := rfl
@[simp] theorem wrB_out (f : Fld) (b : Bool) : (wrB s f b).out = s.out := rfl
@[simp] theorem wrB_touched (f : Fld) (b : Bool) : (wrB s f b).touched = s.touched := rfl
@[simp] theorem wrB_meet (f : Fld) (b : Bool) : (wrB s f b).meet = s.meet := rfl
@[simp] theorem wrB_time (f : Fld) (b : Bool) : (wrB s f b).time = s.time := rfl
@[simp] theorem wrB_fab (f : Fld) (b : Bool) : (wrB s f b).fab = s.fab := rfl
@[simp] theorem wrB_host (f : Fld) (b : Bool) : (wrB s f b).host = s.host := rfl
@[simp] theorem wrB_shl (f : Fld) (b : Bool) : (wrB s f b).shl = s.shl := rfl
@[simp] theorem wrB_mem (f : Fld) (b : Bool) : (wrB s f b).mem = s.mem := rfl
@[simp] theorem wrB_rnd (f : Fld) (b : Bool) : (wrB s f b).rnd = s.rnd := rfl
@[simp] theorem wrB_dsp (f : Fld) (b : Bool) : (wrB s f b).dsp = s.dsp := rfl
@[simp] theorem wrB_val (f : Fld) (b : Bool) : (wrB s f b).val = s.val := rfl
@[simp] theorem wrB_art (f : Fld) (b : Bool) : (wrB s f b).art = s.art := rfl
@[simp] theorem wrB_flash (f : Fld) (b : Bool) : (wrB s f b).flash = s.flash := rfl
@[simp] theorem wrB_pwr (f : Fld) (b : Bool) : (wrB s f b).pwr = s.pwr := rfl
@[simp] theorem wrB_otp (f : Fld) (b : Bool) : (wrB s f b).otp = s.otp := rfl
@[simp] theorem wrB_boot (f : Fld) (b : Bool) : (wrB s f b).boot = s.boot := rfl
@[simp] theorem wrB_upd (f : Fld) (b : Bool) : (wrB s f b).upd = s.upd := rfl
@[simp] theorem wrB_aud (f : Fld) (b : Bool) : (wrB s f b).aud = s.aud := rfl
@[simp] theorem wrB_tch (f : Fld) (b : Bool) : (wrB s f b).tch = s.tch := rfl
@[simp] theorem wrB_hap (f : Fld) (b : Bool) : (wrB s f b).hap = s.hap := rfl

@[simp] theorem incF_pending (f : Fld) (n : Nat) : (incF s f n).pending = s.pending := rfl
@[simp] theorem incF_free (f : Fld) (n : Nat) : (incF s f n).free = s.free := rfl
@[simp] theorem incF_out (f : Fld) (n : Nat) : (incF s f n).out = s.out := rfl
@[simp] theorem incF_touched (f : Fld) (n : Nat) : (incF s f n).touched = s.touched := rfl
@[simp] theorem incF_time (f : Fld) (n : Nat) : (incF s f n).time = s.time := rfl
@[simp] theorem incF_fab (f : Fld) (n : Nat) : (incF s f n).fab = s.fab := rfl
@[simp] theorem incF_host (f : Fld) (n : Nat) : (incF s f n).host = s.host := rfl
@[simp] theorem incF_shl (f : Fld) (n : Nat) : (incF s f n).shl = s.shl := rfl
@[simp] theorem incF_mem (f : Fld) (n : Nat) : (incF s f n).mem = s.mem := rfl
@[simp] theorem incF_rnd (f : Fld) (n : Nat) : (incF s f n).rnd = s.rnd := rfl
@[simp] theorem incF_dsp (f : Fld) (n : Nat) : (incF s f n).dsp = s.dsp := rfl
@[simp] theorem incF_val (f : Fld) (n : Nat) : (incF s f n).val = s.val := rfl
@[simp] theorem incF_art (f : Fld) (n : Nat) : (incF s f n).art = s.art := rfl
@[simp] theorem incF_flash (f : Fld) (n : Nat) : (incF s f n).flash = s.flash := rfl
@[simp] theorem incF_pwr (f : Fld) (n : Nat) : (incF s f n).pwr = s.pwr := rfl
@[simp] theorem incF_otp (f : Fld) (n : Nat) : (incF s f n).otp = s.otp := rfl
@[simp] theorem incF_boot (f : Fld) (n : Nat) : (incF s f n).boot = s.boot := rfl
@[simp] theorem incF_upd (f : Fld) (n : Nat) : (incF s f n).upd = s.upd := rfl
@[simp] theorem incF_aud (f : Fld) (n : Nat) : (incF s f n).aud = s.aud := rfl
@[simp] theorem incF_tch (f : Fld) (n : Nat) : (incF s f n).tch = s.tch := rfl
@[simp] theorem incF_hap (f : Fld) (n : Nat) : (incF s f n).hap = s.hap := rfl

@[simp] theorem raiseF_pending (f : Fld) (v : Nat) : (raiseF s f v).pending = s.pending := rfl
@[simp] theorem raiseF_free (f : Fld) (v : Nat) : (raiseF s f v).free = s.free := rfl
@[simp] theorem raiseF_out (f : Fld) (v : Nat) : (raiseF s f v).out = s.out := rfl
@[simp] theorem raiseF_touched (f : Fld) (v : Nat) : (raiseF s f v).touched = s.touched := rfl
@[simp] theorem raiseF_time (f : Fld) (v : Nat) : (raiseF s f v).time = s.time := rfl
@[simp] theorem raiseF_fab (f : Fld) (v : Nat) : (raiseF s f v).fab = s.fab := rfl
@[simp] theorem raiseF_host (f : Fld) (v : Nat) : (raiseF s f v).host = s.host := rfl
@[simp] theorem raiseF_shl (f : Fld) (v : Nat) : (raiseF s f v).shl = s.shl := rfl
@[simp] theorem raiseF_mem (f : Fld) (v : Nat) : (raiseF s f v).mem = s.mem := rfl
@[simp] theorem raiseF_rnd (f : Fld) (v : Nat) : (raiseF s f v).rnd = s.rnd := rfl
@[simp] theorem raiseF_dsp (f : Fld) (v : Nat) : (raiseF s f v).dsp = s.dsp := rfl
@[simp] theorem raiseF_val (f : Fld) (v : Nat) : (raiseF s f v).val = s.val := rfl
@[simp] theorem raiseF_art (f : Fld) (v : Nat) : (raiseF s f v).art = s.art := rfl
@[simp] theorem raiseF_flash (f : Fld) (v : Nat) : (raiseF s f v).flash = s.flash := rfl
@[simp] theorem raiseF_pwr (f : Fld) (v : Nat) : (raiseF s f v).pwr = s.pwr := rfl
@[simp] theorem raiseF_otp (f : Fld) (v : Nat) : (raiseF s f v).otp = s.otp := rfl
@[simp] theorem raiseF_boot (f : Fld) (v : Nat) : (raiseF s f v).boot = s.boot := rfl
@[simp] theorem raiseF_upd (f : Fld) (v : Nat) : (raiseF s f v).upd = s.upd := rfl
@[simp] theorem raiseF_aud (f : Fld) (v : Nat) : (raiseF s f v).aud = s.aud := rfl
@[simp] theorem raiseF_tch (f : Fld) (v : Nat) : (raiseF s f v).tch = s.tch := rfl
@[simp] theorem raiseF_hap (f : Fld) (v : Nat) : (raiseF s f v).hap = s.hap := rfl

@[simp] theorem wr64_pending (l h : Reg) (v : Nat) : (wr64 s l h v).pending = s.pending := rfl
@[simp] theorem wr64_free (l h : Reg) (v : Nat) : (wr64 s l h v).free = s.free := rfl
@[simp] theorem wr64_out (l h : Reg) (v : Nat) : (wr64 s l h v).out = s.out := rfl
@[simp] theorem wr64_touched (l h : Reg) (v : Nat) : (wr64 s l h v).touched = s.touched := rfl
@[simp] theorem wr64_meet (l h : Reg) (v : Nat) : (wr64 s l h v).meet = s.meet := rfl
@[simp] theorem wr64_time (l h : Reg) (v : Nat) : (wr64 s l h v).time = s.time := rfl
@[simp] theorem wr64_fab (l h : Reg) (v : Nat) : (wr64 s l h v).fab = s.fab := rfl
@[simp] theorem wr64_host (l h : Reg) (v : Nat) : (wr64 s l h v).host = s.host := rfl
@[simp] theorem wr64_shl (l h : Reg) (v : Nat) : (wr64 s l h v).shl = s.shl := rfl
@[simp] theorem wr64_mem (l h : Reg) (v : Nat) : (wr64 s l h v).mem = s.mem := rfl
@[simp] theorem wr64_rnd (l h : Reg) (v : Nat) : (wr64 s l h v).rnd = s.rnd := rfl
@[simp] theorem wr64_dsp (l h : Reg) (v : Nat) : (wr64 s l h v).dsp = s.dsp := rfl
@[simp] theorem wr64_val (l h : Reg) (v : Nat) : (wr64 s l h v).val = s.val := rfl
@[simp] theorem wr64_art (l h : Reg) (v : Nat) : (wr64 s l h v).art = s.art := rfl
@[simp] theorem wr64_flash (l h : Reg) (v : Nat) : (wr64 s l h v).flash = s.flash := rfl
@[simp] theorem wr64_pwr (l h : Reg) (v : Nat) : (wr64 s l h v).pwr = s.pwr := rfl
@[simp] theorem wr64_otp (l h : Reg) (v : Nat) : (wr64 s l h v).otp = s.otp := rfl
@[simp] theorem wr64_boot (l h : Reg) (v : Nat) : (wr64 s l h v).boot = s.boot := rfl
@[simp] theorem wr64_upd (l h : Reg) (v : Nat) : (wr64 s l h v).upd = s.upd := rfl
@[simp] theorem wr64_aud (l h : Reg) (v : Nat) : (wr64 s l h v).aud = s.aud := rfl
@[simp] theorem wr64_tch (l h : Reg) (v : Nat) : (wr64 s l h v).tch = s.tch := rfl
@[simp] theorem wr64_hap (l h : Reg) (v : Nat) : (wr64 s l h v).hap = s.hap := rfl

@[simp] theorem wrBit_pending (r : Reg) (i : Nat) (b : Bool) : (wrBit s r i b).pending = s.pending := rfl
@[simp] theorem wrBit_free (r : Reg) (i : Nat) (b : Bool) : (wrBit s r i b).free = s.free := rfl
@[simp] theorem wrBit_out (r : Reg) (i : Nat) (b : Bool) : (wrBit s r i b).out = s.out := rfl
@[simp] theorem wrBit_touched (r : Reg) (i : Nat) (b : Bool) : (wrBit s r i b).touched = s.touched := rfl
@[simp] theorem wrBit_meet (r : Reg) (i : Nat) (b : Bool) : (wrBit s r i b).meet = s.meet := rfl
@[simp] theorem wrBit_time (r : Reg) (i : Nat) (b : Bool) : (wrBit s r i b).time = s.time := rfl
@[simp] theorem wrBit_fab (r : Reg) (i : Nat) (b : Bool) : (wrBit s r i b).fab = s.fab := rfl
@[simp] theorem wrBit_host (r : Reg) (i : Nat) (b : Bool) : (wrBit s r i b).host = s.host := rfl
@[simp] theorem wrBit_shl (r : Reg) (i : Nat) (b : Bool) : (wrBit s r i b).shl = s.shl := rfl
@[simp] theorem wrBit_mem (r : Reg) (i : Nat) (b : Bool) : (wrBit s r i b).mem = s.mem := rfl
@[simp] theorem wrBit_rnd (r : Reg) (i : Nat) (b : Bool) : (wrBit s r i b).rnd = s.rnd := rfl
@[simp] theorem wrBit_dsp (r : Reg) (i : Nat) (b : Bool) : (wrBit s r i b).dsp = s.dsp := rfl
@[simp] theorem wrBit_val (r : Reg) (i : Nat) (b : Bool) : (wrBit s r i b).val = s.val := rfl
@[simp] theorem wrBit_art (r : Reg) (i : Nat) (b : Bool) : (wrBit s r i b).art = s.art := rfl
@[simp] theorem wrBit_flash (r : Reg) (i : Nat) (b : Bool) : (wrBit s r i b).flash = s.flash := rfl
@[simp] theorem wrBit_pwr (r : Reg) (i : Nat) (b : Bool) : (wrBit s r i b).pwr = s.pwr := rfl
@[simp] theorem wrBit_otp (r : Reg) (i : Nat) (b : Bool) : (wrBit s r i b).otp = s.otp := rfl
@[simp] theorem wrBit_boot (r : Reg) (i : Nat) (b : Bool) : (wrBit s r i b).boot = s.boot := rfl
@[simp] theorem wrBit_upd (r : Reg) (i : Nat) (b : Bool) : (wrBit s r i b).upd = s.upd := rfl
@[simp] theorem wrBit_aud (r : Reg) (i : Nat) (b : Bool) : (wrBit s r i b).aud = s.aud := rfl
@[simp] theorem wrBit_tch (r : Reg) (i : Nat) (b : Bool) : (wrBit s r i b).tch = s.tch := rfl
@[simp] theorem wrBit_hap (r : Reg) (i : Nat) (b : Bool) : (wrBit s r i b).hap = s.hap := rfl

@[simp] theorem spend_pending : (spend s).pending = s.pending := rfl
@[simp] theorem spend_out : (spend s).out = s.out := rfl
@[simp] theorem spend_touched : (spend s).touched = s.touched := rfl
@[simp] theorem spend_meet : (spend s).meet = s.meet := rfl
@[simp] theorem spend_regs : (spend s).regs = s.regs := rfl
@[simp] theorem spend_time : (spend s).time = s.time := rfl
@[simp] theorem spend_fab : (spend s).fab = s.fab := rfl
@[simp] theorem spend_host : (spend s).host = s.host := rfl
@[simp] theorem spend_shl : (spend s).shl = s.shl := rfl
@[simp] theorem spend_mem : (spend s).mem = s.mem := rfl
@[simp] theorem spend_rnd : (spend s).rnd = s.rnd := rfl
@[simp] theorem spend_dsp : (spend s).dsp = s.dsp := rfl
@[simp] theorem spend_val : (spend s).val = s.val := rfl
@[simp] theorem spend_art : (spend s).art = s.art := rfl
@[simp] theorem spend_flash : (spend s).flash = s.flash := rfl
@[simp] theorem spend_pwr : (spend s).pwr = s.pwr := rfl
@[simp] theorem spend_otp : (spend s).otp = s.otp := rfl
@[simp] theorem spend_boot : (spend s).boot = s.boot := rfl
@[simp] theorem spend_upd : (spend s).upd = s.upd := rfl
@[simp] theorem spend_aud : (spend s).aud = s.aud := rfl
@[simp] theorem spend_tch : (spend s).tch = s.tch := rfl
@[simp] theorem spend_hap : (spend s).hap = s.hap := rfl

@[simp] theorem send_pending (m : HostMsg) : (send s m).pending = s.pending := rfl
@[simp] theorem send_free (m : HostMsg) : (send s m).free = s.free := rfl
@[simp] theorem send_touched (m : HostMsg) : (send s m).touched = s.touched := rfl
@[simp] theorem send_meet (m : HostMsg) : (send s m).meet = s.meet := rfl
@[simp] theorem send_regs (m : HostMsg) : (send s m).regs = s.regs := rfl
@[simp] theorem send_time (m : HostMsg) : (send s m).time = s.time := rfl
@[simp] theorem send_fab (m : HostMsg) : (send s m).fab = s.fab := rfl
@[simp] theorem send_host (m : HostMsg) : (send s m).host = s.host := rfl
@[simp] theorem send_shl (m : HostMsg) : (send s m).shl = s.shl := rfl
@[simp] theorem send_mem (m : HostMsg) : (send s m).mem = s.mem := rfl
@[simp] theorem send_rnd (m : HostMsg) : (send s m).rnd = s.rnd := rfl
@[simp] theorem send_dsp (m : HostMsg) : (send s m).dsp = s.dsp := rfl
@[simp] theorem send_val (m : HostMsg) : (send s m).val = s.val := rfl
@[simp] theorem send_art (m : HostMsg) : (send s m).art = s.art := rfl
@[simp] theorem send_flash (m : HostMsg) : (send s m).flash = s.flash := rfl
@[simp] theorem send_pwr (m : HostMsg) : (send s m).pwr = s.pwr := rfl
@[simp] theorem send_otp (m : HostMsg) : (send s m).otp = s.otp := rfl
@[simp] theorem send_boot (m : HostMsg) : (send s m).boot = s.boot := rfl
@[simp] theorem send_upd (m : HostMsg) : (send s m).upd = s.upd := rfl
@[simp] theorem send_aud (m : HostMsg) : (send s m).aud = s.aud := rfl
@[simp] theorem send_tch (m : HostMsg) : (send s m).tch = s.tch := rfl
@[simp] theorem send_hap (m : HostMsg) : (send s m).hap = s.hap := rfl

@[simp] theorem settle_pending : (settle s).pending = s.pending := rfl
@[simp] theorem settle_free : (settle s).free = s.free := rfl
@[simp] theorem settle_out : (settle s).out = s.out := rfl
@[simp] theorem settle_touched : (settle s).touched = s.touched := rfl
@[simp] theorem settle_time : (settle s).time = s.time := rfl
@[simp] theorem settle_fab : (settle s).fab = s.fab := rfl
@[simp] theorem settle_host : (settle s).host = s.host := rfl
@[simp] theorem settle_shl : (settle s).shl = s.shl := rfl
@[simp] theorem settle_mem : (settle s).mem = s.mem := rfl
@[simp] theorem settle_rnd : (settle s).rnd = s.rnd := rfl
@[simp] theorem settle_dsp : (settle s).dsp = s.dsp := rfl
@[simp] theorem settle_val : (settle s).val = s.val := rfl
@[simp] theorem settle_art : (settle s).art = s.art := rfl
@[simp] theorem settle_flash : (settle s).flash = s.flash := rfl
@[simp] theorem settle_pwr : (settle s).pwr = s.pwr := rfl
@[simp] theorem settle_otp : (settle s).otp = s.otp := rfl
@[simp] theorem settle_boot : (settle s).boot = s.boot := rfl
@[simp] theorem settle_upd : (settle s).upd = s.upd := rfl
@[simp] theorem settle_aud : (settle s).aud = s.aud := rfl
@[simp] theorem settle_tch : (settle s).tch = s.tch := rfl
@[simp] theorem settle_hap : (settle s).hap = s.hap := rfl

@[simp] theorem putLog_pending (e : Rec16) : (putLog s e).pending = s.pending := rfl
@[simp] theorem putLog_free (e : Rec16) : (putLog s e).free = s.free := rfl
@[simp] theorem putLog_out (e : Rec16) : (putLog s e).out = s.out := rfl
@[simp] theorem putLog_touched (e : Rec16) : (putLog s e).touched = s.touched := rfl
@[simp] theorem putLog_meet (e : Rec16) : (putLog s e).meet = s.meet := rfl
@[simp] theorem putLog_time (e : Rec16) : (putLog s e).time = s.time := rfl
@[simp] theorem putLog_fab (e : Rec16) : (putLog s e).fab = s.fab := rfl
@[simp] theorem putLog_host (e : Rec16) : (putLog s e).host = s.host := rfl
@[simp] theorem putLog_mem (e : Rec16) : (putLog s e).mem = s.mem := rfl
@[simp] theorem putLog_rnd (e : Rec16) : (putLog s e).rnd = s.rnd := rfl
@[simp] theorem putLog_dsp (e : Rec16) : (putLog s e).dsp = s.dsp := rfl
@[simp] theorem putLog_val (e : Rec16) : (putLog s e).val = s.val := rfl
@[simp] theorem putLog_art (e : Rec16) : (putLog s e).art = s.art := rfl
@[simp] theorem putLog_flash (e : Rec16) : (putLog s e).flash = s.flash := rfl
@[simp] theorem putLog_pwr (e : Rec16) : (putLog s e).pwr = s.pwr := rfl
@[simp] theorem putLog_otp (e : Rec16) : (putLog s e).otp = s.otp := rfl
@[simp] theorem putLog_boot (e : Rec16) : (putLog s e).boot = s.boot := rfl
@[simp] theorem putLog_upd (e : Rec16) : (putLog s e).upd = s.upd := rfl
@[simp] theorem putLog_aud (e : Rec16) : (putLog s e).aud = s.aud := rfl
@[simp] theorem putLog_tch (e : Rec16) : (putLog s e).tch = s.tch := rfl
@[simp] theorem putLog_hap (e : Rec16) : (putLog s e).hap = s.hap := rfl

@[simp] theorem countInfo_pending (n : Nat) : (countInfo s n).pending = s.pending := rfl
@[simp] theorem countInfo_free (n : Nat) : (countInfo s n).free = s.free := rfl
@[simp] theorem countInfo_out (n : Nat) : (countInfo s n).out = s.out := rfl
@[simp] theorem countInfo_touched (n : Nat) : (countInfo s n).touched = s.touched := rfl
@[simp] theorem countInfo_meet (n : Nat) : (countInfo s n).meet = s.meet := rfl
@[simp] theorem countInfo_regs (n : Nat) : (countInfo s n).regs = s.regs := rfl
@[simp] theorem countInfo_time (n : Nat) : (countInfo s n).time = s.time := rfl
@[simp] theorem countInfo_fab (n : Nat) : (countInfo s n).fab = s.fab := rfl
@[simp] theorem countInfo_host (n : Nat) : (countInfo s n).host = s.host := rfl
@[simp] theorem countInfo_mem (n : Nat) : (countInfo s n).mem = s.mem := rfl
@[simp] theorem countInfo_rnd (n : Nat) : (countInfo s n).rnd = s.rnd := rfl
@[simp] theorem countInfo_dsp (n : Nat) : (countInfo s n).dsp = s.dsp := rfl
@[simp] theorem countInfo_val (n : Nat) : (countInfo s n).val = s.val := rfl
@[simp] theorem countInfo_art (n : Nat) : (countInfo s n).art = s.art := rfl
@[simp] theorem countInfo_flash (n : Nat) : (countInfo s n).flash = s.flash := rfl
@[simp] theorem countInfo_pwr (n : Nat) : (countInfo s n).pwr = s.pwr := rfl
@[simp] theorem countInfo_otp (n : Nat) : (countInfo s n).otp = s.otp := rfl
@[simp] theorem countInfo_boot (n : Nat) : (countInfo s n).boot = s.boot := rfl
@[simp] theorem countInfo_upd (n : Nat) : (countInfo s n).upd = s.upd := rfl
@[simp] theorem countInfo_aud (n : Nat) : (countInfo s n).aud = s.aud := rfl
@[simp] theorem countInfo_tch (n : Nat) : (countInfo s n).tch = s.tch := rfl
@[simp] theorem countInfo_hap (n : Nat) : (countInfo s n).hap = s.hap := rfl

@[simp] theorem setInst_pending (n : Nat) (x : Inst) : (setInst s n x).pending = s.pending := rfl
@[simp] theorem setInst_free (n : Nat) (x : Inst) : (setInst s n x).free = s.free := rfl
@[simp] theorem setInst_out (n : Nat) (x : Inst) : (setInst s n x).out = s.out := rfl
@[simp] theorem setInst_touched (n : Nat) (x : Inst) : (setInst s n x).touched = s.touched := rfl
@[simp] theorem setInst_meet (n : Nat) (x : Inst) : (setInst s n x).meet = s.meet := rfl
@[simp] theorem setInst_regs (n : Nat) (x : Inst) : (setInst s n x).regs = s.regs := rfl
@[simp] theorem setInst_time (n : Nat) (x : Inst) : (setInst s n x).time = s.time := rfl
@[simp] theorem setInst_host (n : Nat) (x : Inst) : (setInst s n x).host = s.host := rfl
@[simp] theorem setInst_shl (n : Nat) (x : Inst) : (setInst s n x).shl = s.shl := rfl
@[simp] theorem setInst_mem (n : Nat) (x : Inst) : (setInst s n x).mem = s.mem := rfl
@[simp] theorem setInst_rnd (n : Nat) (x : Inst) : (setInst s n x).rnd = s.rnd := rfl
@[simp] theorem setInst_dsp (n : Nat) (x : Inst) : (setInst s n x).dsp = s.dsp := rfl
@[simp] theorem setInst_val (n : Nat) (x : Inst) : (setInst s n x).val = s.val := rfl
@[simp] theorem setInst_art (n : Nat) (x : Inst) : (setInst s n x).art = s.art := rfl
@[simp] theorem setInst_flash (n : Nat) (x : Inst) : (setInst s n x).flash = s.flash := rfl
@[simp] theorem setInst_pwr (n : Nat) (x : Inst) : (setInst s n x).pwr = s.pwr := rfl
@[simp] theorem setInst_otp (n : Nat) (x : Inst) : (setInst s n x).otp = s.otp := rfl
@[simp] theorem setInst_boot (n : Nat) (x : Inst) : (setInst s n x).boot = s.boot := rfl
@[simp] theorem setInst_upd (n : Nat) (x : Inst) : (setInst s n x).upd = s.upd := rfl
@[simp] theorem setInst_aud (n : Nat) (x : Inst) : (setInst s n x).aud = s.aud := rfl
@[simp] theorem setInst_tch (n : Nat) (x : Inst) : (setInst s n x).tch = s.tch := rfl
@[simp] theorem setInst_hap (n : Nat) (x : Inst) : (setInst s n x).hap = s.hap := rfl

@[simp] theorem setLease_pending (k u : Nat) (x : Lease) : (setLease s k u x).pending = s.pending := rfl
@[simp] theorem setLease_free (k u : Nat) (x : Lease) : (setLease s k u x).free = s.free := rfl
@[simp] theorem setLease_out (k u : Nat) (x : Lease) : (setLease s k u x).out = s.out := rfl
@[simp] theorem setLease_touched (k u : Nat) (x : Lease) : (setLease s k u x).touched = s.touched := rfl
@[simp] theorem setLease_meet (k u : Nat) (x : Lease) : (setLease s k u x).meet = s.meet := rfl
@[simp] theorem setLease_regs (k u : Nat) (x : Lease) : (setLease s k u x).regs = s.regs := rfl
@[simp] theorem setLease_time (k u : Nat) (x : Lease) : (setLease s k u x).time = s.time := rfl
@[simp] theorem setLease_host (k u : Nat) (x : Lease) : (setLease s k u x).host = s.host := rfl
@[simp] theorem setLease_shl (k u : Nat) (x : Lease) : (setLease s k u x).shl = s.shl := rfl
@[simp] theorem setLease_mem (k u : Nat) (x : Lease) : (setLease s k u x).mem = s.mem := rfl
@[simp] theorem setLease_rnd (k u : Nat) (x : Lease) : (setLease s k u x).rnd = s.rnd := rfl
@[simp] theorem setLease_dsp (k u : Nat) (x : Lease) : (setLease s k u x).dsp = s.dsp := rfl
@[simp] theorem setLease_val (k u : Nat) (x : Lease) : (setLease s k u x).val = s.val := rfl
@[simp] theorem setLease_art (k u : Nat) (x : Lease) : (setLease s k u x).art = s.art := rfl
@[simp] theorem setLease_flash (k u : Nat) (x : Lease) : (setLease s k u x).flash = s.flash := rfl
@[simp] theorem setLease_pwr (k u : Nat) (x : Lease) : (setLease s k u x).pwr = s.pwr := rfl
@[simp] theorem setLease_otp (k u : Nat) (x : Lease) : (setLease s k u x).otp = s.otp := rfl
@[simp] theorem setLease_boot (k u : Nat) (x : Lease) : (setLease s k u x).boot = s.boot := rfl
@[simp] theorem setLease_upd (k u : Nat) (x : Lease) : (setLease s k u x).upd = s.upd := rfl
@[simp] theorem setLease_aud (k u : Nat) (x : Lease) : (setLease s k u x).aud = s.aud := rfl
@[simp] theorem setLease_tch (k u : Nat) (x : Lease) : (setLease s k u x).tch = s.tch := rfl
@[simp] theorem setLease_hap (k u : Nat) (x : Lease) : (setLease s k u x).hap = s.hap := rfl

@[simp] theorem setSq_pending (f q : Nat) (x : SqState) : (setSq s f q x).pending = s.pending := rfl
@[simp] theorem setSq_free (f q : Nat) (x : SqState) : (setSq s f q x).free = s.free := rfl
@[simp] theorem setSq_out (f q : Nat) (x : SqState) : (setSq s f q x).out = s.out := rfl
@[simp] theorem setSq_touched (f q : Nat) (x : SqState) : (setSq s f q x).touched = s.touched := rfl
@[simp] theorem setSq_meet (f q : Nat) (x : SqState) : (setSq s f q x).meet = s.meet := rfl
@[simp] theorem setSq_regs (f q : Nat) (x : SqState) : (setSq s f q x).regs = s.regs := rfl
@[simp] theorem setSq_time (f q : Nat) (x : SqState) : (setSq s f q x).time = s.time := rfl
@[simp] theorem setSq_fab (f q : Nat) (x : SqState) : (setSq s f q x).fab = s.fab := rfl
@[simp] theorem setSq_shl (f q : Nat) (x : SqState) : (setSq s f q x).shl = s.shl := rfl
@[simp] theorem setSq_mem (f q : Nat) (x : SqState) : (setSq s f q x).mem = s.mem := rfl
@[simp] theorem setSq_rnd (f q : Nat) (x : SqState) : (setSq s f q x).rnd = s.rnd := rfl
@[simp] theorem setSq_dsp (f q : Nat) (x : SqState) : (setSq s f q x).dsp = s.dsp := rfl
@[simp] theorem setSq_val (f q : Nat) (x : SqState) : (setSq s f q x).val = s.val := rfl
@[simp] theorem setSq_art (f q : Nat) (x : SqState) : (setSq s f q x).art = s.art := rfl
@[simp] theorem setSq_flash (f q : Nat) (x : SqState) : (setSq s f q x).flash = s.flash := rfl
@[simp] theorem setSq_pwr (f q : Nat) (x : SqState) : (setSq s f q x).pwr = s.pwr := rfl
@[simp] theorem setSq_otp (f q : Nat) (x : SqState) : (setSq s f q x).otp = s.otp := rfl
@[simp] theorem setSq_boot (f q : Nat) (x : SqState) : (setSq s f q x).boot = s.boot := rfl
@[simp] theorem setSq_upd (f q : Nat) (x : SqState) : (setSq s f q x).upd = s.upd := rfl
@[simp] theorem setSq_aud (f q : Nat) (x : SqState) : (setSq s f q x).aud = s.aud := rfl
@[simp] theorem setSq_tch (f q : Nat) (x : SqState) : (setSq s f q x).tch = s.tch := rfl
@[simp] theorem setSq_hap (f q : Nat) (x : SqState) : (setSq s f q x).hap = s.hap := rfl

@[simp] theorem setCq_pending (f q : Nat) (x : CqState) : (setCq s f q x).pending = s.pending := rfl
@[simp] theorem setCq_free (f q : Nat) (x : CqState) : (setCq s f q x).free = s.free := rfl
@[simp] theorem setCq_out (f q : Nat) (x : CqState) : (setCq s f q x).out = s.out := rfl
@[simp] theorem setCq_touched (f q : Nat) (x : CqState) : (setCq s f q x).touched = s.touched := rfl
@[simp] theorem setCq_meet (f q : Nat) (x : CqState) : (setCq s f q x).meet = s.meet := rfl
@[simp] theorem setCq_regs (f q : Nat) (x : CqState) : (setCq s f q x).regs = s.regs := rfl
@[simp] theorem setCq_time (f q : Nat) (x : CqState) : (setCq s f q x).time = s.time := rfl
@[simp] theorem setCq_fab (f q : Nat) (x : CqState) : (setCq s f q x).fab = s.fab := rfl
@[simp] theorem setCq_shl (f q : Nat) (x : CqState) : (setCq s f q x).shl = s.shl := rfl
@[simp] theorem setCq_mem (f q : Nat) (x : CqState) : (setCq s f q x).mem = s.mem := rfl
@[simp] theorem setCq_rnd (f q : Nat) (x : CqState) : (setCq s f q x).rnd = s.rnd := rfl
@[simp] theorem setCq_dsp (f q : Nat) (x : CqState) : (setCq s f q x).dsp = s.dsp := rfl
@[simp] theorem setCq_val (f q : Nat) (x : CqState) : (setCq s f q x).val = s.val := rfl
@[simp] theorem setCq_art (f q : Nat) (x : CqState) : (setCq s f q x).art = s.art := rfl
@[simp] theorem setCq_flash (f q : Nat) (x : CqState) : (setCq s f q x).flash = s.flash := rfl
@[simp] theorem setCq_pwr (f q : Nat) (x : CqState) : (setCq s f q x).pwr = s.pwr := rfl
@[simp] theorem setCq_otp (f q : Nat) (x : CqState) : (setCq s f q x).otp = s.otp := rfl
@[simp] theorem setCq_boot (f q : Nat) (x : CqState) : (setCq s f q x).boot = s.boot := rfl
@[simp] theorem setCq_upd (f q : Nat) (x : CqState) : (setCq s f q x).upd = s.upd := rfl
@[simp] theorem setCq_aud (f q : Nat) (x : CqState) : (setCq s f q x).aud = s.aud := rfl
@[simp] theorem setCq_tch (f q : Nat) (x : CqState) : (setCq s f q x).tch = s.tch := rfl
@[simp] theorem setCq_hap (f q : Nat) (x : CqState) : (setCq s f q x).hap = s.hap := rfl

@[simp] theorem setEq_pending (f : Nat) (x : CqState) : (setEq s f x).pending = s.pending := rfl
@[simp] theorem setEq_free (f : Nat) (x : CqState) : (setEq s f x).free = s.free := rfl
@[simp] theorem setEq_out (f : Nat) (x : CqState) : (setEq s f x).out = s.out := rfl
@[simp] theorem setEq_touched (f : Nat) (x : CqState) : (setEq s f x).touched = s.touched := rfl
@[simp] theorem setEq_meet (f : Nat) (x : CqState) : (setEq s f x).meet = s.meet := rfl
@[simp] theorem setEq_regs (f : Nat) (x : CqState) : (setEq s f x).regs = s.regs := rfl
@[simp] theorem setEq_time (f : Nat) (x : CqState) : (setEq s f x).time = s.time := rfl
@[simp] theorem setEq_fab (f : Nat) (x : CqState) : (setEq s f x).fab = s.fab := rfl
@[simp] theorem setEq_shl (f : Nat) (x : CqState) : (setEq s f x).shl = s.shl := rfl
@[simp] theorem setEq_mem (f : Nat) (x : CqState) : (setEq s f x).mem = s.mem := rfl
@[simp] theorem setEq_rnd (f : Nat) (x : CqState) : (setEq s f x).rnd = s.rnd := rfl
@[simp] theorem setEq_dsp (f : Nat) (x : CqState) : (setEq s f x).dsp = s.dsp := rfl
@[simp] theorem setEq_val (f : Nat) (x : CqState) : (setEq s f x).val = s.val := rfl
@[simp] theorem setEq_art (f : Nat) (x : CqState) : (setEq s f x).art = s.art := rfl
@[simp] theorem setEq_flash (f : Nat) (x : CqState) : (setEq s f x).flash = s.flash := rfl
@[simp] theorem setEq_pwr (f : Nat) (x : CqState) : (setEq s f x).pwr = s.pwr := rfl
@[simp] theorem setEq_otp (f : Nat) (x : CqState) : (setEq s f x).otp = s.otp := rfl
@[simp] theorem setEq_boot (f : Nat) (x : CqState) : (setEq s f x).boot = s.boot := rfl
@[simp] theorem setEq_upd (f : Nat) (x : CqState) : (setEq s f x).upd = s.upd := rfl
@[simp] theorem setEq_aud (f : Nat) (x : CqState) : (setEq s f x).aud = s.aud := rfl
@[simp] theorem setEq_tch (f : Nat) (x : CqState) : (setEq s f x).tch = s.tch := rfl
@[simp] theorem setEq_hap (f : Nat) (x : CqState) : (setEq s f x).hap = s.hap := rfl

@[simp] theorem writeMem_pending (a : Nat) (bs : List Byte) : (writeMem s a bs).pending = s.pending := rfl
@[simp] theorem writeMem_free (a : Nat) (bs : List Byte) : (writeMem s a bs).free = s.free := rfl
@[simp] theorem writeMem_out (a : Nat) (bs : List Byte) : (writeMem s a bs).out = s.out := rfl
@[simp] theorem writeMem_meet (a : Nat) (bs : List Byte) : (writeMem s a bs).meet = s.meet := rfl
@[simp] theorem writeMem_regs (a : Nat) (bs : List Byte) : (writeMem s a bs).regs = s.regs := rfl
@[simp] theorem writeMem_time (a : Nat) (bs : List Byte) : (writeMem s a bs).time = s.time := rfl
@[simp] theorem writeMem_fab (a : Nat) (bs : List Byte) : (writeMem s a bs).fab = s.fab := rfl
@[simp] theorem writeMem_host (a : Nat) (bs : List Byte) : (writeMem s a bs).host = s.host := rfl
@[simp] theorem writeMem_shl (a : Nat) (bs : List Byte) : (writeMem s a bs).shl = s.shl := rfl
@[simp] theorem writeMem_rnd (a : Nat) (bs : List Byte) : (writeMem s a bs).rnd = s.rnd := rfl
@[simp] theorem writeMem_dsp (a : Nat) (bs : List Byte) : (writeMem s a bs).dsp = s.dsp := rfl
@[simp] theorem writeMem_val (a : Nat) (bs : List Byte) : (writeMem s a bs).val = s.val := rfl
@[simp] theorem writeMem_art (a : Nat) (bs : List Byte) : (writeMem s a bs).art = s.art := rfl
@[simp] theorem writeMem_flash (a : Nat) (bs : List Byte) : (writeMem s a bs).flash = s.flash := rfl
@[simp] theorem writeMem_pwr (a : Nat) (bs : List Byte) : (writeMem s a bs).pwr = s.pwr := rfl
@[simp] theorem writeMem_otp (a : Nat) (bs : List Byte) : (writeMem s a bs).otp = s.otp := rfl
@[simp] theorem writeMem_boot (a : Nat) (bs : List Byte) : (writeMem s a bs).boot = s.boot := rfl
@[simp] theorem writeMem_upd (a : Nat) (bs : List Byte) : (writeMem s a bs).upd = s.upd := rfl
@[simp] theorem writeMem_aud (a : Nat) (bs : List Byte) : (writeMem s a bs).aud = s.aud := rfl
@[simp] theorem writeMem_tch (a : Nat) (bs : List Byte) : (writeMem s a bs).tch = s.tch := rfl
@[simp] theorem writeMem_hap (a : Nat) (bs : List Byte) : (writeMem s a bs).hap = s.hap := rfl

@[simp] theorem putMem_pending (a : Nat) (bs : List Byte) : (putMem s a bs).pending = s.pending := rfl
@[simp] theorem putMem_free (a : Nat) (bs : List Byte) : (putMem s a bs).free = s.free := rfl
@[simp] theorem putMem_out (a : Nat) (bs : List Byte) : (putMem s a bs).out = s.out := rfl
@[simp] theorem putMem_touched (a : Nat) (bs : List Byte) : (putMem s a bs).touched = s.touched := rfl
@[simp] theorem putMem_meet (a : Nat) (bs : List Byte) : (putMem s a bs).meet = s.meet := rfl
@[simp] theorem putMem_regs (a : Nat) (bs : List Byte) : (putMem s a bs).regs = s.regs := rfl
@[simp] theorem putMem_time (a : Nat) (bs : List Byte) : (putMem s a bs).time = s.time := rfl
@[simp] theorem putMem_fab (a : Nat) (bs : List Byte) : (putMem s a bs).fab = s.fab := rfl
@[simp] theorem putMem_host (a : Nat) (bs : List Byte) : (putMem s a bs).host = s.host := rfl
@[simp] theorem putMem_shl (a : Nat) (bs : List Byte) : (putMem s a bs).shl = s.shl := rfl
@[simp] theorem putMem_rnd (a : Nat) (bs : List Byte) : (putMem s a bs).rnd = s.rnd := rfl
@[simp] theorem putMem_dsp (a : Nat) (bs : List Byte) : (putMem s a bs).dsp = s.dsp := rfl
@[simp] theorem putMem_val (a : Nat) (bs : List Byte) : (putMem s a bs).val = s.val := rfl
@[simp] theorem putMem_art (a : Nat) (bs : List Byte) : (putMem s a bs).art = s.art := rfl
@[simp] theorem putMem_flash (a : Nat) (bs : List Byte) : (putMem s a bs).flash = s.flash := rfl
@[simp] theorem putMem_pwr (a : Nat) (bs : List Byte) : (putMem s a bs).pwr = s.pwr := rfl
@[simp] theorem putMem_otp (a : Nat) (bs : List Byte) : (putMem s a bs).otp = s.otp := rfl
@[simp] theorem putMem_boot (a : Nat) (bs : List Byte) : (putMem s a bs).boot = s.boot := rfl
@[simp] theorem putMem_upd (a : Nat) (bs : List Byte) : (putMem s a bs).upd = s.upd := rfl
@[simp] theorem putMem_aud (a : Nat) (bs : List Byte) : (putMem s a bs).aud = s.aud := rfl
@[simp] theorem putMem_tch (a : Nat) (bs : List Byte) : (putMem s a bs).tch = s.tch := rfl
@[simp] theorem putMem_hap (a : Nat) (bs : List Byte) : (putMem s a bs).hap = s.hap := rfl

@[simp] theorem touch_pending (a n : Nat) : (touch s a n).pending = s.pending := rfl
@[simp] theorem touch_free (a n : Nat) : (touch s a n).free = s.free := rfl
@[simp] theorem touch_out (a n : Nat) : (touch s a n).out = s.out := rfl
@[simp] theorem touch_meet (a n : Nat) : (touch s a n).meet = s.meet := rfl
@[simp] theorem touch_regs (a n : Nat) : (touch s a n).regs = s.regs := rfl
@[simp] theorem touch_time (a n : Nat) : (touch s a n).time = s.time := rfl
@[simp] theorem touch_fab (a n : Nat) : (touch s a n).fab = s.fab := rfl
@[simp] theorem touch_host (a n : Nat) : (touch s a n).host = s.host := rfl
@[simp] theorem touch_shl (a n : Nat) : (touch s a n).shl = s.shl := rfl
@[simp] theorem touch_mem (a n : Nat) : (touch s a n).mem = s.mem := rfl
@[simp] theorem touch_rnd (a n : Nat) : (touch s a n).rnd = s.rnd := rfl
@[simp] theorem touch_dsp (a n : Nat) : (touch s a n).dsp = s.dsp := rfl
@[simp] theorem touch_val (a n : Nat) : (touch s a n).val = s.val := rfl
@[simp] theorem touch_art (a n : Nat) : (touch s a n).art = s.art := rfl
@[simp] theorem touch_flash (a n : Nat) : (touch s a n).flash = s.flash := rfl
@[simp] theorem touch_pwr (a n : Nat) : (touch s a n).pwr = s.pwr := rfl
@[simp] theorem touch_otp (a n : Nat) : (touch s a n).otp = s.otp := rfl
@[simp] theorem touch_boot (a n : Nat) : (touch s a n).boot = s.boot := rfl
@[simp] theorem touch_upd (a n : Nat) : (touch s a n).upd = s.upd := rfl
@[simp] theorem touch_aud (a n : Nat) : (touch s a n).aud = s.aud := rfl
@[simp] theorem touch_tch (a n : Nat) : (touch s a n).tch = s.tch := rfl
@[simp] theorem touch_hap (a n : Nat) : (touch s a n).hap = s.hap := rfl

@[simp] theorem zeroMem_pending (a b : Nat) : (zeroMem s a b).pending = s.pending := rfl
@[simp] theorem zeroMem_free (a b : Nat) : (zeroMem s a b).free = s.free := rfl
@[simp] theorem zeroMem_out (a b : Nat) : (zeroMem s a b).out = s.out := rfl
@[simp] theorem zeroMem_touched (a b : Nat) : (zeroMem s a b).touched = s.touched := rfl
@[simp] theorem zeroMem_meet (a b : Nat) : (zeroMem s a b).meet = s.meet := rfl
@[simp] theorem zeroMem_regs (a b : Nat) : (zeroMem s a b).regs = s.regs := rfl
@[simp] theorem zeroMem_time (a b : Nat) : (zeroMem s a b).time = s.time := rfl
@[simp] theorem zeroMem_fab (a b : Nat) : (zeroMem s a b).fab = s.fab := rfl
@[simp] theorem zeroMem_host (a b : Nat) : (zeroMem s a b).host = s.host := rfl
@[simp] theorem zeroMem_shl (a b : Nat) : (zeroMem s a b).shl = s.shl := rfl
@[simp] theorem zeroMem_rnd (a b : Nat) : (zeroMem s a b).rnd = s.rnd := rfl
@[simp] theorem zeroMem_dsp (a b : Nat) : (zeroMem s a b).dsp = s.dsp := rfl
@[simp] theorem zeroMem_val (a b : Nat) : (zeroMem s a b).val = s.val := rfl
@[simp] theorem zeroMem_art (a b : Nat) : (zeroMem s a b).art = s.art := rfl
@[simp] theorem zeroMem_flash (a b : Nat) : (zeroMem s a b).flash = s.flash := rfl
@[simp] theorem zeroMem_pwr (a b : Nat) : (zeroMem s a b).pwr = s.pwr := rfl
@[simp] theorem zeroMem_otp (a b : Nat) : (zeroMem s a b).otp = s.otp := rfl
@[simp] theorem zeroMem_boot (a b : Nat) : (zeroMem s a b).boot = s.boot := rfl
@[simp] theorem zeroMem_upd (a b : Nat) : (zeroMem s a b).upd = s.upd := rfl
@[simp] theorem zeroMem_aud (a b : Nat) : (zeroMem s a b).aud = s.aud := rfl
@[simp] theorem zeroMem_tch (a b : Nat) : (zeroMem s a b).tch = s.tch := rfl
@[simp] theorem zeroMem_hap (a b : Nat) : (zeroMem s a b).hap = s.hap := rfl

@[simp] theorem setPipe_pending (p : Nat) (x : Pipe) : (setPipe s p x).pending = s.pending := rfl
@[simp] theorem setPipe_free (p : Nat) (x : Pipe) : (setPipe s p x).free = s.free := rfl
@[simp] theorem setPipe_out (p : Nat) (x : Pipe) : (setPipe s p x).out = s.out := rfl
@[simp] theorem setPipe_touched (p : Nat) (x : Pipe) : (setPipe s p x).touched = s.touched := rfl
@[simp] theorem setPipe_meet (p : Nat) (x : Pipe) : (setPipe s p x).meet = s.meet := rfl
@[simp] theorem setPipe_regs (p : Nat) (x : Pipe) : (setPipe s p x).regs = s.regs := rfl
@[simp] theorem setPipe_time (p : Nat) (x : Pipe) : (setPipe s p x).time = s.time := rfl
@[simp] theorem setPipe_fab (p : Nat) (x : Pipe) : (setPipe s p x).fab = s.fab := rfl
@[simp] theorem setPipe_host (p : Nat) (x : Pipe) : (setPipe s p x).host = s.host := rfl
@[simp] theorem setPipe_shl (p : Nat) (x : Pipe) : (setPipe s p x).shl = s.shl := rfl
@[simp] theorem setPipe_mem (p : Nat) (x : Pipe) : (setPipe s p x).mem = s.mem := rfl
@[simp] theorem setPipe_rnd (p : Nat) (x : Pipe) : (setPipe s p x).rnd = s.rnd := rfl
@[simp] theorem setPipe_val (p : Nat) (x : Pipe) : (setPipe s p x).val = s.val := rfl
@[simp] theorem setPipe_art (p : Nat) (x : Pipe) : (setPipe s p x).art = s.art := rfl
@[simp] theorem setPipe_flash (p : Nat) (x : Pipe) : (setPipe s p x).flash = s.flash := rfl
@[simp] theorem setPipe_pwr (p : Nat) (x : Pipe) : (setPipe s p x).pwr = s.pwr := rfl
@[simp] theorem setPipe_otp (p : Nat) (x : Pipe) : (setPipe s p x).otp = s.otp := rfl
@[simp] theorem setPipe_boot (p : Nat) (x : Pipe) : (setPipe s p x).boot = s.boot := rfl
@[simp] theorem setPipe_upd (p : Nat) (x : Pipe) : (setPipe s p x).upd = s.upd := rfl
@[simp] theorem setPipe_aud (p : Nat) (x : Pipe) : (setPipe s p x).aud = s.aud := rfl
@[simp] theorem setPipe_tch (p : Nat) (x : Pipe) : (setPipe s p x).tch = s.tch := rfl
@[simp] theorem setPipe_hap (p : Nat) (x : Pipe) : (setPipe s p x).hap = s.hap := rfl

@[simp] theorem setHead_pending (h : Nat) (x : Head) : (setHead s h x).pending = s.pending := rfl
@[simp] theorem setHead_free (h : Nat) (x : Head) : (setHead s h x).free = s.free := rfl
@[simp] theorem setHead_out (h : Nat) (x : Head) : (setHead s h x).out = s.out := rfl
@[simp] theorem setHead_touched (h : Nat) (x : Head) : (setHead s h x).touched = s.touched := rfl
@[simp] theorem setHead_meet (h : Nat) (x : Head) : (setHead s h x).meet = s.meet := rfl
@[simp] theorem setHead_regs (h : Nat) (x : Head) : (setHead s h x).regs = s.regs := rfl
@[simp] theorem setHead_time (h : Nat) (x : Head) : (setHead s h x).time = s.time := rfl
@[simp] theorem setHead_fab (h : Nat) (x : Head) : (setHead s h x).fab = s.fab := rfl
@[simp] theorem setHead_host (h : Nat) (x : Head) : (setHead s h x).host = s.host := rfl
@[simp] theorem setHead_shl (h : Nat) (x : Head) : (setHead s h x).shl = s.shl := rfl
@[simp] theorem setHead_mem (h : Nat) (x : Head) : (setHead s h x).mem = s.mem := rfl
@[simp] theorem setHead_rnd (h : Nat) (x : Head) : (setHead s h x).rnd = s.rnd := rfl
@[simp] theorem setHead_val (h : Nat) (x : Head) : (setHead s h x).val = s.val := rfl
@[simp] theorem setHead_art (h : Nat) (x : Head) : (setHead s h x).art = s.art := rfl
@[simp] theorem setHead_flash (h : Nat) (x : Head) : (setHead s h x).flash = s.flash := rfl
@[simp] theorem setHead_pwr (h : Nat) (x : Head) : (setHead s h x).pwr = s.pwr := rfl
@[simp] theorem setHead_otp (h : Nat) (x : Head) : (setHead s h x).otp = s.otp := rfl
@[simp] theorem setHead_boot (h : Nat) (x : Head) : (setHead s h x).boot = s.boot := rfl
@[simp] theorem setHead_upd (h : Nat) (x : Head) : (setHead s h x).upd = s.upd := rfl
@[simp] theorem setHead_aud (h : Nat) (x : Head) : (setHead s h x).aud = s.aud := rfl
@[simp] theorem setHead_tch (h : Nat) (x : Head) : (setHead s h x).tch = s.tch := rfl
@[simp] theorem setHead_hap (h : Nat) (x : Head) : (setHead s h x).hap = s.hap := rfl

@[simp] theorem setGroup_pending (g : Nat) (x : Group) : (setGroup s g x).pending = s.pending := rfl
@[simp] theorem setGroup_free (g : Nat) (x : Group) : (setGroup s g x).free = s.free := rfl
@[simp] theorem setGroup_out (g : Nat) (x : Group) : (setGroup s g x).out = s.out := rfl
@[simp] theorem setGroup_touched (g : Nat) (x : Group) : (setGroup s g x).touched = s.touched := rfl
@[simp] theorem setGroup_meet (g : Nat) (x : Group) : (setGroup s g x).meet = s.meet := rfl
@[simp] theorem setGroup_regs (g : Nat) (x : Group) : (setGroup s g x).regs = s.regs := rfl
@[simp] theorem setGroup_time (g : Nat) (x : Group) : (setGroup s g x).time = s.time := rfl
@[simp] theorem setGroup_fab (g : Nat) (x : Group) : (setGroup s g x).fab = s.fab := rfl
@[simp] theorem setGroup_host (g : Nat) (x : Group) : (setGroup s g x).host = s.host := rfl
@[simp] theorem setGroup_shl (g : Nat) (x : Group) : (setGroup s g x).shl = s.shl := rfl
@[simp] theorem setGroup_mem (g : Nat) (x : Group) : (setGroup s g x).mem = s.mem := rfl
@[simp] theorem setGroup_rnd (g : Nat) (x : Group) : (setGroup s g x).rnd = s.rnd := rfl
@[simp] theorem setGroup_val (g : Nat) (x : Group) : (setGroup s g x).val = s.val := rfl
@[simp] theorem setGroup_art (g : Nat) (x : Group) : (setGroup s g x).art = s.art := rfl
@[simp] theorem setGroup_flash (g : Nat) (x : Group) : (setGroup s g x).flash = s.flash := rfl
@[simp] theorem setGroup_pwr (g : Nat) (x : Group) : (setGroup s g x).pwr = s.pwr := rfl
@[simp] theorem setGroup_otp (g : Nat) (x : Group) : (setGroup s g x).otp = s.otp := rfl
@[simp] theorem setGroup_boot (g : Nat) (x : Group) : (setGroup s g x).boot = s.boot := rfl
@[simp] theorem setGroup_upd (g : Nat) (x : Group) : (setGroup s g x).upd = s.upd := rfl
@[simp] theorem setGroup_aud (g : Nat) (x : Group) : (setGroup s g x).aud = s.aud := rfl
@[simp] theorem setGroup_tch (g : Nat) (x : Group) : (setGroup s g x).tch = s.tch := rfl
@[simp] theorem setGroup_hap (g : Nat) (x : Group) : (setGroup s g x).hap = s.hap := rfl

@[simp] theorem setField_pending (f : Nat) (x : Field) : (setField s f x).pending = s.pending := rfl
@[simp] theorem setField_free (f : Nat) (x : Field) : (setField s f x).free = s.free := rfl
@[simp] theorem setField_out (f : Nat) (x : Field) : (setField s f x).out = s.out := rfl
@[simp] theorem setField_touched (f : Nat) (x : Field) : (setField s f x).touched = s.touched := rfl
@[simp] theorem setField_meet (f : Nat) (x : Field) : (setField s f x).meet = s.meet := rfl
@[simp] theorem setField_regs (f : Nat) (x : Field) : (setField s f x).regs = s.regs := rfl
@[simp] theorem setField_time (f : Nat) (x : Field) : (setField s f x).time = s.time := rfl
@[simp] theorem setField_fab (f : Nat) (x : Field) : (setField s f x).fab = s.fab := rfl
@[simp] theorem setField_host (f : Nat) (x : Field) : (setField s f x).host = s.host := rfl
@[simp] theorem setField_shl (f : Nat) (x : Field) : (setField s f x).shl = s.shl := rfl
@[simp] theorem setField_mem (f : Nat) (x : Field) : (setField s f x).mem = s.mem := rfl
@[simp] theorem setField_rnd (f : Nat) (x : Field) : (setField s f x).rnd = s.rnd := rfl
@[simp] theorem setField_dsp (f : Nat) (x : Field) : (setField s f x).dsp = s.dsp := rfl
@[simp] theorem setField_art (f : Nat) (x : Field) : (setField s f x).art = s.art := rfl
@[simp] theorem setField_flash (f : Nat) (x : Field) : (setField s f x).flash = s.flash := rfl
@[simp] theorem setField_pwr (f : Nat) (x : Field) : (setField s f x).pwr = s.pwr := rfl
@[simp] theorem setField_otp (f : Nat) (x : Field) : (setField s f x).otp = s.otp := rfl
@[simp] theorem setField_boot (f : Nat) (x : Field) : (setField s f x).boot = s.boot := rfl
@[simp] theorem setField_upd (f : Nat) (x : Field) : (setField s f x).upd = s.upd := rfl
@[simp] theorem setField_aud (f : Nat) (x : Field) : (setField s f x).aud = s.aud := rfl
@[simp] theorem setField_tch (f : Nat) (x : Field) : (setField s f x).tch = s.tch := rfl
@[simp] theorem setField_hap (f : Nat) (x : Field) : (setField s f x).hap = s.hap := rfl

@[simp] theorem setActive_pending (v : View) : (setActive s v).pending = s.pending := rfl
@[simp] theorem setActive_free (v : View) : (setActive s v).free = s.free := rfl
@[simp] theorem setActive_out (v : View) : (setActive s v).out = s.out := rfl
@[simp] theorem setActive_touched (v : View) : (setActive s v).touched = s.touched := rfl
@[simp] theorem setActive_meet (v : View) : (setActive s v).meet = s.meet := rfl
@[simp] theorem setActive_regs (v : View) : (setActive s v).regs = s.regs := rfl
@[simp] theorem setActive_time (v : View) : (setActive s v).time = s.time := rfl
@[simp] theorem setActive_fab (v : View) : (setActive s v).fab = s.fab := rfl
@[simp] theorem setActive_host (v : View) : (setActive s v).host = s.host := rfl
@[simp] theorem setActive_shl (v : View) : (setActive s v).shl = s.shl := rfl
@[simp] theorem setActive_mem (v : View) : (setActive s v).mem = s.mem := rfl
@[simp] theorem setActive_rnd (v : View) : (setActive s v).rnd = s.rnd := rfl
@[simp] theorem setActive_val (v : View) : (setActive s v).val = s.val := rfl
@[simp] theorem setActive_art (v : View) : (setActive s v).art = s.art := rfl
@[simp] theorem setActive_flash (v : View) : (setActive s v).flash = s.flash := rfl
@[simp] theorem setActive_pwr (v : View) : (setActive s v).pwr = s.pwr := rfl
@[simp] theorem setActive_otp (v : View) : (setActive s v).otp = s.otp := rfl
@[simp] theorem setActive_boot (v : View) : (setActive s v).boot = s.boot := rfl
@[simp] theorem setActive_upd (v : View) : (setActive s v).upd = s.upd := rfl
@[simp] theorem setActive_aud (v : View) : (setActive s v).aud = s.aud := rfl
@[simp] theorem setActive_tch (v : View) : (setActive s v).tch = s.tch := rfl
@[simp] theorem setActive_hap (v : View) : (setActive s v).hap = s.hap := rfl

/-! ### What they set -/

@[simp] theorem spend_free : (spend s).free = s.free + 1 := rfl
@[simp] theorem send_out (m : HostMsg) : (send s m).out = s.out ++ [m] := rfl
@[simp] theorem begin_out (t : Nat) : (begin t s).out = [] := by unfold begin advance; split <;> rfl
@[simp] theorem begin_touched (t : Nat) : (begin t s).touched = [] := by unfold begin advance; split <;> rfl
@[simp] theorem setActive_active (v : View) : (setActive s v).dsp.active = v := rfl

end Sys2Proof.Machine
end

