-- ==== Sys2Proof/Laws/Ops.lean ====
section
/-! SUPPORT. What the shared operations do: time, the end of an event, the state a command leaves. -/

namespace Sys2Proof.Machine

/-! ### Device time -/

/-- While DTIME runs, a command acts at its own stamp (R33). -/
theorem now_begin (t : Nat) (s : State) (hr : s.time.run = true) : now (begin t s) = t := by
  unfold begin advance now
  rw [if_pos (by exact hr)]

@[simp] theorem rd_begin (t : Nat) (s : State) (r : Reg) : rd (begin t s) r = rd s r := by simp [rd]
@[simp] theorem rdF_begin (t : Nat) (s : State) (f : Fld) : rdF (begin t s) f = rdF s f := by simp [rdF]
@[simp] theorem flag_begin (t : Nat) (s : State) (f : Fld) : flag (begin t s) f = flag s f := by simp [flag]

/-! ### Fields of the state that a register operation leaves -/

@[simp] theorem now_wr (s : State) (r : Reg) (v : Word) : now (wr s r v) = now s := rfl
@[simp] theorem now_wrF (s : State) (f : Fld) (v : Nat) : now (wrF s f v) = now s := rfl
@[simp] theorem now_wrB (s : State) (f : Fld) (b : Bool) : now (wrB s f b) = now s := rfl
@[simp] theorem now_incF (s : State) (f : Fld) (n : Nat) : now (incF s f n) = now s := rfl
@[simp] theorem now_settle (s : State) : now (settle s) = now s := rfl

/-- Setting a W1C bit changes its register alone. -/
theorem rd_raiseF_ne (s : State) {f : Fld} (v : Nat) {r : Reg} (h : r.key ≠ f.reg.key) : rd (raiseF s f v) r = rd s r := by
  simp only [raiseF]
  rw [rd_wrF_ne _ _ h]
  rfl

/-! ### The end of an event -/

/-- The end of an event changes no register but SHL_ALERT and its latch. -/
theorem rd_settle (s : State) (r : Reg) (h : isAlert r = false) : rd (settle s) r = rd s r := by
  have h := of_decide_eq_false h
  have h1 : r.key ≠ Reg.SHL_ALERT.key := fun c => h (Or.inl c)
  have h2 : r.key ≠ Reg.SHL_ALERT_LATCH.key := fun c => h (Or.inr c)
  simp only [settle]
  rw [rd_raiseF_ne _ _ h2, rd_wrF_ne _ _ h1]

theorem rdF_settle (s : State) (f : Fld) (h : isAlert f.reg = false) : rdF (settle s) f = rdF s f := by rw [rdF, rd_settle s _ h, rdF]

theorem flag_settle (s : State) (f : Fld) (h : isAlert f.reg = false) : flag (settle s) f = flag s f := by rw [flag, rdF_settle s f h, flag]

/-- A command on the blocks outside PD0, while they are out of reset. -/
theorem act_run (t : Nat) (f : State → State) (s : State) (h : s.pwr.phase = .run) : act t f s = .next (settle (f (begin t s))) := by
  simp [act, actIf, running, h]

/-- A command on PD0 while it is powered. -/
theorem actPd0_run (t : Nat) (f : State → State) (s : State) (h : s.pwr.pd0 = true) : actPd0 t f s = .next (settle (f (begin t s))) := by
  simp [actPd0, actIf, h]

/-- Claims about a command on the blocks outside PD0 come down to what its effect leaves. -/
theorem runs_of_act {i : Instr} {s : State} {P : State → Prop} (t : Nat) (f : State → State) (hr : s.pwr.phase = .run)
    (he : exec i s = act t f s) (hp : P (settle (f (begin t s)))) : Runs i s P := ⟨_, by rw [he, act_run t f s hr], hp⟩

/-! ### Lists of operations -/

@[simp] theorem forEach_nil {α : Type} (f : α → State → State) (s : State) : forEach [] f s = s := rfl
@[simp] theorem forEach_cons {α : Type} (a : α) (l : List α) (f : α → State → State) (s : State) : forEach (a :: l) f s = forEach l f (f a s) := rfl

/-- What every operation of a list keeps, the list keeps. -/
theorem forEach_keeps {α : Type} (P : State → Prop) (f : α → State → State) (l : List α) (h : ∀ a ∈ l, ∀ s, P s → P (f a s)) :
    ∀ s, P s → P (forEach l f s) := by
  induction l with
  | nil => exact fun _ hs => hs
  | cons a l ih => exact fun s hs => ih (fun b hb => h b (by simp [hb])) _ (h a (by simp) s hs)

end Sys2Proof.Machine
end

