-- ==== Sys2Proof/Tests/Slice0.lean ====
section
/-! SUPPORT. Tests of the model: ill-formed commands, worked examples of the spec, commands on small states, and for each statement
with hypotheses a state and operands that meet them. -/

set_option Elab.async false

namespace Sys2Proof.Tests

open Sys2Proof Sys2Proof.Machine

/-! ### Ill-formed commands: each check refuses one -/

theorem test_ill_formed_1 : ([.registerWrite 0 257 0 0 0, .registerWrite 0 0 (2 ^ 25) 0 0, .registerWrite 0 0 0 9 0, .latchedLowWordRead 0 257 0 0, .latchedLowWordRead 0 0 (2 ^ 25) 0, .latchedLowWordRead 0 0 0 9, .readClearCounter 0 257 0 0, .readClearCounter 0 0 (2 ^ 25) 0, .readClearCounter 0 0 0 9, .tileRowScan 0 12 0, .tileRowScan 0 0 135, .batch 0 65536 0, .vfFlr 0 257, .resetComplete 0 257, .drainTimeout 0 257, .contextPreemptTimeout 0 512] : List Instr).all (fun i => !(wellFormed i)) = true := by decide

theorem test_ill_formed_2 : ([.destroyComplete 0 257, .numvfsLower 0 257, .leaseKick 0 257 0, .leaseKick 0 0 65536, .leaseExpiry 0 8 0, .leaseExpiry 0 0 16384, .revocationComplete 0 8 0, .revocationComplete 0 0 16384, .leaseRequest 0 257 0 0, .leaseRequest 0 0 65536 0, .leaseRelease 0 257 0 0, .leaseRelease 0 0 65536 0, .setup 0 257 0 0, .setup 0 0 65536 0, .query 0 257 0 0, .query 0 0 65536 0] : List Instr).all (fun i => !(wellFormed i)) = true := by decide

theorem test_ill_formed_3 : ([.mailboxTimeout 0 257, .sqTailDoorbell 0 257 0 0 0, .sqTailDoorbell 0 0 64 0 0, .sqTailDoorbell 0 0 0 65536 0, .sqTailDoorbell 0 0 0 0 65536, .cqHeadDoorbell 0 257 0 0 0, .cqHeadDoorbell 0 0 32 0 0, .cqHeadDoorbell 0 0 0 65536 0, .cqHeadDoorbell 0 0 0 0 65536, .eqHeadDoorbell 0 257 0 0, .eqHeadDoorbell 0 0 65536 0, .eqHeadDoorbell 0 0 0 65536, .descriptorFetch 0 257 0 [], .descriptorFetch 0 0 64 [], .msixModTimeout 0 257 0 false, .msixModTimeout 0 0 32 false] : List Instr).all (fun i => !(wellFormed i)) = true := by decide

theorem test_ill_formed_4 : ([.hostReadFailure 0 257 0 0 false [] 0, .hostReadFailure 0 0 64 0 false [] 0, .ringEnable 0 257 0 0 0, .ringEnable 0 0 3 0 0, .ringEnable 0 0 0 64 0, .ringDisable 0 257 0 0 0, .ringDisable 0 0 3 0 0, .ringDisable 0 0 0 64 0, .csNop 0 512, .setState 0 512, .bindPipeline 0 512, .bindTable 0 512, .beginPass 0 512, .draw 0 512, .drawIndexed 0 512, .drawIndirect 0 512] : List Instr).all (fun i => !(wellFormed i)) = true := by decide

theorem test_ill_formed_5 : ([.endPass 0 512, .dispatch 0 512, .dispatchIndirect 0 512, .barrier 0 512, .tileStore 0 512 0, .tileStore 0 0 (2 ^ 19), .splitStart 0 512, .splitComplete 0 512, .clusterFault 0 24 0 false, .clusterResetComplete 0 24, .clusterResetTimeout 0 24, .preemptMidwaveTimeout 0 24, .preemptStop 0 24, .resumeComplete 0 24, .npHoldExpiry 0 24, .latestStartReached 0 12] : List Instr).all (fun i => !(wellFormed i)) = true := by decide

theorem test_ill_formed_6 : ([.compositionDeadline 0 12, .asyncFill 0 24, .coefDataWrite 0 96 0, .wbCaptureComplete 0 4, .wbBufferOverflow 0 4, .pipeFault 0 96 0 0 0 0, .commitPoint 0 3, .headCommitGo 0 12, .headCommitCancel 0 12, .commitGroupGo 0 4 0, .commitGroupGo 0 0 4096, .commitGroupCancel 0 4, .pixelPllLock 0 3, .hpdDebounce 0 12, .hpdUnplug 0 12, .irqHpd 0 12 false] : List Instr).all (fun i => !(wellFormed i)) = true := by decide

theorem test_ill_formed_7 : ([.linkTrainResult 0 12 {}, .linkTrainRetry 0 12, .fieldLatch 0 65536 false, .fdescWrite 0 65536, .fdescRead 0 65536, .regionF7Check 0 12 0, .regionF7Check 0 0 16, .regionSignatureCompare 0 12 0 0, .regionSignatureCompare 0 0 16 0, .regionSignatureCompare 0 0 0 (2 ^ 32), .sinkCrcReadResult 0 12 [] 0 0 0 0, .sinkCrcReadResult 0 0 [] 65536 0 0 0, .sinkCrcReadResult 0 0 [] 0 65536 0 0, .sinkCrcReadResult 0 0 [] 0 0 65536 0, .sinkCrcReadResult 0 0 [] 0 0 0 16, .faultReport 0 256 0 0 0 0 0 false] : List Instr).all (fun i => !(wellFormed i)) = true := by decide

theorem test_ill_formed_8 : ([.groupFrameWdExpiry 0 3, .mgrKick 0 65536, .unitRetire 0 256 0, .audioBufferComplete 0 64, .bufferUnderrun 0 64, .routeGo 0 64 0, .gainWrite 0 false 64 0, .eqSwap 0 32, .mapWrite 0 false 12 0 0, .mapWrite 0 false 0 4 0, .tdmPortEnable 0 4 0, .tdmPortDisable 0 4 0, .tdmFrameSync 0 4 0, .tdmFrame 0 4 false [], .tdmBclkLoss 0 4, .tdmFrameSyncMissing 0 4] : List Instr).all (fun i => !(wellFormed i)) = true := by decide

theorem test_ill_formed_9 : ([.touchDeviceAttach 0 8 0 {}, .i2cIntFall 0 8, .surfaceSilentTimeout 0 16, .routeDisable 0 256 0, .htrigEdge 0 16 false, .driveEnd 0 16, .brakeEnd 0 16 0, .hapticOvercurrent 0 16, .memoryRequest 0 0 (2 ^ 35) .scanout none 0 0, .memoryRequest 0 0 0 .scanout none 3 0, .requestAgeRaise 0 4, .patrolScrubRead 0 { err := 3 }, .pageRemapComplete 0 (2 ^ 23), .bankRefresh 0 4 0 false, .bankRefresh 0 0 16 false, .refreshRateRead 0 4 0] : List Instr).all (fun i => !(wellFormed i)) = true := by decide

theorem test_ill_formed_10 : ([.refreshRateRead 0 0 3, .retrainDue 0 4, .retrainOpportunity 0 3 [] [], .retrainForce 0 4, .selfRefreshEntry 0 4, .domainGood 0 14, .domainGoodTimeout 0 14 false, .renderGateIdle 0 14, .conventionalPcieReset 0 3, .updBegin 0 2 false, .workgroupComplete 0 512 0 0, .msixVectorUnmask 0 257 0, .msixVectorUnmask 0 0 64, .vfEnableSet 0 257, .nop (2 ^ 64)] : List Instr).all (fun i => !(wellFormed i)) = true := by decide

/-! ### Worked examples of the spec -/

/-- Worked example 0.1: ST_STALE_GEN and ST_NOT_OWNER apply. -/
theorem test_lowest_status : pickStatus [(true, 1), (true, 2)] = 1 := by decide

/-- Worked example 7.3, L50: weight 1024. -/
theorem test_weight_opaque : weight 0 514 1023 = 1024 := by decide

/-- Worked example 7.3, L10: weight 387 and colour (535, 590, 511) over (800, 400, 200). -/
theorem test_blend_coverage : weight 1 514 768 = 387 ∧ blendOne 1 768 387 100 800 = 535 ∧ blendOne 1 768 387 903 400 = 590 ∧ blendOne 1 768 387 1023 200 = 511 := by decide

/-- Worked example 7.3, L11: (478, 196, 220). -/
theorem test_blend_premult : weight 2 682 1023 = 683 ∧ blendOne 2 1023 683 300 535 = 478 ∧ blendOne 2 1023 683 0 590 = 196 ∧ blendOne 2 1023 683 50 511 = 220 := by decide

/-- Worked example 8.1: F_g of 594 MHz, so 4,400 × 2,250 cycles take 50/3 ms. -/
theorem test_frame_cycles : cyclesNs 0x1EF00000 (4400 * 2250) = 16666666 := by decide

/-- Worked example 9.2: "   -4.0", " 12345.7" within its cells, and the overflow. -/
theorem test_format : formatNumber (-4049) 1 3 false false 7 = some [32, 32, 32, 45, 52, 46, 48]
    ∧ formatNumber 12345678 1 3 false false 7 = some [49, 50, 51, 52, 53, 46, 55]
    ∧ formatNumber (-40) 1 3 false false 7 = some [32, 32, 32, 32, 48, 46, 48]
    ∧ formatNumber (-4050) 1 3 false false 7 = some [32, 32, 32, 45, 52, 46, 49]
    ∧ formatNumber 99999950 1 3 false false 7 = none := by decide

/-- Worked example 10.1: eight black pixels are 32 zero bytes. -/
theorem test_crc : crc32c (List.replicate 32 0) = 0x8A9136AA := by decide +kernel

/-- Worked example 14.1: channel 1, bank 7, and channel 0, bank 6 one row further on. -/
theorem test_hash : channelAt State.reset 0x123456780 = 1 ∧ bankAt State.reset 0x123456780 = 7 ∧ rowAt 0x123456780 = 0x2468
    ∧ channelAt State.reset 0x1234D6780 = 0 ∧ bankAt State.reset 0x1234D6780 = 6 := by decide +kernel

/-- Worked example 18.1. -/
theorem test_scale0 : rd State.reset .ID_SCALE0 = 0xC18C0100 := by decide +kernel

/-- Worked example 13.1: raw X 2,048 of 0 to 4,095 over 3,840 columns is column 1,920. -/
theorem test_touch_norm : norm 0 2048 0 4095 = 32776 ∧ (32776 * (3840 - 1) + 32767) / 65535 = 1920 := by decide

/-- Worked example 13.3: E40 lasts 180 ms. -/
theorem test_effect : (effectOf 40).1 = 180 := by decide

/-! ### States for the witnesses -/

/-- A block that has reached RUN. -/
def runBase : State := wrF State.reset BOOT_STATUS.STAGE 6

def ptpMaster7 : PtpMaster := { ident := 7, rank := [1], logSync := 0, logAnnounce := 0, lastAnnounce := 0, qualified := true }
/-- PTP is selected and its master 7 heard. -/
def ptpState : State :=
  let s := wrF runBase TIME_CTRL.SRC 1
  { s with time := { s.time with master := some 7, masters := [ptpMaster7], lastSync := some 400, syncOpen := true, lastOrigin := 100, syncInterval := 1000000000 } }
def ptpLockedState : State := wrF (wrF ptpState TIME_STATUS.STATE TS_LOCKED) TIME_STATUS.SOURCE_ACTIVE SRC_PTP
def holdoverState : State := { wrF runBase TIME_STATUS.STATE TS_HOLDOVER with time := { runBase.time with holdTimer := some 5 } }

/-- A manager command: opcode, instance, expected generation and its other bytes. -/
def cmdWord (op inst gen args : Nat) : Rec32 := BitVec.ofNat 256 (at8 0 op + at16 2 inst + at16 4 gen + args)
/-- A batch page with one command. -/
def batchPage (op : Nat) : Page := BitVec.ofNat 2048 (at16 0 1 + at8 2 1 + at32 4 77 + (cmdWord op 3 0 0).toNat <<< 256)
/-- A batch whose next command is `c`, with VFs enabled. -/
def batchState (c : Rec32) : State :=
  { runBase with
    fab := { runBase.fab with batch := some { seq := 1, count := 1, todo := [c], results := [], current := none, wait := .none, dropped := false } }
    host := { runBase.host with vfEnable := true, numVFs := 8 } }
/-- The command a batch stands at. -/
def batchCommand (s : State) : Rec32 := (s.fab.batch.bind (fun b => b.todo.head?)).getD 0
/-- Tenant 3 is ENABLED and holds pipe 5. -/
def leasedState : State :=
  setLease (wrF { runBase with host := { runBase.host with vfEnable := true, numVFs := 8 } } (INST_STATE.STATE 3) ENABLED) 1 5
    { state := .held, holder := 3, termMs := 1, expiry := 5000 }
/-- A mailbox request of LEASE_REQUEST. -/
def reqPage (gen : Nat) : Page := BitVec.ofNat 2048 (at16 0 1 + at16 4 gen)

/-- A descriptor of instance 0 and its header fields. -/
def desc (op len rest : Nat) : Desc := BitVec.ofNat 512 (at8 0 op + at32 8 7 + at32 12 len + rest)
/-- Function `fn` has ring 0 for engine `eng` and completion ring 0 enabled. -/
def ringOf (fn : Nat) (s : State) (eng : Nat) : State :=
  let s := wr s (.SQ_CFG fn 0) (BitVec.ofNat 32 (setBits (setBits (setBits (rd s (.SQ_CFG fn 0)).toNat 0 0 1) 20 16 0) 10 8 eng))
  wr s (.CQ_CFG fn 0) (BitVec.ofNat 32 (setBits (setBits (rd s (.CQ_CFG fn 0)).toNat 0 0 1) 21 16 0))
def ringBase (s : State) (eng : Nat) : State := ringOf 0 s eng
/-- VF 3 of tenant 3, which is ENABLED, has its rings enabled, before the start has reached RUN for BAR0. -/
def vfBase : State := wrB (ringOf 3 (wrF leasedState BOOT_STATUS.STAGE 0) 0) (EQ_CFG.ENABLE 3) true
/-- I0 has ring 0 for engine `eng` and completion ring 0 enabled, and its next descriptor is `d`. -/
def fetchedState (s : State) (eng : Nat) (d : Desc) : State :=
  setSq (ringBase s eng) 0 0 { fetched := [{ desc := d, stamp := 0, gen := 0 }] }
/-- The descriptor that the scheduler dispatches at `s`. -/
def takenDesc (op t : Nat) (s : State) : Taken :=
  (takeNext (fun o => decide (o = op)) (begin t s)).elim { fn := 0, q := 0, id := 0, d := 0, stamp := 0 } (·.2)

/-- Context 3 runs the stream of `ws` from host memory, with `x` as the rest of the context. -/
def csStream (ws : List Word) : Stream := { fn := 0, q := 0, id := 1, gen := 0, seq := 0, addr := 2 ^ 63, len := 4 * ws.length, words := ws }
def csState (ws : List Word) (x : Ctx) : State := setCtx runBase 3 { x with stream := some (csStream ws) }
/-- Cluster 3 runs context 3. -/
def onCluster (s : State) : State := setCluster s 3 { ctx := some 3 }
/-- A command header. -/
def cmd (op dw : Nat) : Word := BitVec.ofNat 32 (op * 2 ^ 24 + dw)
/-- Instance 0 has the slice of chunks 0 to 3 and holds context 3. -/
def sliceState (s : State) : State := setLease (wrF s (INST_SLICE.SIZE 0) 4) 2 3 { state := .held, holder := 0 }
def binPass : Pass := { areaX := 0, areaY := 0, areaW := 64, areaH := 64, samples := 1, colours := [], dsFormat := 0, tablePods := [0] }
def tilePass : Pass := { binPass with phase := .tile, tilesLeft := 1 }
def stalledPass : Pass := { binPass with phase := .stalled, listPods := [1], splitAt := 500 }
def passWords : List Byte := toBytes 32 (at16 4 64 + at16 6 64 + at8 8 1 + at8 11 1)
def drawCtx : Ctx := { pipeline := some 0, pass := some binPass, chunks := [2] }
def reg0 : Registration := { inst := 0, addr := 0x40, buildSeq := 0, compute := false, tr := { findings := [], vOut := 0, sizeMiB := 0, uses := [], code := [] }, attrs := [], key := 5, lastUse := 0 }
/-- A compute pipeline record at 0x40: modules at 0x200, entry name length 5. -/
def ingestState : State :=
  let s := writeMem (sliceState (csState [] {})) 0x40 (toBytes 32 (at8 0 2 + at64 8 0x400 + at32 16 8))
  let s := setCtx s 3 { stream := some { csStream [cmd 3 3, 0x40, 0, cmd 1 1] with ingest := true } }
  { s with rnd := { s.rnd with ingests := [{ inst := 0, ctx := 3, addr := 0x40, buildSeq := 0, startedAt := some 9 }] } }
/-- Instance 3 is the safety instance, its page at the start of its slice, with one command of opcode `op` published. -/
def safetyState (op : Nat) : State :=
  let s := wrF (wrF (wrF (wrF runBase (INST_STATE.STATE 3) ENABLED) (INST_SLICE.BASE 3) 2) (INST_SLICE.SIZE 3) 4) ART_SAFETY.INST 3
  writePage 64 (toBytes 1 op) (writePage 0 (toBytes 8 1) s)
/-- The slot of a command for region 1 of head 2, whose only plate is plate 0. -/
def slotOf (op : Nat) : Desc :=
  let d : Desc := BitVec.ofNat 512 (at8 0 op + at8 4 2 + at8 5 1 + at64 8 5)
  BitVec.ofNat 512 (d.toNat + at32 60 (slotCrc d))
def safetyTodo (op : Nat) : State :=
  let s := writePage 64 (toBytes 64 (slotOf op).toNat) (wr (safetyState op) (.ART_R_SIZE 2 1) 0x00080008)
  let s := setRegion s 2 1 { plates := [0] }
  { s with art := { s.art with plates := [{ addr := 0, w := 8, h := 8, crc := 0 }], todo := [1], pollAt := 9 } }
/-- Surface 2 is bound and route 9 leads to pipe 7 on head 0, both of the manager. -/
def touchState : State :=
  let s := wrF runBase (TCH_S_STATUS.STATE 2) 2
  let s := wr s (.TCH_R_CFG 9) (BitVec.ofNat 32 (setBits (setBits (setBits (rd s (.TCH_R_CFG 9)).toNat 31 31 1) 30 30 0) 6 0 7))
  let s := setLease (setLease s K_TOUCH 9 { state := .held, holder := 0 }) K_PIPE 7 { state := .held, holder := 0 }
  setActive s (View.put [] (.LYR_HEAD 7) 0x80000000)
/-- A start at its ROM step whose store holds an empty record with one start counted. -/
def storedState : State :=
  { State.reset with boot := { State.reset.boot with store0 := toBytes 4 0x53504D4C ++ toBytes 4 0 ++ toBytes 8 1 ++ toBytes 4 0 ++ toBytes 4 (byteCrc []) ++ toBytes 200 1 } }

/-! ### Commands on small states -/

def after (s : State) (c : Instr) (f : State → Bool) : Bool := match exec c s with | .next u => f u | _ => false

/-- R11: a W1S lock stays set. -/
theorem test_setup_lock : after runBase (.setupLock 5 1) (fun u => locked u) = true := by decide +kernel

/-- R9: a write of 16 bits is discarded. -/
theorem test_narrow_write : after runBase (.registerWrite 5 0 0x324 2 0xFF) (fun u => decide (rd u .PWR_GPIO = rd runBase .PWR_GPIO)) = true := by
  decide +kernel

/-- R24: DTIME reaches the stamp of the command. -/
theorem test_stamp : after runBase (.atsInvalidation 77 3) (fun u => decide (now u = 77)) = true := by decide +kernel

/-- R398: a wrong key starts no reset. -/
theorem test_reset_key : after runBase (.pwrReset 5 0x80005EEC) (fun u => decide (u.pwr.phase = .run)) = true := by decide +kernel

/-- R292: safe state is a latch. -/
theorem test_safe_latch : after runBase (.lockstepMismatch 5) (fun u => after u (.shallotCoreWdExpiry 6) (fun w => decide (rdF w SHL_STATUS.SAFE_CAUSE = 1))) = true := by
  decide +kernel

/-- R104: a doorbell without the current generation moves nothing. -/
theorem test_stale_doorbell : after (ringBase runBase 0) (.sqTailDoorbell 5 0 0 9 3) (fun u => decide (rdF u (SQ_PTR.TAIL 0 0) = 0)) = true := by
  decide +kernel

/-- Table 4.6: NOP completes with ST_OK. -/
theorem test_nop : after (fetchedState runBase 0 (desc OP_NOP 0 0)) (.nop 5) (fun u => u.out.any (fun m => match m with
    | .completion 0 0 0 e => decide (u8 e 8 = ST_OK ∧ u32 e 0 = 7)
    | _ => false)) = true := by
  decide +kernel

/-- R394: a conventional reset takes VF Enable away. -/
theorem test_conventional : after leasedState (.conventionalPcieReset 5 1) (fun u => !u.host.vfEnable) = true := by decide +kernel

/-! ### The hypotheses of the statements can be met -/

/-- The hypotheses of PtpMessages can be met. -/
theorem witness_PtpMessages_sync :
    let s : State := ptpState; let t : Nat := 1000; let ident : Nat := 7; let domain : Nat := rdF ptpState TIME_CTRL.PTP_DOMAIN; let origin : Int := 12345;
    (wellFormed (.ptpSync t ident domain origin) = true) ∧ (s.pwr.phase = ResetPhase.run) ∧ (ptpSelected s = true) ∧ (domain = rdF s TIME_CTRL.PTP_DOMAIN) ∧ (s.time.master = some ident) ∧ (rdF s TIME_STATUS.SOURCE_ACTIVE ≠ SRC_HOUSE) := by decide +kernel

/-- The hypotheses of PtpMessages can be met. -/
theorem witness_PtpMessages_syncHouse :
    let s : State := wrF ptpState TIME_STATUS.SOURCE_ACTIVE SRC_HOUSE; let t : Nat := 1000; let ident : Nat := 7; let domain : Nat := rdF ptpState TIME_CTRL.PTP_DOMAIN; let origin : Int := 12345;
    (wellFormed (.ptpSync t ident domain origin) = true) ∧ (s.pwr.phase = ResetPhase.run) ∧ (ptpSelected s = true) ∧ (domain = rdF s TIME_CTRL.PTP_DOMAIN) ∧ (s.time.master = some ident) ∧ (rdF s TIME_STATUS.SOURCE_ACTIVE = SRC_HOUSE) := by decide +kernel

/-- The hypotheses of PtpMessages can be met. -/
theorem witness_PtpMessages_announce :
    let s : State := ptpState; let t : Nat := 1000; let ident : Nat := 9; let rank : List Nat := [1, 2]; let domain : Nat := rdF ptpState TIME_CTRL.PTP_DOMAIN; let logSync : Int := 0; let logAnnounce : Int := 1; let ptpScale : Bool := true;
    (wellFormed (.ptpAnnounce t ident rank domain logSync logAnnounce ptpScale) = true) ∧ (s.pwr.phase = ResetPhase.run) ∧ (ptpSelected s = true) ∧ (domain = rdF s TIME_CTRL.PTP_DOMAIN) := by decide +kernel

/-- The hypotheses of PtpMessages can be met. -/
theorem witness_PtpMessages_delay :
    let s : State := ptpState; let t : Nat := 1000; let ident : Nat := 7; let domain : Nat := rdF ptpState TIME_CTRL.PTP_DOMAIN; let egress : Nat := 500; let peerRx : Int := 800; let peerTx : Int := 0; let l : Nat := 400;
    (wellFormed (.ptpDelayResponse t ident domain egress peerRx peerTx) = true) ∧ (s.pwr.phase = ResetPhase.run) ∧ (ptpSelected s = true) ∧ (domain = rdF s TIME_CTRL.PTP_DOMAIN) ∧ (s.time.master = some ident) ∧ (s.time.syncOpen = true) ∧ (rdF s TIME_CTRL.PTP_PROFILE = 0) ∧ (s.time.lastSync = some l) := by decide +kernel

/-- The hypotheses of PtpMessages can be met. -/
theorem witness_PtpMessages_peerDelay :
    let s : State := wrF ptpState TIME_CTRL.PTP_PROFILE 1; let t : Nat := 1000; let ident : Nat := 7; let domain : Nat := rdF ptpState TIME_CTRL.PTP_DOMAIN; let egress : Nat := 500; let peerRx : Int := 800; let peerTx : Int := 900;
    (wellFormed (.ptpDelayResponse t ident domain egress peerRx peerTx) = true) ∧ (s.pwr.phase = ResetPhase.run) ∧ (ptpSelected s = true) ∧ (domain = rdF s TIME_CTRL.PTP_DOMAIN) ∧ (rdF s TIME_CTRL.PTP_PROFILE ≠ 0) := by decide +kernel

/-- The hypotheses of PtpMessages can be met. -/
theorem witness_PtpMessages_otherDomain :
    let s : State := ptpState; let t : Nat := 1000; let ident : Nat := 7; let domain : Nat := rdF ptpState TIME_CTRL.PTP_DOMAIN + 1; let egress : Nat := 500; let peerRx : Int := 800; let peerTx : Int := 900;
    (wellFormed (.ptpDelayResponse t ident domain egress peerRx peerTx) = true) ∧ (s.pwr.phase = ResetPhase.run) ∧ (domain ≠ rdF s TIME_CTRL.PTP_DOMAIN) := by decide +kernel

/-- The hypotheses of PtpStep can be met. -/
theorem witness_PtpStep_1 :
    let s : State := { ptpState with time := { ptpState.time with offsetSet := true } }; let t : Nat := 1000; let ident : Nat := 7; let domain : Nat := rdF ptpState TIME_CTRL.PTP_DOMAIN; let origin : Int := 5000000;
    (wellFormed (.ptpSync t ident domain origin) = true) ∧ (s.pwr.phase = ResetPhase.run) ∧ (ptpSelected s = true) ∧ (domain = rdF s TIME_CTRL.PTP_DOMAIN) ∧ (s.time.master = some ident) ∧ (s.time.offsetSet = true) ∧ (1000000 ≤ ((now (begin t s) : Int) + taiOffset s - (origin + s.time.pathDelay)).natAbs) := by decide +kernel

/-- The hypotheses of TimeRegisters can be met. -/
theorem witness_TimeRegisters_announce :
    let s : State := ptpState; let t : Nat := 4000000000;
    (wellFormed (.ptpAnnounceTimeout t) = true) ∧ (s.pwr.phase = ResetPhase.run) := by decide +kernel

/-- The hypotheses of TimeRegisters can be met. -/
theorem witness_TimeRegisters_announceLost :
    let s : State := ptpLockedState; let t : Nat := 4000000000;
    (wellFormed (.ptpAnnounceTimeout t) = true) ∧ (s.pwr.phase = ResetPhase.run) ∧ (s.time.masters.any (fun (m : PtpMaster) => announceDue (now (begin t s)) m && decide (some m.ident = s.time.master)) = true) := by decide +kernel

/-- The hypotheses of TimeRegisters can be met. -/
theorem witness_TimeRegisters_sync :
    let s : State := ptpLockedState; let t : Nat := 9000000000; let l : Nat := 400;
    (wellFormed (.ptpSyncLoss t) = true) ∧ (s.pwr.phase = ResetPhase.run) ∧ (s.time.lastSync = some l) ∧ (2 * l + 9 * s.time.syncInterval ≤ 2 * now (begin t s)) ∧ (rdF s TIME_STATUS.STATE = TS_LOCKED) ∧ (rdF s TIME_STATUS.SOURCE_ACTIVE = SRC_PTP) ∧ (rdF s TIME_CTRL.SRC = 1) := by decide +kernel

/-- The hypotheses of TimeRegisters can be met. -/
theorem witness_TimeRegisters_expiry :
    let s : State := holdoverState; let t : Nat := rdF holdoverState TIME_CTRL.HOLDOVER_MAX * 10 ^ 9 + 5; let h : Nat := 5;
    (wellFormed (.holdoverExpiry t) = true) ∧ (s.pwr.phase = ResetPhase.run) ∧ (s.time.holdTimer = some h) ∧ (rdF s TIME_STATUS.STATE = TS_HOLDOVER) ∧ (h + rdF s TIME_CTRL.HOLDOVER_MAX * 10 ^ 9 ≤ now (begin t s)) := by decide +kernel

/-- The hypotheses of TimeRegisters can be met. -/
theorem witness_TimeRegisters_src :
    let s : State := runBase; let t : Nat := 1000; let v : Word := setBits (rd runBase .TIME_CTRL).toNat TIME_CTRL.SRC.hi TIME_CTRL.SRC.lo 2;
    (wellFormed (.timeSrcWrite t v) = true) ∧ (s.pwr.phase = ResetPhase.run) ∧ (rdF s BOOT_STATUS.STAGE = 6) ∧ (locked s = false) ∧ (admitted (Reg.fields .TIME_CTRL) v.toNat = true) ∧ (bitsOf v.toNat TIME_CTRL.SRC.hi TIME_CTRL.SRC.lo ≠ rdF s TIME_CTRL.SRC) := by decide +kernel

/-- The hypotheses of TimeRegisters can be met. -/
theorem witness_TimeRegisters_lo :
    let s : State := runBase; let t : Nat := 1000; let v : Word := 0x12345678;
    (wellFormed (.taiOffsetLoWrite t v) = true) ∧ (s.pwr.phase = ResetPhase.run) ∧ (rdF s BOOT_STATUS.STAGE = 6) := by decide +kernel

/-- The hypotheses of TimeRegisters can be met. -/
theorem witness_TimeRegisters_hi :
    let s : State := { runBase with time := { runBase.time with heldLo := some 0x80000001 } }; let t : Nat := 1000; let v : Word := 0xFFFFFFFF; let lo : Word := 0x80000001;
    (wellFormed (.taiOffsetHiWrite t v) = true) ∧ (s.pwr.phase = ResetPhase.run) ∧ (rdF s BOOT_STATUS.STAGE = 6) ∧ (ptpSelected s = false) ∧ (s.time.heldLo = some lo) := by decide +kernel

/-- The hypotheses of ManagerBatch can be met. -/
theorem witness_ManagerBatch_1 :
    let s : State := runBase; let t : Nat := 1000; let gen : Nat := instGen runBase 0; let page : Page := batchPage 5;
    (wellFormed (.batch t gen page) = true) ∧ (s.pwr.phase = ResetPhase.run) ∧ (rdF s BOOT_STATUS.STAGE = 6) ∧ (gen = instGen s 0) ∧ (flrMeets (begin t s) 0 = false) ∧ (s.fab.batch = none) ∧ (headerGood page = true) ∧ ((pageCommands page (u8 page 2)).head?.any (fun (c : Rec32) => knownCommand (cOpcode c)) = true) := by decide +kernel

/-- The hypotheses of ManagerInstances can be met. -/
theorem witness_ManagerInstances_create :
    let s : State := batchState (cmdWord 1 3 0 (at32 6 64 + at32 10 2 + at8 14 1)); let t : Nat := 1000; let c : Rec32 := batchCommand (batchState (cmdWord 1 3 0 (at32 6 64 + at32 10 2 + at8 14 1)));
    (wellFormed (.instCreate t) = true) ∧ (s.pwr.phase = ResetPhase.run) ∧ (BatchAt s 0x01 [(6, 4), (10, 4), (14, 1)] c = true) ∧ (badTarget s (cInstance c) [ABSENT] = false) ∧ (cInstance c ≤ s.host.numVFs) ∧ (s.host.vfEnable = true) ∧ (0 < u32 c 10) ∧ (1 ≤ u8 c 14) ∧ (u8 c 14 ≤ 16) ∧ (sliceFree s (u32 c 6) (u32 c 10) = true) ∧ (pasidsUsed s + u8 c 14 ≤ 4096) := by decide +kernel

/-- The hypotheses of ManagerInstances can be met. -/
theorem witness_ManagerInstances_enable :
    let s : State := (wrF (batchState (cmdWord 2 3 0 0)) (INST_STATE.STATE 3) CREATED); let t : Nat := 1000; let c : Rec32 := batchCommand ((wrF (batchState (cmdWord 2 3 0 0)) (INST_STATE.STATE 3) CREATED));
    (wellFormed (.instEnable t) = true) ∧ (s.pwr.phase = ResetPhase.run) ∧ (BatchAt s 0x02 [] c = true) ∧ (badTarget s (cInstance c) [CREATED] = false) := by decide +kernel

/-- The hypotheses of ManagerInstances can be met. -/
theorem witness_ManagerInstances_share :
    let s : State := (wrF (batchState (cmdWord 5 3 0 (at8 6 40))) (INST_STATE.STATE 3) ENABLED); let t : Nat := 1000; let c : Rec32 := batchCommand ((wrF (batchState (cmdWord 5 3 0 (at8 6 40))) (INST_STATE.STATE 3) ENABLED));
    (wellFormed (.shareSet t) = true) ∧ (s.pwr.phase = ResetPhase.run) ∧ (BatchAt s 0x05 [(6, 1)] c = true) ∧ (cInstance c ≤ 256) ∧ (instState s (cInstance c) ≠ ABSENT) ∧ (cInstance c ≠ 0 ∨ u8 c 6 ≠ 0) := by decide +kernel

/-- The hypotheses of ManagerInstances can be met. -/
theorem witness_ManagerInstances_grant :
    let s : State := (wrF (batchState (cmdWord 6 3 0 (at8 6 1 + at16 8 5 + at32 10 500))) (INST_STATE.STATE 3) ENABLED); let t : Nat := 1000; let c : Rec32 := batchCommand ((wrF (batchState (cmdWord 6 3 0 (at8 6 1 + at16 8 5 + at32 10 500))) (INST_STATE.STATE 3) ENABLED));
    (wellFormed (.leaseGrant t) = true) ∧ (s.pwr.phase = ResetPhase.run) ∧ (BatchAt s 0x06 [(6, 1), (8, 2), (10, 4)] c = true) ∧ (badTarget s (cInstance c) [CREATED, ENABLED, PARKED] = false) ∧ (unitExists s (cInstance c) (u8 c 6) (u16 c 8) = true) ∧ ((getLease s (u8 c 6) (u16 c 8)).state = LeaseState.free) ∧ (grantMeetsRetire (begin t s) (u8 c 6) (u16 c 8) = false) := by decide +kernel

/-- The hypotheses of ManagerInstances can be met. -/
theorem witness_ManagerInstances_revoke :
    let s : State := (setLease (batchState (cmdWord 7 3 0 (at8 6 1 + at16 8 5))) 1 5 { state := .held, holder := 3 }); let t : Nat := 1000; let c : Rec32 := batchCommand ((setLease (batchState (cmdWord 7 3 0 (at8 6 1 + at16 8 5))) 1 5 { state := .held, holder := 3 }));
    (wellFormed (.leaseRevoke t) = true) ∧ (s.pwr.phase = ResetPhase.run) ∧ (BatchAt s 0x07 [(6, 1), (8, 2)] c = true) ∧ (u16 c 8 < unitsOf (u8 c 6)) ∧ ((getLease s (u8 c 6) (u16 c 8)).state = LeaseState.held) ∧ ((getLease s (u8 c 6) (u16 c 8)).holder = cInstance c) := by decide +kernel

/-- The hypotheses of ManagerInstances can be met. -/
theorem witness_ManagerInstances_reply :
    let s : State := (wrF (setInst (batchState (cmdWord 8 3 0 0)) 3 { window := 0x8000, mbReq := some { seq := mSeq (0x8000 : Page), takenAt := 5, lost := false } }) (INST_STATE.STATE 3) ENABLED); let t : Nat := 1000; let c : Rec32 := batchCommand ((wrF (setInst (batchState (cmdWord 8 3 0 0)) 3 { window := 0x8000, mbReq := some { seq := mSeq (0x8000 : Page), takenAt := 5, lost := false } }) (INST_STATE.STATE 3) ENABLED)); let r : MbReq := { seq := mSeq (0x8000 : Page), takenAt := 5, lost := false };
    (wellFormed (.tenantReply t) = true) ∧ (s.pwr.phase = ResetPhase.run) ∧ (BatchAt s 0x08 [] c = true) ∧ (badTarget s (cInstance c) [CREATED, ENABLED, PARKED, RESETTING] = false) ∧ (mType (getInst s (cInstance c)).window = 0x8000) ∧ (u8 (getInst s (cInstance c)).window 8 < 0x10) ∧ (bytesAt (getInst s (cInstance c)).window 9 7 = 0) ∧ ((getInst s (cInstance c)).mbReq = some r) ∧ (r.lost = false) ∧ (r.seq = mSeq (getInst s (cInstance c)).window) ∧ (r.takenAt < now (begin t s)) ∧ (now (begin t s) < r.takenAt + rdF s INST_MB_TIMEOUT.TIMEOUT_MS * 1000000) := by decide +kernel

/-- The hypotheses of ManagerInstances can be met. -/
theorem witness_ManagerInstances_revokeFree :
    let s : State := (batchState (cmdWord 7 3 0 (at8 6 1 + at16 8 5))); let t : Nat := 1000; let c : Rec32 := batchCommand ((batchState (cmdWord 7 3 0 (at8 6 1 + at16 8 5))));
    (wellFormed (.leaseRevoke t) = true) ∧ (s.pwr.phase = ResetPhase.run) ∧ (BatchAt s 0x07 [(6, 1), (8, 2)] c = true) ∧ (u16 c 8 < unitsOf (u8 c 6)) ∧ ((getLease s (u8 c 6) (u16 c 8)).state = LeaseState.free) := by decide +kernel

/-- The hypotheses of ManagerResetAndDestroy can be met. -/
theorem witness_ManagerResetAndDestroy_reset :
    let s : State := (wrF (batchState (cmdWord 3 3 0 0)) (INST_STATE.STATE 3) RESETTING); let t : Nat := 1000; let c : Rec32 := batchCommand ((wrF (batchState (cmdWord 3 3 0 0)) (INST_STATE.STATE 3) RESETTING));
    (wellFormed (.instReset t) = true) ∧ (s.pwr.phase = ResetPhase.run) ∧ (BatchAt s 0x03 [] c = true) ∧ (badTarget s (cInstance c) [RESETTING] = false) ∧ (flrMeets (begin t s) (cInstance c) = false) := by decide +kernel

/-- The hypotheses of ManagerResetAndDestroy can be met. -/
theorem witness_ManagerResetAndDestroy_resetLive :
    let s : State := (wrF (batchState (cmdWord 3 3 0 0)) (INST_STATE.STATE 3) ENABLED); let t : Nat := 1000; let c : Rec32 := batchCommand ((wrF (batchState (cmdWord 3 3 0 0)) (INST_STATE.STATE 3) ENABLED));
    (wellFormed (.instReset t) = true) ∧ (s.pwr.phase = ResetPhase.run) ∧ (BatchAt s 0x03 [] c = true) ∧ (badTarget s (cInstance c) [CREATED, ENABLED, PARKED] = false) ∧ (flrMeets (begin t s) (cInstance c) = false) := by decide +kernel

/-- The hypotheses of ManagerResetAndDestroy can be met. -/
theorem witness_ManagerResetAndDestroy_destroy :
    let s : State := (wrF (batchState (cmdWord 4 3 0 0)) (INST_STATE.STATE 3) CREATED); let t : Nat := 1000; let c : Rec32 := batchCommand ((wrF (batchState (cmdWord 4 3 0 0)) (INST_STATE.STATE 3) CREATED));
    (wellFormed (.instDestroy t) = true) ∧ (s.pwr.phase = ResetPhase.run) ∧ (BatchAt s 0x04 [] c = true) ∧ (badTarget s (cInstance c) [CREATED, ENABLED, PARKED, RESETTING] = false) := by decide +kernel

/-- The hypotheses of ResetEnds can be met. -/
theorem witness_ResetEnds_reset :
    let s : State := (setInst (wrF runBase (INST_STATE.STATE 3) RESETTING) 3 { before := 2, resetAt := 500 }); let t : Nat := 1000; let n : Nat := 3;
    (wellFormed (.resetComplete t n) = true) ∧ (s.pwr.phase = ResetPhase.run) ∧ (n ≤ 256) ∧ (instState s n = RESETTING) ∧ ((getInst s n).before ≤ 3) ∧ (now (begin t s) < (getInst s n).resetAt + 100000) := by decide +kernel

/-- The hypotheses of ResetEnds can be met. -/
theorem witness_ResetEnds_drain :
    let s : State := (setInst (wrF runBase (INST_STATE.STATE 3) RESETTING) 3 { before := 2, resetAt := 500 }); let t : Nat := 100500; let n : Nat := 3;
    (wellFormed (.drainTimeout t n) = true) ∧ (s.pwr.phase = ResetPhase.run) ∧ (n ≤ 256) ∧ (instState s n = RESETTING) ∧ ((getInst s n).before ≤ 3) ∧ ((getInst s n).resetAt + 100000 ≤ now (begin t s)) := by decide +kernel

/-- The hypotheses of ResetEnds can be met. -/
theorem witness_ResetEnds_destroy :
    let s : State := wrF runBase (INST_STATE.STATE 3) DESTROYING; let t : Nat := 1000; let n : Nat := 3;
    (wellFormed (.destroyComplete t n) = true) ∧ (s.pwr.phase = ResetPhase.run) ∧ (1 ≤ n) ∧ (n ≤ 256) ∧ (instState s n = DESTROYING) := by decide +kernel

/-- The hypotheses of SriovCommands can be met. -/
theorem witness_SriovCommands_set :
    let s : State := runBase; let t : Nat := 300000000; let v : Nat := 8;
    (wellFormed (.vfEnableSet t v) = true) ∧ (s.pwr.phase = ResetPhase.run) ∧ (configReady (begin t s) = true) ∧ (flag s BOOT_STATUS.SEEDLING = false) := by decide +kernel

/-- The hypotheses of SriovCommands can be met. -/
theorem witness_SriovCommands_clear :
    let s : State := { runBase with host := { runBase.host with vfEnable := true, numVFs := 4 } }; let t : Nat := 300000000;
    (wellFormed (.vfEnableClear t) = true) ∧ (s.pwr.phase = ResetPhase.run) ∧ (configReady (begin t s) = true) := by decide +kernel

/-- The hypotheses of SriovCommands can be met. -/
theorem witness_SriovCommands_lower :
    let s : State := { runBase with host := { runBase.host with vfEnable := true, numVFs := 4 } }; let t : Nat := 300000000; let v : Nat := 2;
    (wellFormed (.numvfsLower t v) = true) ∧ (s.pwr.phase = ResetPhase.run) ∧ (configReady (begin t s) = true) := by decide +kernel

/-- The hypotheses of SriovCommands can be met. -/
theorem witness_SriovCommands_flr :
    let s : State := wrF { runBase with host := { runBase.host with vfEnable := true, numVFs := 4 } } (INST_STATE.STATE 3) ENABLED; let t : Nat := 300000000; let n : Nat := 3;
    (wellFormed (.vfFlr t n) = true) ∧ (s.pwr.phase = ResetPhase.run) ∧ (configReady (begin t s) = true) ∧ (1 ≤ n) ∧ (n ≤ 256) ∧ (exists? s n = true) ∧ (instState s n ≠ ABSENT) ∧ (instState s n ≠ DESTROYING) := by decide +kernel

/-- The hypotheses of SriovCommands can be met. -/
theorem witness_SriovCommands_pf :
    let s : State := runBase; let t : Nat := 300000000;
    (wellFormed (.pfFlr t) = true) ∧ (s.pwr.phase = ResetPhase.run) ∧ (configReady (begin t s) = true) ∧ (s.host.convAt ≠ some (now (begin t s))) := by decide +kernel

/-- The hypotheses of LeaseClock can be met. -/
theorem witness_LeaseClock_expiry :
    let s : State := setLease runBase 1 5 { state := .held, holder := 3, termMs := 1, expiry := 900 }; let t : Nat := 1000; let kind : Nat := 1; let unit : Nat := 5;
    (wellFormed (.leaseExpiry t kind unit) = true) ∧ (s.pwr.phase = ResetPhase.run) ∧ (expired (begin t s) (getLease s kind unit) = true) := by decide +kernel

/-- The hypotheses of LeaseClock can be met. -/
theorem witness_LeaseClock_kick :
    let s : State := leasedState; let t : Nat := 1000; let fn : Nat := 3; let gen : Nat := instGen leasedState 3; let kind : Nat := 1; let unit : Nat := 5;
    (wellFormed (.leaseKick t fn gen) = true) ∧ (s.pwr.phase = ResetPhase.run) ∧ (exists? s fn = true) ∧ (instState s fn ≠ ABSENT) ∧ (instState s fn ≠ DESTROYING) ∧ (gen = instGen s fn) ∧ (resetMeets (begin t s) fn = false) ∧ (holds s fn kind unit = true) ∧ (unit < 65536) ∧ (0 < (getLease s kind unit).termMs) ∧ (now (begin t s) < (getLease s kind unit).expiry) := by decide +kernel

/-- The hypotheses of LeaseClock can be met. -/
theorem witness_LeaseClock_end :
    let s : State := setLease runBase 1 5 { state := .revoking, holder := 3, ending := 1 }; let t : Nat := 1000; let kind : Nat := 1; let unit : Nat := 5;
    (wellFormed (.revocationComplete t kind unit) = true) ∧ (s.pwr.phase = ResetPhase.run) ∧ ((getLease s kind unit).state = LeaseState.revoking) ∧ ((getLease s kind unit).retireNow = false) ∧ ((getLease s kind unit).ending ≠ 3) := by decide +kernel

/-- The hypotheses of TenantMailbox can be met. -/
theorem witness_TenantMailbox_leaseRequest :
    let s : State := leasedState; let t : Nat := 1000; let n : Nat := 3; let gen : Nat := instGen leasedState 3; let page : Page := reqPage (instGen leasedState 3);
    (wellFormed (.leaseRequest t n gen page) = true) ∧ (s.pwr.phase = ResetPhase.run) ∧ (1 ≤ n) ∧ (n ≤ 256) ∧ (exists? s n = true) ∧ (instState s n ≠ ABSENT) ∧ (instState s n ≠ DESTROYING) ∧ (gen = instGen s n) ∧ (resetMeets (begin t s) n = false) ∧ ((getInst s n).mbReq = none) ∧ (mGen page = gen) ∧ (requestGood page = true) ∧ (s.fab.mbLatch = []) ∧ (mailboxMeets (begin t s) = false) := by decide +kernel

/-- The hypotheses of TenantMailbox can be met. -/
theorem witness_TenantMailbox_leaseRelease :
    let s : State := leasedState; let t : Nat := 1000; let n : Nat := 3; let gen : Nat := instGen leasedState 3; let page : Page := reqPage (instGen leasedState 3);
    (wellFormed (.leaseRelease t n gen page) = true) ∧ (s.pwr.phase = ResetPhase.run) ∧ (1 ≤ n) ∧ (n ≤ 256) ∧ (exists? s n = true) ∧ (instState s n ≠ ABSENT) ∧ (instState s n ≠ DESTROYING) ∧ (gen = instGen s n) ∧ (resetMeets (begin t s) n = false) ∧ ((getInst s n).mbReq = none) ∧ (mGen page = gen) ∧ (requestGood page = true) ∧ (s.fab.mbLatch = []) ∧ (mailboxMeets (begin t s) = false) := by decide +kernel

/-- The hypotheses of TenantMailbox can be met. -/
theorem witness_TenantMailbox_setup :
    let s : State := leasedState; let t : Nat := 1000; let n : Nat := 3; let gen : Nat := instGen leasedState 3; let page : Page := reqPage (instGen leasedState 3);
    (wellFormed (.setup t n gen page) = true) ∧ (s.pwr.phase = ResetPhase.run) ∧ (1 ≤ n) ∧ (n ≤ 256) ∧ (exists? s n = true) ∧ (instState s n ≠ ABSENT) ∧ (instState s n ≠ DESTROYING) ∧ (gen = instGen s n) ∧ (resetMeets (begin t s) n = false) ∧ ((getInst s n).mbReq = none) ∧ (mGen page = gen) ∧ (requestGood page = true) ∧ (s.fab.mbLatch = []) ∧ (mailboxMeets (begin t s) = false) := by decide +kernel

/-- The hypotheses of TenantMailbox can be met. -/
theorem witness_TenantMailbox_query :
    let s : State := leasedState; let t : Nat := 1000; let n : Nat := 3; let gen : Nat := instGen leasedState 3; let page : Page := reqPage (instGen leasedState 3);
    (wellFormed (.query t n gen page) = true) ∧ (s.pwr.phase = ResetPhase.run) ∧ (1 ≤ n) ∧ (n ≤ 256) ∧ (exists? s n = true) ∧ (instState s n ≠ ABSENT) ∧ (instState s n ≠ DESTROYING) ∧ (gen = instGen s n) ∧ (resetMeets (begin t s) n = false) ∧ ((getInst s n).mbReq = none) ∧ (mGen page = gen) ∧ (requestGood page = true) ∧ (s.fab.mbLatch = []) ∧ (mailboxMeets (begin t s) = false) := by decide +kernel

/-- The hypotheses of TenantMailbox can be met. -/
theorem witness_TenantMailbox_timeout :
    let s : State := setInst runBase 3 { mbReq := some { seq := 4, takenAt := 5 } }; let t : Nat := 100000000000; let n : Nat := 3; let r : MbReq := { seq := 4, takenAt := 5 };
    (wellFormed (.mailboxTimeout t n) = true) ∧ (s.pwr.phase = ResetPhase.run) ∧ ((getInst s n).mbReq = some r) ∧ (r.takenAt + rdF s INST_MB_TIMEOUT.TIMEOUT_MS * 1000000 ≤ now (begin t s)) := by decide +kernel

/-- The hypotheses of EpochCopiesShares can be met. -/
theorem witness_EpochCopiesShares_copy :
    let s : State := wrF runBase (INST_SHARE.SHARE_NEXT 3) 9; let t : Nat := 500000; let n : Nat := 3;
    (wellFormed (.epochBoundary t) = true) ∧ (s.pwr.phase = ResetPhase.run) ∧ (n ≤ 256) ∧ (now (begin t s) % 250000 = 0) := by decide +kernel

/-- The hypotheses of EpochCopiesShares can be met. -/
theorem witness_EpochCopiesShares_next :
    let s : State := wrF runBase (INST_SHARE.SHARE_NEXT 3) 9; let t : Nat := 500000; let n : Nat := 3;
    (wellFormed (.epochBoundary t) = true) ∧ (s.pwr.phase = ResetPhase.run) ∧ (n ≤ 256) ∧ (now (begin t s) % 250000 = 0) ∧ ((getInst s n).shareAt ≠ some (now (begin t s))) := by decide +kernel

/-- The hypotheses of RegisterAccess can be met. -/
theorem witness_RegisterAccess_write :
    let s : State := runBase; let t : Nat := 1000; let off : Nat := Reg.key .SHL_ALERT_MASK; let r : Reg := Reg.SHL_ALERT_MASK; let v : Word := 5;
    (wellFormed (.registerWrite t 0 off 4 v) = true) ∧ (s.pwr.phase = ResetPhase.run) ∧ (off < 0x1000000) ∧ (off % 4 = 0) ∧ (regOfSetup off = some r) ∧ (r ∈ ([Reg.PWR_GPIO, Reg.TIME_SYNC_PERIOD, Reg.SHL_ALERT_MASK, Reg.INST_MB_TIMEOUT, Reg.RND_GROW_TIMEOUT, Reg.MEM_PATROL, Reg.HD_SYNC_IN] : List Reg)) ∧ (responds s off = true) ∧ (locked s = false) ∧ (admitted r.fields v.toNat = true) := by decide +kernel

/-- The hypotheses of RegisterAccess can be met. -/
theorem witness_RegisterAccess_width :
    let s : State := runBase; let t : Nat := 1000; let fn : Nat := 0; let off : Nat := 0x30C; let size : Nat := 2; let v : Word := 5;
    (wellFormed (.registerWrite t fn off size v) = true) ∧ (s.pwr.phase = ResetPhase.run) ∧ (size ≠ 4 ∨ off % 4 ≠ 0) := by decide +kernel

/-- The hypotheses of RegisterAccess can be met. -/
theorem witness_RegisterAccess_low :
    let s : State := runBase; let t : Nat := 0x100000005; let off : Nat := Reg.key .TIME_NOW_LO; let r : Reg := Reg.TIME_NOW_LO; let h : Reg := Reg.TIME_NOW_HI;
    (wellFormed (.latchedLowWordRead t 0 off 4) = true) ∧ (s.pwr.phase = ResetPhase.run) ∧ (off < 0x1000000) ∧ (off % 4 = 0) ∧ (regOfSetup off = some r) ∧ (highWord r = some h) ∧ (responds s off = true) ∧ (s.host.latch.all (fun (e : Nat × Nat × Word) => decide (e.1 ≠ 0 ∨ e.2.1 ≠ r.key)) = true) := by decide +kernel

/-- The hypotheses of RegisterAccess can be met. -/
theorem witness_RegisterAccess_high :
    let s : State := { runBase with host := { runBase.host with latch := [(0, Reg.key .TIME_NOW_HI, 9)] } }; let t : Nat := 1000; let off : Nat := Reg.key .TIME_NOW_HI; let h : Reg := Reg.TIME_NOW_HI; let x : Word := 9;
    (wellFormed (.latchedLowWordRead t 0 off 4) = true) ∧ (s.pwr.phase = ResetPhase.run) ∧ (off < 0x1000000) ∧ (off % 4 = 0) ∧ (regOfSetup off = some h) ∧ (responds s off = true) ∧ (s.host.latch.find? (fun (e : Nat × Nat × Word) => decide (e.1 = 0 ∧ e.2.1 = h.key)) = some (0, h.key, x)) := by decide +kernel

/-- The hypotheses of RegisterAccess can be met. -/
theorem witness_RegisterAccess_clear :
    let s : State := wr runBase .SHL_LOG_DROP 7; let t : Nat := 1000; let off : Nat := Reg.key .SHL_LOG_DROP; let r : Reg := Reg.SHL_LOG_DROP;
    (wellFormed (.readClearCounter t 0 off 4) = true) ∧ (s.pwr.phase = ResetPhase.run) ∧ (off < 0x1000000) ∧ (off % 4 = 0) ∧ (regOfSetup off = some r) ∧ (responds s off = true) ∧ (r.fields ≠ []) ∧ (r.fields.all (fun (f : FieldSpec) => decide (f.acc = Acc.rc)) = true) ∧ (s.meet.stamp ≠ now (begin t s)) ∧ (s.host.latch.all (fun (e : Nat × Nat × Word) => decide (e.1 ≠ 0 ∨ e.2.1 ≠ r.key)) = true) := by decide +kernel

/-- The hypotheses of RegisterAccess can be met. -/
theorem witness_RegisterAccess_clearMeets :
    let s : State := { wr runBase .SHL_LOG_DROP 7 with time := { runBase.time with stamp := 1000, acc := 1000 * 2 ^ 32 }, meet := { stamp := 1000, counted := [(32 * Reg.key .SHL_LOG_DROP, (5, 2))] } }; let t : Nat := 1000; let off : Nat := Reg.key .SHL_LOG_DROP; let r : Reg := Reg.SHL_LOG_DROP; let f : FieldSpec := ⟨31, 0, .rc, []⟩; let b : Nat := 5; let n : Nat := 2;
    (wellFormed (.readClearCounter t 0 off 4) = true) ∧ (s.pwr.phase = ResetPhase.run) ∧ (off < 0x1000000) ∧ (off % 4 = 0) ∧ (regOfSetup off = some r) ∧ (responds s off = true) ∧ (r.fields = [f]) ∧ (f.acc = Acc.rc) ∧ (s.meet.stamp = now (begin t s)) ∧ (Sparse.get (0, 0) s.meet.counted (32 * r.key + f.lo) = (b, n)) ∧ (0 < n) ∧ (b < 2 ^ (f.hi + 1 - f.lo)) ∧ (s.host.latch.all (fun (e : Nat × Nat × Word) => decide (e.1 ≠ 0 ∨ e.2.1 ≠ r.key)) = true) := by decide +kernel

/-- The hypotheses of RegisterAccess can be met. -/
theorem witness_RegisterAccess_lock :
    let s : State := runBase; let t : Nat := 1000; let v : Word := 1;
    (wellFormed (.setupLock t v) = true) ∧ (s.pwr.phase = ResetPhase.run) := by decide +kernel

/-- The hypotheses of RingDoorbells can be met. -/
theorem witness_RingDoorbells_tail :
    let s : State := ringBase runBase 0; let t : Nat := 1000; let fn : Nat := 0; let q : Nat := 0; let gen : Nat := 0; let idx : Nat := 70;
    (wellFormed (.sqTailDoorbell t fn q gen idx) = true) ∧ (s.pwr.phase = ResetPhase.run) ∧ (fn = 0 → rdF s BOOT_STATUS.STAGE = 6) ∧ (exists? s fn = true) ∧ (instState s fn ≠ ABSENT) ∧ (instState s fn ≠ DESTROYING) ∧ (gen = instGen s fn) ∧ (resetMeets (begin t s) fn = false) ∧ (q < sqCount fn) ∧ (flag s (SQ_CFG.ENABLE fn q) = true) := by decide +kernel

/-- The hypotheses of RingDoorbells can be met. -/
theorem witness_RingDoorbells_tail_also :
    let s : State := vfBase; let t : Nat := 1000; let fn : Nat := 3; let q : Nat := 0; let gen : Nat := instGen vfBase 3; let idx : Nat := 70;
    (wellFormed (.sqTailDoorbell t fn q gen idx) = true) ∧ (s.pwr.phase = ResetPhase.run) ∧ (fn = 0 → rdF s BOOT_STATUS.STAGE = 6) ∧ (exists? s fn = true) ∧ (instState s fn ≠ ABSENT) ∧ (instState s fn ≠ DESTROYING) ∧ (gen = instGen s fn) ∧ (resetMeets (begin t s) fn = false) ∧ (q < sqCount fn) ∧ (flag s (SQ_CFG.ENABLE fn q) = true) := by decide +kernel

/-- The hypotheses of RingDoorbells can be met. -/
theorem witness_RingDoorbells_cq :
    let s : State := ringBase runBase 0; let t : Nat := 1000; let fn : Nat := 0; let c : Nat := 0; let gen : Nat := 0; let idx : Nat := 3;
    (wellFormed (.cqHeadDoorbell t fn c gen idx) = true) ∧ (s.pwr.phase = ResetPhase.run) ∧ (fn = 0 → rdF s BOOT_STATUS.STAGE = 6) ∧ (exists? s fn = true) ∧ (instState s fn ≠ ABSENT) ∧ (instState s fn ≠ DESTROYING) ∧ (gen = instGen s fn) ∧ (resetMeets (begin t s) fn = false) ∧ (c < cqCount fn) ∧ (flag s (CQ_CFG.ENABLE fn c) = true) := by decide +kernel

/-- The hypotheses of RingDoorbells can be met. -/
theorem witness_RingDoorbells_cq_also :
    let s : State := vfBase; let t : Nat := 1000; let fn : Nat := 3; let c : Nat := 0; let gen : Nat := instGen vfBase 3; let idx : Nat := 3;
    (wellFormed (.cqHeadDoorbell t fn c gen idx) = true) ∧ (s.pwr.phase = ResetPhase.run) ∧ (fn = 0 → rdF s BOOT_STATUS.STAGE = 6) ∧ (exists? s fn = true) ∧ (instState s fn ≠ ABSENT) ∧ (instState s fn ≠ DESTROYING) ∧ (gen = instGen s fn) ∧ (resetMeets (begin t s) fn = false) ∧ (c < cqCount fn) ∧ (flag s (CQ_CFG.ENABLE fn c) = true) := by decide +kernel

/-- The hypotheses of RingDoorbells can be met. -/
theorem witness_RingDoorbells_cqTail :
    let s : State := ringBase runBase 0; let t : Nat := 1000; let fn : Nat := 0; let c : Nat := 0; let gen : Nat := 0; let idx : Nat := 3; let i : Nat := idx % 2 ^ rdF s (CQ_CFG.SIZE_LOG2 fn c); let k : Nat := rdF s (CQ_CFG.SIZE_LOG2 fn c);
    (wellFormed (.cqHeadDoorbell t fn c gen idx) = true) ∧ (s.pwr.phase = ResetPhase.run) ∧ (fn = 0 → rdF s BOOT_STATUS.STAGE = 6) ∧ (exists? s fn = true) ∧ (instState s fn ≠ ABSENT) ∧ (instState s fn ≠ DESTROYING) ∧ (gen = instGen s fn) ∧ (resetMeets (begin t s) fn = false) ∧ (c < cqCount fn) ∧ (flag s (CQ_CFG.ENABLE fn c) = true) ∧ (s.host.sq.all (fun (p : Nat × SqState) => decide (p.1 / 64 ≠ fn) || p.2.flights.all (fun (f : Flight) => decide (f.cq ≠ c))) = true) ∧ (i = idx % 2 ^ rdF s (CQ_CFG.SIZE_LOG2 fn c)) ∧ (k = rdF s (CQ_CFG.SIZE_LOG2 fn c)) := by decide +kernel

/-- The hypotheses of RingDoorbells can be met. -/
theorem witness_RingDoorbells_cqTail_also :
    let s : State := vfBase; let t : Nat := 1000; let fn : Nat := 3; let c : Nat := 0; let gen : Nat := instGen vfBase 3; let idx : Nat := 3; let i : Nat := idx % 2 ^ rdF s (CQ_CFG.SIZE_LOG2 fn c); let k : Nat := rdF s (CQ_CFG.SIZE_LOG2 fn c);
    (wellFormed (.cqHeadDoorbell t fn c gen idx) = true) ∧ (s.pwr.phase = ResetPhase.run) ∧ (fn = 0 → rdF s BOOT_STATUS.STAGE = 6) ∧ (exists? s fn = true) ∧ (instState s fn ≠ ABSENT) ∧ (instState s fn ≠ DESTROYING) ∧ (gen = instGen s fn) ∧ (resetMeets (begin t s) fn = false) ∧ (c < cqCount fn) ∧ (flag s (CQ_CFG.ENABLE fn c) = true) ∧ (s.host.sq.all (fun (p : Nat × SqState) => decide (p.1 / 64 ≠ fn) || p.2.flights.all (fun (f : Flight) => decide (f.cq ≠ c))) = true) ∧ (i = idx % 2 ^ rdF s (CQ_CFG.SIZE_LOG2 fn c)) ∧ (k = rdF s (CQ_CFG.SIZE_LOG2 fn c)) := by decide +kernel

/-- The hypotheses of RingDoorbells can be met. -/
theorem witness_RingDoorbells_cqTail_also2 :
    let s : State := wrF (wrF (ringBase runBase 0) (CQ_PTR.TAIL 0 0) 6) (CQ_PTR.HEAD 0 0) 2; let t : Nat := 1000; let fn : Nat := 0; let c : Nat := 0; let gen : Nat := 0; let idx : Nat := 3; let i : Nat := idx % 2 ^ rdF s (CQ_CFG.SIZE_LOG2 fn c); let k : Nat := rdF s (CQ_CFG.SIZE_LOG2 fn c);
    (wellFormed (.cqHeadDoorbell t fn c gen idx) = true) ∧ (s.pwr.phase = ResetPhase.run) ∧ (fn = 0 → rdF s BOOT_STATUS.STAGE = 6) ∧ (exists? s fn = true) ∧ (instState s fn ≠ ABSENT) ∧ (instState s fn ≠ DESTROYING) ∧ (gen = instGen s fn) ∧ (resetMeets (begin t s) fn = false) ∧ (c < cqCount fn) ∧ (flag s (CQ_CFG.ENABLE fn c) = true) ∧ (s.host.sq.all (fun (p : Nat × SqState) => decide (p.1 / 64 ≠ fn) || p.2.flights.all (fun (f : Flight) => decide (f.cq ≠ c))) = true) ∧ (i = idx % 2 ^ rdF s (CQ_CFG.SIZE_LOG2 fn c)) ∧ (k = rdF s (CQ_CFG.SIZE_LOG2 fn c)) := by decide +kernel

/-- The hypotheses of RingDoorbells can be met. -/
theorem witness_RingDoorbells_eq :
    let s : State := wrB runBase (EQ_CFG.ENABLE 0) true; let t : Nat := 1000; let fn : Nat := 0; let gen : Nat := 0; let idx : Nat := 3; let i : Nat := idx % 2 ^ rdF s (EQ_CFG.SIZE_LOG2 fn); let k : Nat := rdF s (EQ_CFG.SIZE_LOG2 fn);
    (wellFormed (.eqHeadDoorbell t fn gen idx) = true) ∧ (s.pwr.phase = ResetPhase.run) ∧ (fn = 0 → rdF s BOOT_STATUS.STAGE = 6) ∧ (exists? s fn = true) ∧ (instState s fn ≠ ABSENT) ∧ (instState s fn ≠ DESTROYING) ∧ (gen = instGen s fn) ∧ (resetMeets (begin t s) fn = false) ∧ (flag s (EQ_CFG.ENABLE fn) = true) ∧ (i = idx % 2 ^ rdF s (EQ_CFG.SIZE_LOG2 fn)) ∧ (k = rdF s (EQ_CFG.SIZE_LOG2 fn)) := by decide +kernel

/-- The hypotheses of RingDoorbells can be met. -/
theorem witness_RingDoorbells_eq_also :
    let s : State := vfBase; let t : Nat := 1000; let fn : Nat := 3; let gen : Nat := instGen vfBase 3; let idx : Nat := 3; let i : Nat := idx % 2 ^ rdF s (EQ_CFG.SIZE_LOG2 fn); let k : Nat := rdF s (EQ_CFG.SIZE_LOG2 fn);
    (wellFormed (.eqHeadDoorbell t fn gen idx) = true) ∧ (s.pwr.phase = ResetPhase.run) ∧ (fn = 0 → rdF s BOOT_STATUS.STAGE = 6) ∧ (exists? s fn = true) ∧ (instState s fn ≠ ABSENT) ∧ (instState s fn ≠ DESTROYING) ∧ (gen = instGen s fn) ∧ (resetMeets (begin t s) fn = false) ∧ (flag s (EQ_CFG.ENABLE fn) = true) ∧ (i = idx % 2 ^ rdF s (EQ_CFG.SIZE_LOG2 fn)) ∧ (k = rdF s (EQ_CFG.SIZE_LOG2 fn)) := by decide +kernel

/-- The hypotheses of RingDoorbells can be met. -/
theorem witness_RingDoorbells_eq_also2 :
    let s : State := wrF (wrF (wrB runBase (EQ_CFG.ENABLE 0) true) (EQ_PTR.TAIL 0) 6) (EQ_PTR.HEAD 0) 2; let t : Nat := 1000; let fn : Nat := 0; let gen : Nat := 0; let idx : Nat := 3; let i : Nat := idx % 2 ^ rdF s (EQ_CFG.SIZE_LOG2 fn); let k : Nat := rdF s (EQ_CFG.SIZE_LOG2 fn);
    (wellFormed (.eqHeadDoorbell t fn gen idx) = true) ∧ (s.pwr.phase = ResetPhase.run) ∧ (fn = 0 → rdF s BOOT_STATUS.STAGE = 6) ∧ (exists? s fn = true) ∧ (instState s fn ≠ ABSENT) ∧ (instState s fn ≠ DESTROYING) ∧ (gen = instGen s fn) ∧ (resetMeets (begin t s) fn = false) ∧ (flag s (EQ_CFG.ENABLE fn) = true) ∧ (i = idx % 2 ^ rdF s (EQ_CFG.SIZE_LOG2 fn)) ∧ (k = rdF s (EQ_CFG.SIZE_LOG2 fn)) := by decide +kernel

/-- The hypotheses of AbsentDoorbells can be met. -/
theorem witness_AbsentDoorbells_sq :
    let s : State := { runBase with host := { runBase.host with vfEnable := true, numVFs := 8 } }; let t : Nat := 1000; let n : Nat := 3; let gen : Nat := 9; let q : Nat := 1; let idx : Nat := 2;
    (wellFormed (.sqTailDoorbell t n q gen idx) = true) ∧ (s.pwr.phase = ResetPhase.run) ∧ (1 ≤ n) ∧ (n ≤ 256) ∧ (exists? s n = true) ∧ (instState s n = ABSENT ∨ instState s n = DESTROYING) ∧ (s.fab.mbLatch = []) ∧ (q < sqCount n) := by decide +kernel

/-- The hypotheses of AbsentDoorbells can be met. -/
theorem witness_AbsentDoorbells_cq :
    let s : State := { runBase with host := { runBase.host with vfEnable := true, numVFs := 8 } }; let t : Nat := 1000; let n : Nat := 3; let gen : Nat := 9; let c : Nat := 1; let idx : Nat := 2;
    (wellFormed (.cqHeadDoorbell t n c gen idx) = true) ∧ (s.pwr.phase = ResetPhase.run) ∧ (1 ≤ n) ∧ (n ≤ 256) ∧ (exists? s n = true) ∧ (instState s n = ABSENT ∨ instState s n = DESTROYING) ∧ (s.fab.mbLatch = []) ∧ (c < cqCount n) := by decide +kernel

/-- The hypotheses of AbsentDoorbells can be met. -/
theorem witness_AbsentDoorbells_eq :
    let s : State := { runBase with host := { runBase.host with vfEnable := true, numVFs := 8 } }; let t : Nat := 1000; let n : Nat := 3; let gen : Nat := 9; let idx : Nat := 2;
    (wellFormed (.eqHeadDoorbell t n gen idx) = true) ∧ (s.pwr.phase = ResetPhase.run) ∧ (1 ≤ n) ∧ (n ≤ 256) ∧ (exists? s n = true) ∧ (instState s n = ABSENT ∨ instState s n = DESTROYING) ∧ (s.fab.mbLatch = []) := by decide +kernel

/-- The hypotheses of AbsentDoorbells can be met. -/
theorem witness_AbsentDoorbells_kick :
    let s : State := { runBase with host := { runBase.host with vfEnable := true, numVFs := 8 } }; let t : Nat := 1000; let n : Nat := 3; let gen : Nat := 9;
    (wellFormed (.leaseKick t n gen) = true) ∧ (s.pwr.phase = ResetPhase.run) ∧ (1 ≤ n) ∧ (n ≤ 256) ∧ (exists? s n = true) ∧ (instState s n = ABSENT ∨ instState s n = DESTROYING) ∧ (s.fab.mbLatch = []) := by decide +kernel

/-- The hypotheses of AbsentDoorbells can be met. -/
theorem witness_AbsentDoorbells_leaseRequest :
    let s : State := { runBase with host := { runBase.host with vfEnable := true, numVFs := 8 } }; let t : Nat := 1000; let n : Nat := 3; let gen : Nat := 9; let page : Page := reqPage 9;
    (wellFormed (.leaseRequest t n gen page) = true) ∧ (s.pwr.phase = ResetPhase.run) ∧ (1 ≤ n) ∧ (n ≤ 256) ∧ (exists? s n = true) ∧ (instState s n = ABSENT ∨ instState s n = DESTROYING) ∧ (s.fab.mbLatch = []) := by decide +kernel

/-- The hypotheses of AbsentDoorbells can be met. -/
theorem witness_AbsentDoorbells_leaseRelease :
    let s : State := { runBase with host := { runBase.host with vfEnable := true, numVFs := 8 } }; let t : Nat := 1000; let n : Nat := 3; let gen : Nat := 9; let page : Page := reqPage 9;
    (wellFormed (.leaseRelease t n gen page) = true) ∧ (s.pwr.phase = ResetPhase.run) ∧ (1 ≤ n) ∧ (n ≤ 256) ∧ (exists? s n = true) ∧ (instState s n = ABSENT ∨ instState s n = DESTROYING) ∧ (s.fab.mbLatch = []) := by decide +kernel

/-- The hypotheses of AbsentDoorbells can be met. -/
theorem witness_AbsentDoorbells_setup :
    let s : State := { runBase with host := { runBase.host with vfEnable := true, numVFs := 8 } }; let t : Nat := 1000; let n : Nat := 3; let gen : Nat := 9; let page : Page := reqPage 9;
    (wellFormed (.setup t n gen page) = true) ∧ (s.pwr.phase = ResetPhase.run) ∧ (1 ≤ n) ∧ (n ≤ 256) ∧ (exists? s n = true) ∧ (instState s n = ABSENT ∨ instState s n = DESTROYING) ∧ (s.fab.mbLatch = []) := by decide +kernel

/-- The hypotheses of AbsentDoorbells can be met. -/
theorem witness_AbsentDoorbells_query :
    let s : State := { runBase with host := { runBase.host with vfEnable := true, numVFs := 8 } }; let t : Nat := 1000; let n : Nat := 3; let gen : Nat := 9; let page : Page := reqPage 9;
    (wellFormed (.query t n gen page) = true) ∧ (s.pwr.phase = ResetPhase.run) ∧ (1 ≤ n) ∧ (n ≤ 256) ∧ (exists? s n = true) ∧ (instState s n = ABSENT ∨ instState s n = DESTROYING) ∧ (s.fab.mbLatch = []) := by decide +kernel

/-- The hypotheses of AbsentDoorbells can be met. -/
theorem witness_AbsentDoorbells_page :
    let s : State := runBase; let t : Nat := 1000; let n : Nat := 3; let off : Nat := 0x4004; let v : Word := 7;
    (wellFormed (.registerWrite t n off 4 v) = true) ∧ (s.pwr.phase = ResetPhase.run) ∧ (1 ≤ n) ∧ (n ≤ 256) ∧ (instState s n = ABSENT ∨ instState s n = DESTROYING) ∧ (0x4000 ≤ off) ∧ (off < 0x4100) ∧ (off % 4 = 0) := by decide +kernel

/-- The hypotheses of RingSetup can be met. -/
theorem witness_RingSetup_sq :
    let s : State := ringBase runBase 0; let t : Nat := 1000; let fn : Nat := 0; let idx : Nat := 1; let v : Word := BitVec.ofNat 32 (6 * 8);
    (wellFormed (.ringEnable t fn 0 idx v) = true) ∧ (s.pwr.phase = ResetPhase.run) ∧ (fn = 0 → rdF s BOOT_STATUS.STAGE = 6) ∧ (exists? s fn = true) ∧ (justReset (begin t s) fn = false) ∧ (idx < sqCount fn) ∧ (flag s (SQ_CFG.ENABLE fn idx) = false) ∧ (admitted ((Reg.SQ_CFG fn idx).fields.filter (fun f => decide (f.hi ≠ 0))) (setBit v.toNat 0) = true) ∧ (sqEnableStatus s fn idx (setBit v.toNat 0) = ST_OK) := by decide +kernel

/-- The hypotheses of RingSetup can be met. -/
theorem witness_RingSetup_sq_also :
    let s : State := ringOf 3 (wrF leasedState BOOT_STATUS.STAGE 0) 0; let t : Nat := 1000; let fn : Nat := 3; let idx : Nat := 1; let v : Word := BitVec.ofNat 32 (6 * 8);
    (wellFormed (.ringEnable t fn 0 idx v) = true) ∧ (s.pwr.phase = ResetPhase.run) ∧ (fn = 0 → rdF s BOOT_STATUS.STAGE = 6) ∧ (exists? s fn = true) ∧ (justReset (begin t s) fn = false) ∧ (idx < sqCount fn) ∧ (flag s (SQ_CFG.ENABLE fn idx) = false) ∧ (admitted ((Reg.SQ_CFG fn idx).fields.filter (fun f => decide (f.hi ≠ 0))) (setBit v.toNat 0) = true) ∧ (sqEnableStatus s fn idx (setBit v.toNat 0) = ST_OK) := by decide +kernel

/-- The hypotheses of RingSetup can be met. -/
theorem witness_RingSetup_cq :
    let s : State := runBase; let t : Nat := 1000; let fn : Nat := 0; let idx : Nat := 1; let v : Word := BitVec.ofNat 32 (6 * 8);
    (wellFormed (.ringEnable t fn 1 idx v) = true) ∧ (s.pwr.phase = ResetPhase.run) ∧ (fn = 0 → rdF s BOOT_STATUS.STAGE = 6) ∧ (exists? s fn = true) ∧ (justReset (begin t s) fn = false) ∧ (idx < cqCount fn) ∧ (flag s (CQ_CFG.ENABLE fn idx) = false) ∧ (admitted ((Reg.CQ_CFG fn idx).fields.filter (fun f => decide (f.hi ≠ 0))) (setBit v.toNat 0) = true) ∧ (vectorOk fn (setBit v.toNat 0) = true) ∧ (cqEnableStatus s fn (some idx) (setBit v.toNat 0) = ST_OK) := by decide +kernel

/-- The hypotheses of RingSetup can be met. -/
theorem witness_RingSetup_cq_also :
    let s : State := wrF leasedState BOOT_STATUS.STAGE 0; let t : Nat := 1000; let fn : Nat := 3; let idx : Nat := 1; let v : Word := BitVec.ofNat 32 (6 * 8);
    (wellFormed (.ringEnable t fn 1 idx v) = true) ∧ (s.pwr.phase = ResetPhase.run) ∧ (fn = 0 → rdF s BOOT_STATUS.STAGE = 6) ∧ (exists? s fn = true) ∧ (justReset (begin t s) fn = false) ∧ (idx < cqCount fn) ∧ (flag s (CQ_CFG.ENABLE fn idx) = false) ∧ (admitted ((Reg.CQ_CFG fn idx).fields.filter (fun f => decide (f.hi ≠ 0))) (setBit v.toNat 0) = true) ∧ (vectorOk fn (setBit v.toNat 0) = true) ∧ (cqEnableStatus s fn (some idx) (setBit v.toNat 0) = ST_OK) := by decide +kernel

/-- The hypotheses of RingSetup can be met. -/
theorem witness_RingSetup_eq :
    let s : State := runBase; let t : Nat := 1000; let fn : Nat := 0; let idx : Nat := 0; let v : Word := BitVec.ofNat 32 (6 * 8);
    (wellFormed (.ringEnable t fn 2 idx v) = true) ∧ (s.pwr.phase = ResetPhase.run) ∧ (fn = 0 → rdF s BOOT_STATUS.STAGE = 6) ∧ (exists? s fn = true) ∧ (justReset (begin t s) fn = false) ∧ (flag s (EQ_CFG.ENABLE fn) = false) ∧ (admitted ((Reg.EQ_CFG fn).fields.filter (fun f => decide (f.hi ≠ 0))) (setBit v.toNat 0) = true) ∧ (vectorOk fn (setBit v.toNat 0) = true) ∧ (cqEnableStatus s fn none (setBit v.toNat 0) = ST_OK) := by decide +kernel

/-- The hypotheses of RingSetup can be met. -/
theorem witness_RingSetup_eq_also :
    let s : State := wrF leasedState BOOT_STATUS.STAGE 0; let t : Nat := 1000; let fn : Nat := 3; let idx : Nat := 0; let v : Word := BitVec.ofNat 32 (6 * 8);
    (wellFormed (.ringEnable t fn 2 idx v) = true) ∧ (s.pwr.phase = ResetPhase.run) ∧ (fn = 0 → rdF s BOOT_STATUS.STAGE = 6) ∧ (exists? s fn = true) ∧ (justReset (begin t s) fn = false) ∧ (flag s (EQ_CFG.ENABLE fn) = false) ∧ (admitted ((Reg.EQ_CFG fn).fields.filter (fun f => decide (f.hi ≠ 0))) (setBit v.toNat 0) = true) ∧ (vectorOk fn (setBit v.toNat 0) = true) ∧ (cqEnableStatus s fn none (setBit v.toNat 0) = ST_OK) := by decide +kernel

/-- The hypotheses of RingSetup can be met. -/
theorem witness_RingSetup_sqOff :
    let s : State := ringBase runBase 0; let t : Nat := 1000; let fn : Nat := 0; let idx : Nat := 0; let v : Word := rd (ringBase runBase 0) (.SQ_CFG 0 0);
    (wellFormed (.ringDisable t fn 0 idx v) = true) ∧ (s.pwr.phase = ResetPhase.run) ∧ (fn = 0 → rdF s BOOT_STATUS.STAGE = 6) ∧ (exists? s fn = true) ∧ (justReset (begin t s) fn = false) ∧ (idx < sqCount fn) ∧ (flag s (SQ_CFG.ENABLE fn idx) = true) ∧ (admitted ((Reg.SQ_CFG fn idx).fields.filter (fun f => decide (f.hi ≠ 0))) (clearBit v.toNat 0) = true) := by decide +kernel

/-- The hypotheses of RingSetup can be met. -/
theorem witness_RingSetup_sqOff_also :
    let s : State := vfBase; let t : Nat := 1000; let fn : Nat := 3; let idx : Nat := 0; let v : Word := rd vfBase (.SQ_CFG 3 0);
    (wellFormed (.ringDisable t fn 0 idx v) = true) ∧ (s.pwr.phase = ResetPhase.run) ∧ (fn = 0 → rdF s BOOT_STATUS.STAGE = 6) ∧ (exists? s fn = true) ∧ (justReset (begin t s) fn = false) ∧ (idx < sqCount fn) ∧ (flag s (SQ_CFG.ENABLE fn idx) = true) ∧ (admitted ((Reg.SQ_CFG fn idx).fields.filter (fun f => decide (f.hi ≠ 0))) (clearBit v.toNat 0) = true) := by decide +kernel

/-- The hypotheses of RingSetup can be met. -/
theorem witness_RingSetup_cqOff :
    let s : State := ringBase runBase 0; let t : Nat := 1000; let fn : Nat := 0; let idx : Nat := 0; let v : Word := rd (ringBase runBase 0) (.CQ_CFG 0 0);
    (wellFormed (.ringDisable t fn 1 idx v) = true) ∧ (s.pwr.phase = ResetPhase.run) ∧ (fn = 0 → rdF s BOOT_STATUS.STAGE = 6) ∧ (exists? s fn = true) ∧ (justReset (begin t s) fn = false) ∧ (idx < cqCount fn) ∧ (flag s (CQ_CFG.ENABLE fn idx) = true) ∧ (admitted ((Reg.CQ_CFG fn idx).fields.filter (fun f => decide (f.hi ≠ 0))) (clearBit v.toNat 0) = true) ∧ (vectorOk fn (clearBit v.toNat 0) = true) := by decide +kernel

/-- The hypotheses of RingSetup can be met. -/
theorem witness_RingSetup_cqOff_also :
    let s : State := vfBase; let t : Nat := 1000; let fn : Nat := 3; let idx : Nat := 0; let v : Word := rd vfBase (.CQ_CFG 3 0);
    (wellFormed (.ringDisable t fn 1 idx v) = true) ∧ (s.pwr.phase = ResetPhase.run) ∧ (fn = 0 → rdF s BOOT_STATUS.STAGE = 6) ∧ (exists? s fn = true) ∧ (justReset (begin t s) fn = false) ∧ (idx < cqCount fn) ∧ (flag s (CQ_CFG.ENABLE fn idx) = true) ∧ (admitted ((Reg.CQ_CFG fn idx).fields.filter (fun f => decide (f.hi ≠ 0))) (clearBit v.toNat 0) = true) ∧ (vectorOk fn (clearBit v.toNat 0) = true) := by decide +kernel

/-- The hypotheses of RingSetup can be met. -/
theorem witness_RingSetup_halt :
    let s : State := ringBase runBase 0; let t : Nat := 1000; let fn : Nat := 0; let q : Nat := 0; let len : Nat := 0; let good : List Byte := [];
    (wellFormed (.hostReadFailure t fn q 0 false good len) = true) ∧ (s.pwr.phase = ResetPhase.run) ∧ (exists? s fn = true) ∧ (q < sqCount fn) ∧ (flag s (SQ_CFG.ENABLE fn q) = true) := by decide +kernel

/-- The hypotheses of RingSetup can be met. -/
theorem witness_RingSetup_retried :
    let s : State := ringBase runBase 0; let t : Nat := 1000; let fn : Nat := 0; let q : Nat := 0; let len : Nat := 0; let good : List Byte := [];
    (wellFormed (.hostReadFailure t fn q 0 true good len) = true) ∧ (s.pwr.phase = ResetPhase.run) ∧ (exists? s fn = true) ∧ (q < sqCount fn) ∧ (flag s (SQ_CFG.ENABLE fn q) = true) ∧ (s.host.retries.contains (fn, q, 0, good.length) = false) := by decide +kernel

/-- The hypotheses of RingSetup can be met. -/
theorem witness_RingSetup_1 :
    let s : State := wrF (ringBase runBase 0) (SQ_PTR.TAIL 0 0) 2; let t : Nat := 1000; let fn : Nat := 0; let q : Nat := 0; let ds : List Desc := [desc OP_NOP 0 0, desc OP_NOP 0 0];
    (wellFormed (.descriptorFetch t fn q ds) = true) ∧ (s.pwr.phase = ResetPhase.run) ∧ (flag s (SQ_CFG.ENABLE fn q) = true) ∧ (instState s fn = ENABLED) ∧ (ds.length ≤ fetchCount s fn q) := by decide +kernel

/-- The hypotheses of HostDescriptors can be met. -/
theorem witness_HostDescriptors_nop :
    let s : State := fetchedState runBase 0 (desc OP_NOP 0 0); let t : Nat := 1000; let k : Taken := takenDesc OP_NOP 1000 (fetchedState runBase 0 (desc OP_NOP 0 0));
    (wellFormed (.nop t) = true) ∧ (s.pwr.phase = ResetPhase.run) ∧ (Dispatches t s (fun o => decide (o = OP_NOP) || !(knownOp o)) (fun _ _ => ST_OK) k = true) := by decide +kernel

/-- The hypotheses of HostDescriptors can be met. -/
theorem witness_HostDescriptors_timestamp :
    let s : State := (fetchedState runBase 0 (desc OP_TIMESTAMP 0 (at64 32 0x40))); let t : Nat := 1000; let k : Taken := takenDesc OP_TIMESTAMP 1000 (fetchedState runBase 0 (desc OP_TIMESTAMP 0 (at64 32 0x40)));
    (wellFormed (.timestamp t) = true) ∧ (s.pwr.phase = ResetPhase.run) ∧ (Dispatches t s (fun o => decide (o = OP_TIMESTAMP)) checkTimestamp k = true) := by decide +kernel

/-- The hypotheses of HostDescriptors can be met. -/
theorem witness_HostDescriptors_write :
    let s : State := (fetchedState runBase 0 (desc OP_WRITE_VALUE 0 (at64 32 0x40 + at64 40 77))); let t : Nat := 1000; let k : Taken := takenDesc OP_WRITE_VALUE 1000 (fetchedState runBase 0 (desc OP_WRITE_VALUE 0 (at64 32 0x40 + at64 40 77)));
    (wellFormed (.writeValue t) = true) ∧ (s.pwr.phase = ResetPhase.run) ∧ (Dispatches t s (fun o => decide (o = OP_WRITE_VALUE)) checkWriteValue k = true) := by decide +kernel

/-- The hypotheses of HostDescriptors can be met. -/
theorem witness_HostDescriptors_wait :
    let s : State := (fetchedState runBase 0 (desc OP_WAIT_VALUE 0 (at64 32 0x40 + at64 40 77))); let t : Nat := 1000; let k : Taken := takenDesc OP_WAIT_VALUE 1000 (fetchedState runBase 0 (desc OP_WAIT_VALUE 0 (at64 32 0x40 + at64 40 77)));
    (wellFormed (.waitValue t) = true) ∧ (s.pwr.phase = ResetPhase.run) ∧ (Dispatches t s (fun o => decide (o = OP_WAIT_VALUE)) checkWaitValue k = true) := by decide +kernel

/-- The hypotheses of HostDescriptors can be met. -/
theorem witness_HostDescriptors_copy :
    let s : State := (fetchedState runBase 5 (desc OP_COPY 64 (at64 32 0x40 + at64 40 0x1000))); let t : Nat := 1000; let k : Taken := takenDesc OP_COPY 1000 (fetchedState runBase 5 (desc OP_COPY 64 (at64 32 0x40 + at64 40 0x1000)));
    (wellFormed (.copy t) = true) ∧ (s.pwr.phase = ResetPhase.run) ∧ (Dispatches t s (fun o => decide (o = OP_COPY)) checkCopy k = true) := by decide +kernel

/-- The hypotheses of HostWorkEnds can be met. -/
theorem witness_HostWorkEnds_wait :
    let s : State := setSq runBase 0 0 { wait := some { id := 3, addr := 0x40, value := 0, since := 0, timeoutUs := 0 } }; let t : Nat := 1000; let fn : Nat := 0; let q : Nat := 0; let w : WaitV := { id := 3, addr := 0x40, value := 0, since := 0, timeoutUs := 0 };
    (wellFormed (.waitValueEval t) = true) ∧ (s.pwr.phase = ResetPhase.run) ∧ (q < 64) ∧ ((getSq s fn q).wait = some w) ∧ (w.value ≤ readNum s w.addr 8) := by decide +kernel

/-- The hypotheses of HostWorkEnds can be met. -/
theorem witness_HostWorkEnds_copy :
    let s : State := { runBase with host := { runBase.host with copies := [{ fn := 0, q := 0, id := 3, gen := 0, src := 0, dst := 0x100, len := 2 }] } }; let t : Nat := 1000; let id : Nat := 3; let data : List Byte := [1, 2]; let c : CopyOp := { fn := 0, q := 0, id := 3, gen := 0, src := 0, dst := 0x100, len := 2 };
    (wellFormed (.copyComplete t id data) = true) ∧ (s.pwr.phase = ResetPhase.run) ∧ (s.host.copies.find? (fun (c : CopyOp) => decide (c.id = id)) = some c) ∧ (c.gen = instGen s c.fn) ∧ (hostSpace c.dst = false) ∧ (data.length = c.len) ∧ (memClean s = true) := by decide +kernel

/-- The hypotheses of HostWorkEnds can be met. -/
theorem witness_HostWorkEnds_moderation :
    let s : State := setCq runBase 0 1 { window := { openAt := 1, waiting := 2, timeUs := 5 } }; let t : Nat := 6000; let fn : Nat := 0; let c : Nat := 1;
    (wellFormed (.msixModTimeout t fn c false) = true) ∧ (s.pwr.phase = ResetPhase.run) ∧ (windowDue (begin t s) (getCq s fn c).window = true) := by decide +kernel

/-- The hypotheses of HostWorkEnds can be met. -/
theorem witness_HostWorkEnds_eventModeration :
    let s : State := setEq runBase 0 { window := { openAt := 1, waiting := 2, timeUs := 5 } }; let t : Nat := 6000; let fn : Nat := 0; let c : Nat := 0;
    (wellFormed (.msixModTimeout t fn c true) = true) ∧ (s.pwr.phase = ResetPhase.run) ∧ (windowDue (begin t s) (getEq s fn).window = true) := by decide +kernel

/-- The hypotheses of HostWorkEnds can be met. -/
theorem witness_HostWorkEnds_unmask :
    let s : State := runBase; let t : Nat := 1000; let fn : Nat := 0; let v : Nat := 3;
    (wellFormed (.msixVectorUnmask t fn v) = true) ∧ (s.pwr.phase = ResetPhase.run) ∧ (fn = 0 → rdF s BOOT_STATUS.STAGE = 6) := by decide +kernel

/-- The hypotheses of HostWorkEnds can be met. -/
theorem witness_HostWorkEnds_unmask_also :
    let s : State := wrF leasedState BOOT_STATUS.STAGE 0; let t : Nat := 1000; let fn : Nat := 3; let v : Nat := 3;
    (wellFormed (.msixVectorUnmask t fn v) = true) ∧ (s.pwr.phase = ResetPhase.run) ∧ (fn = 0 → rdF s BOOT_STATUS.STAGE = 6) := by decide +kernel

/-- The hypotheses of HostWorkEnds can be met. -/
theorem witness_HostWorkEnds_ats :
    let s : State := runBase; let t : Nat := 1000; let tag : Nat := 4;
    (wellFormed (.atsInvalidation t tag) = true) ∧ (s.pwr.phase = ResetPhase.run) ∧ (outstandingReads s = []) ∧ (s.host.atsWait.length < ATS_QUEUE_DEPTH) := by decide +kernel

/-- The hypotheses of HostWorkEnds can be met. -/
theorem witness_HostWorkEnds_atsWaits :
    let s : State := { runBase with host := { runBase.host with copies := [{ fn := 0, q := 0, id := 3, gen := 0, src := 2 ^ 63, dst := 0x100, len := 2 }] } }; let t : Nat := 1000; let tag : Nat := 4;
    (wellFormed (.atsInvalidation t tag) = true) ∧ (s.pwr.phase = ResetPhase.run) ∧ (outstandingReads s ≠ []) ∧ (s.host.atsWait.length < ATS_QUEUE_DEPTH) := by decide +kernel

/-- The hypotheses of StreamState can be met. -/
theorem witness_StreamState_nop :
    let s : State := onCluster (csState [cmd 1 1, cmd 1 1] {}); let t : Nat := 1000; let c : Nat := 3; let st : Stream := csStream [cmd 1 1, cmd 1 1]; let dw : Nat := 1;
    (wellFormed (.csNop t c) = true) ∧ (s.pwr.phase = ResetPhase.run) ∧ (memClean s = true) ∧ (AtCommand s c 0x01 st dw = true) := by decide +kernel

/-- The hypotheses of StreamState can be met. -/
theorem witness_StreamState_set :
    let s : State := onCluster (csState [cmd 2 3, 5, 9, cmd 1 1] {}); let t : Nat := 1000; let c : Nat := 3; let st : Stream := csStream [cmd 2 3, 5, 9, cmd 1 1]; let dw : Nat := 3;
    (wellFormed (.setState t c) = true) ∧ (s.pwr.phase = ResetPhase.run) ∧ (memClean s = true) ∧ (AtCommand s c 0x02 st dw = true) ∧ (3 ≤ dw) ∧ (dw ≤ 4095) ∧ (dw % 2 = 1) ∧ ((statePairs (payload s st) ((dw - 1) / 2)).all (fun (p : Nat × Nat) => stateWordOk p.1 p.2) = true) := by decide +kernel

/-- The hypotheses of StreamState can be met. -/
theorem witness_StreamState_bind :
    let s : State := onCluster ((fun (x : State) => { x with rnd := { x.rnd with regs := [reg0] } }) (sliceState (csState [cmd 3 3, 0x40, 0, cmd 1 1] {}))); let t : Nat := 1000; let c : Nat := 3; let st : Stream := csStream [cmd 3 3, 0x40, 0, cmd 1 1]; let r : Registration := reg0;
    (wellFormed (.bindPipeline t c) = true) ∧ (s.pwr.phase = ResetPhase.run) ∧ (memClean s = true) ∧ (AtCommand s c 0x03 st 3 = true) ∧ (handleStatus s (ctxHolder s c) (w64 (payload s st) 0) = ST_OK) ∧ (s.rnd.regs.find? (fun (r : Registration) => decide (r.inst = ctxHolder s c ∧ r.addr = w64 (payload s st) 0 ∧ r.buildSeq = readNum s (w64 (payload s st) 0 + 4) 4)) = some r) := by decide +kernel

/-- The hypotheses of StreamState can be met. -/
theorem witness_StreamState_ingest :
    let s : State := onCluster (sliceState (csState [cmd 3 3, 0x40, 0, cmd 1 1] {})); let t : Nat := 1000; let c : Nat := 3; let st : Stream := csStream [cmd 3 3, 0x40, 0, cmd 1 1];
    (wellFormed (.bindPipeline t c) = true) ∧ (s.pwr.phase = ResetPhase.run) ∧ (memClean s = true) ∧ (AtCommand s c 0x03 st 3 = true) ∧ (handleStatus s (ctxHolder s c) (w64 (payload s st) 0) = ST_OK) ∧ (s.rnd.regs.find? (fun (r : Registration) => decide (r.inst = ctxHolder s c ∧ r.addr = w64 (payload s st) 0 ∧ r.buildSeq = readNum s (w64 (payload s st) 0 + 4) 4)) = none) := by decide +kernel

/-- The hypotheses of StreamState can be met. -/
theorem witness_StreamState_table :
    let s : State := onCluster (sliceState (csState [cmd 4 3, 0x80, 0, cmd 1 1] {})); let t : Nat := 1000; let c : Nat := 3; let st : Stream := csStream [cmd 4 3, 0x80, 0, cmd 1 1];
    (wellFormed (.bindTable t c) = true) ∧ (s.pwr.phase = ResetPhase.run) ∧ (memClean s = true) ∧ (AtCommand s c 0x04 st 3 = true) ∧ (csAddr s c (w64 (payload s st) 0) 32 64 = ST_OK) := by decide +kernel

/-- The hypotheses of StreamPasses can be met. -/
theorem witness_StreamPasses_begin :
    let s : State := onCluster (writeMem (sliceState (csState [cmd 5 3, 0x40, 0, cmd 1 1] { chunks := [2] })) 0x40 passWords); let t : Nat := 1000; let c : Nat := 3; let st : Stream := csStream [cmd 5 3, 0x40, 0, cmd 1 1];
    (wellFormed (.beginPass t c) = true) ∧ (s.pwr.phase = ResetPhase.run) ∧ (memClean s = true) ∧ (AtCommand s c 0x05 st 3 = true) ∧ (hostSpace st.addr = true) ∧ ((getCtx s c).pass = none) ∧ (passStatus s c (w64 (payload s st) 0) = ST_OK) := by decide +kernel

/-- The hypotheses of StreamPasses can be met. -/
theorem witness_StreamPasses_end :
    let s : State := onCluster (csState [cmd 9 1, cmd 1 1] drawCtx); let t : Nat := 1000; let c : Nat := 3; let st : Stream := csStream [cmd 9 1, cmd 1 1]; let p : Pass := binPass;
    (wellFormed (.endPass t c) = true) ∧ (s.pwr.phase = ResetPhase.run) ∧ (memClean s = true) ∧ (AtCommand s c 0x09 st 1 = true) ∧ ((getCtx s c).pass = some p) ∧ (p.phase = PassPhase.binning) := by decide +kernel

/-- The hypotheses of StreamPasses can be met. -/
theorem witness_StreamPasses_barrier :
    let s : State := onCluster (csState [cmd 12 2, 8, cmd 1 1] {}); let t : Nat := 1000; let c : Nat := 3; let st : Stream := csStream [cmd 12 2, 8, cmd 1 1];
    (wellFormed (.barrier t c) = true) ∧ (s.pwr.phase = ResetPhase.run) ∧ (memClean s = true) ∧ (AtCommand s c 0x0C st 2 = true) ∧ (inPass (getCtx s c) = false) ∧ (payload s st 0 ≤ 15) := by decide +kernel

/-- The hypotheses of StreamDraws can be met. -/
theorem witness_StreamDraws_draw :
    let s : State := onCluster (sliceState (csState [cmd 6 5, 3, 1, 0, 0, cmd 1 1] drawCtx)); let t : Nat := 1000; let c : Nat := 3; let st : Stream := csStream [cmd 6 5, 3, 1, 0, 0, cmd 1 1];
    (wellFormed (.draw t c) = true) ∧ (s.pwr.phase = ResetPhase.run) ∧ (memClean s = true) ∧ (AtCommand s c 0x06 st 5 = true) ∧ (hostSpace st.addr = true) ∧ (drawStatus s c = ST_OK) := by decide +kernel

/-- The hypotheses of StreamDraws can be met. -/
theorem witness_StreamDraws_indexed :
    let s : State := onCluster (sliceState (csState [cmd 7 8, 0x100, 0, 2, 3, 1, 0, 0, cmd 1 1] drawCtx)); let t : Nat := 1000; let c : Nat := 3; let st : Stream := csStream [cmd 7 8, 0x100, 0, 2, 3, 1, 0, 0, cmd 1 1];
    (wellFormed (.drawIndexed t c) = true) ∧ (s.pwr.phase = ResetPhase.run) ∧ (memClean s = true) ∧ (AtCommand s c 0x07 st 8 = true) ∧ (hostSpace st.addr = true) ∧ (drawStatus s c = ST_OK) ∧ (indexStatus s c (w64 (payload s st) 0) (payload s st 2) (payload s st 3) = ST_OK) := by decide +kernel

/-- The hypotheses of StreamDraws can be met. -/
theorem witness_StreamDraws_indirect :
    let s : State := onCluster (sliceState (csState [cmd 8 4, 0x100, 0, 0, cmd 1 1] drawCtx)); let t : Nat := 1000; let c : Nat := 3; let st : Stream := csStream [cmd 8 4, 0x100, 0, 0, cmd 1 1];
    (wellFormed (.drawIndirect t c) = true) ∧ (s.pwr.phase = ResetPhase.run) ∧ (memClean s = true) ∧ (AtCommand s c 0x08 st 4 = true) ∧ (hostSpace st.addr = true) ∧ (drawStatus s c = ST_OK) ∧ (payload s st 2 = 0) ∧ (csAddr s c (w64 (payload s st) 0) 16 4 = ST_OK) := by decide +kernel

/-- The hypotheses of StreamDraws can be met. -/
theorem witness_StreamDraws_indexedIndirect :
    let s : State := onCluster (writeMem (sliceState (csState [cmd 8 4, 0x100, 0, 1, cmd 1 1] drawCtx)) 0x108 [2]); let t : Nat := 1000; let c : Nat := 3; let st : Stream := csStream [cmd 8 4, 0x100, 0, 1, cmd 1 1];
    (wellFormed (.drawIndirect t c) = true) ∧ (s.pwr.phase = ResetPhase.run) ∧ (memClean s = true) ∧ (AtCommand s c 0x08 st 4 = true) ∧ (hostSpace st.addr = true) ∧ (drawStatus s c = ST_OK) ∧ (payload s st 2 = 1) ∧ (csAddr s c (w64 (payload s st) 0) 28 4 = ST_OK) ∧ (indexStatus s c (w64 (fun i => readNum s ((w64 (payload s st) 0) + 4 * i) 4) 0) (readNum s ((w64 (payload s st) 0) + 8) 4) (readNum s ((w64 (payload s st) 0) + 12) 4) = ST_OK) := by decide +kernel

/-- The hypotheses of StreamDraws can be met. -/
theorem witness_StreamDraws_dispatch :
    let s : State := onCluster (sliceState (csState [cmd 10 4, 2, 3, 4, cmd 1 1] { pipeline := some 0, compute := true })); let t : Nat := 1000; let c : Nat := 3; let st : Stream := csStream [cmd 10 4, 2, 3, 4, cmd 1 1];
    (wellFormed (.dispatch t c) = true) ∧ (s.pwr.phase = ResetPhase.run) ∧ (memClean s = true) ∧ (AtCommand s c 0x0A st 4 = true) ∧ ((dispatchGroups c (payload s st 0) (payload s st 1) (payload s st 2) s).1 = ST_OK) := by decide +kernel

/-- The hypotheses of StreamDraws can be met. -/
theorem witness_StreamDraws_dispatchIndirect :
    let s : State := onCluster (writeMem (sliceState (csState [cmd 11 3, 0x100, 0, cmd 1 1] { pipeline := some 0, compute := true })) 0x100 [2,0,0,0,3,0,0,0,1]); let t : Nat := 1000; let c : Nat := 3; let st : Stream := csStream [cmd 11 3, 0x100, 0, cmd 1 1];
    (wellFormed (.dispatchIndirect t c) = true) ∧ (s.pwr.phase = ResetPhase.run) ∧ (memClean s = true) ∧ (AtCommand s c 0x0B st 3 = true) ∧ (csAddr s c (w64 (payload s st) 0) 12 1 = ST_OK) ∧ ((dispatchGroups c (readNum s (w64 (payload s st) 0) 4) (readNum s ((w64 (payload s st) 0) + 4) 4) (readNum s ((w64 (payload s st) 0) + 8) 4) s).1 = ST_OK) := by decide +kernel

/-- The hypotheses of RenderSubmissions can be met. -/
theorem witness_RenderSubmissions_submit :
    let s : State := (fetchedState (wrF (sliceState runBase) (SHD_CTX_SAVE.SIZE 3) 1) 0 (desc OP_CS_SUBMIT 4 (at16 24 3 + at64 32 (2 ^ 63)))); let t : Nat := 1000; let k : Taken := takenDesc OP_CS_SUBMIT 1000 (fetchedState (wrF (sliceState runBase) (SHD_CTX_SAVE.SIZE 3) 1) 0 (desc OP_CS_SUBMIT 4 (at16 24 3 + at64 32 (2 ^ 63)))); let words : List Word := [cmd 1 1];
    (wellFormed (.csSubmit t words) = true) ∧ (s.pwr.phase = ResetPhase.run) ∧ (Dispatches t s (fun o => decide (o = OP_CS_SUBMIT)) checkCsSubmit k = true) := by decide +kernel

/-- The hypotheses of RenderSubmissions can be met. -/
theorem witness_RenderSubmissions_submitFails :
    let s : State := (fetchedState (sliceState runBase) 0 (desc OP_CS_SUBMIT 4 (at16 24 3 + at64 32 (2 ^ 63)))); let t : Nat := 1000; let s1 : State := ((takeNext (fun o => decide (o = OP_CS_SUBMIT)) (begin 1000 (fetchedState (sliceState runBase) 0 (desc OP_CS_SUBMIT 4 (at16 24 3 + at64 32 (2 ^ 63)))))).map (fun x => x.1)).getD (fetchedState (sliceState runBase) 0 (desc OP_CS_SUBMIT 4 (at16 24 3 + at64 32 (2 ^ 63)))); let k : Taken := takenDesc OP_CS_SUBMIT 1000 (fetchedState (sliceState runBase) 0 (desc OP_CS_SUBMIT 4 (at16 24 3 + at64 32 (2 ^ 63)))); let words : List Word := [cmd 1 1];
    (wellFormed (.csSubmit t words) = true) ∧ (s.pwr.phase = ResetPhase.run) ∧ (takeNext (fun o => decide (o = OP_CS_SUBMIT)) (begin t s) = some (s1, k)) ∧ (checkCsSubmit s1 k ≠ ST_OK) ∧ (holds s1 k.fn K_CTX (u16 k.d 24) = true) ∧ (u16 k.d 24 < 512) := by decide +kernel

/-- The hypotheses of RenderSubmissions can be met. -/
theorem witness_RenderSubmissions_grow :
    let s : State := (fetchedState (setLease (sliceState runBase) 3 5 { state := .held, holder := 0 }) 0 (desc OP_GROW 0 (at16 24 3 + at8 26 1 + at16 32 5))); let t : Nat := 1000; let k : Taken := takenDesc OP_GROW 1000 (fetchedState (setLease (sliceState runBase) 3 5 { state := .held, holder := 0 }) 0 (desc OP_GROW 0 (at16 24 3 + at8 26 1 + at16 32 5)));
    (wellFormed (.grow t) = true) ∧ (s.pwr.phase = ResetPhase.run) ∧ (Dispatches t s (fun o => decide (o = OP_GROW)) checkGrow k = true) := by decide +kernel

/-- The hypotheses of RenderProgress can be met. -/
theorem witness_RenderProgress_workgroup :
    let s : State := onCluster (sliceState (csState [cmd 1 1] { groups := 2, runs := [{ draw := {}, x := 2, y := 1, z := 1 }] })); let t : Nat := 1000; let c : Nat := 3; let d : Nat := 0; let g : Nat := 1; let r : DispatchRun := { draw := {}, x := 2, y := 1, z := 1 };
    (wellFormed (.workgroupComplete t c d g) = true) ∧ (s.pwr.phase = ResetPhase.run) ∧ (memClean s = true) ∧ (worksOn s c = true) ∧ ((getCtx s c).runs[d]? = some r) ∧ (g < r.x * r.y * r.z) ∧ (Sparse.get false r.finished g = false) := by decide +kernel

/-- The hypotheses of RenderProgress can be met. -/
theorem witness_RenderProgress_tile :
    let s : State := onCluster (sliceState (csState [cmd 1 1] { pass := some tilePass })); let t : Nat := 1000; let c : Nat := 3; let tile : Nat := 0; let p : Pass := tilePass;
    (wellFormed (.tileStore t c tile) = true) ∧ (s.pwr.phase = ResetPhase.run) ∧ (memClean s = true) ∧ (runsOn s c = true) ∧ ((getCtx s c).pass = some p) ∧ (p.phase = PassPhase.tile) ∧ (tile < tileCount p) ∧ ((Sparse.get ({} : TileBin) p.bins tile).stored = false) := by decide +kernel

/-- The hypotheses of RenderProgress can be met. -/
theorem witness_RenderProgress_split :
    let s : State := csState [cmd 1 1] { drawCtx with pass := some stalledPass }; let t : Nat := 1000; let c : Nat := 3; let p : Pass := stalledPass;
    (wellFormed (.splitStart t c) = true) ∧ (s.pwr.phase = ResetPhase.run) ∧ ((getCtx s c).pass = some p) ∧ ((getCtx s c).stream.any (fun (x : Stream) => x.ingest) = false) ∧ (p.phase = PassPhase.stalled) ∧ (p.splitAt ≤ now (begin t s)) ∧ (growWaiting s c p.splitAt = false) ∧ (p.listPods ≠ [] ∨ p.vertexPods ≠ []) := by decide +kernel

/-- The hypotheses of RenderProgress can be met. -/
theorem witness_RenderProgress_splitEnd :
    let s : State := onCluster (csState [cmd 1 1] { drawCtx with pass := some { stalledPass with phase := .splitting } }); let t : Nat := 1000; let c : Nat := 3; let p : Pass := { stalledPass with phase := .splitting };
    (wellFormed (.splitComplete t c) = true) ∧ (s.pwr.phase = ResetPhase.run) ∧ (memClean s = true) ∧ (runsOn s c = true) ∧ ((getCtx s c).pass = some p) ∧ (p.phase = PassPhase.splitting) ∧ ((splitTiles p).length + p.slotsUsed ≤ p.slots) := by decide +kernel

/-- The hypotheses of ClusterFaults can be met. -/
theorem witness_ClusterFaults_corrected :
    let s : State := runBase; let t : Nat := 1000; let k : Nat := 3; let ok : Bool := true;
    (wellFormed (.clusterFault t k 0 ok) = true) ∧ (s.pwr.phase = ResetPhase.run) ∧ (k < 24) := by decide +kernel

/-- The hypotheses of ClusterFaults can be met. -/
theorem witness_ClusterFaults_reset :
    let s : State := setCluster runBase 3 { ctx := some 5 }; let t : Nat := 1000; let k : Nat := 3; let row : Nat := 1; let ok : Bool := true;
    (wellFormed (.clusterFault t k row ok) = true) ∧ (s.pwr.phase = ResetPhase.run) ∧ (k < 24) ∧ (row ≠ 0) := by decide +kernel

/-- The hypotheses of ClusterFaults can be met. -/
theorem witness_ClusterFaults_end :
    let s : State := setCluster runBase 3 { resetAt := some 7 }; let t : Nat := 1000; let k : Nat := 3; let r : Nat := 7;
    (wellFormed (.clusterResetComplete t k) = true) ∧ (s.pwr.phase = ResetPhase.run) ∧ ((getCluster s k).resetAt = some r) ∧ ((getCluster s k).ctx = none) ∧ ((getCluster s k).grant = none) := by decide +kernel

/-- The hypotheses of ClusterFaults can be met. -/
theorem witness_ClusterFaults_timeout :
    let s : State := setCluster runBase 3 { resetAt := some 7 }; let t : Nat := 20007; let k : Nat := 3; let r : Nat := 7;
    (wellFormed (.clusterResetTimeout t k) = true) ∧ (s.pwr.phase = ResetPhase.run) ∧ ((getCluster s k).resetAt = some r) ∧ (r + 20000 ≤ now (begin t s)) ∧ (isRetired s U_CLUSTER k = false) ∧ (retireIsDue s U_CLUSTER k = false) := by decide +kernel

/-- The hypotheses of ClusterFaults can be met. -/
theorem witness_ClusterFaults_preempt :
    let s : State := setCluster runBase 3 { ctx := some 5, preempt := some 7 }; let t : Nat := 100007; let c : Nat := 5; let k : Nat := 3; let r : Nat := 7;
    (wellFormed (.contextPreemptTimeout t c) = true) ∧ (s.pwr.phase = ResetPhase.run) ∧ (k < 24) ∧ ((getCluster s k).ctx = some c) ∧ ((getCluster s k).preempt = some r) ∧ (r + 100000 ≤ now (begin t s)) := by decide +kernel

/-- The hypotheses of ShaderIngest can be met. -/
theorem witness_ShaderIngest_start :
    let s : State := { runBase with rnd := { runBase.rnd with ingests := [{ inst := 0, ctx := 3, addr := 0x40, buildSeq := 0, startedAt := none }] } }; let t : Nat := 1000;
    (wellFormed (.ingestStart t) = true) ∧ (s.pwr.phase = ResetPhase.run) ∧ (s.rnd.ingests.all (fun (i : Ingest) => i.startedAt.isNone && decide (i.inst ≤ 256)) = true) ∧ (s.rnd.ingests ≠ []) := by decide +kernel

/-- The hypotheses of ShaderIngest can be met. -/
theorem witness_ShaderIngest_end :
    let s : State := ingestState; let t : Nat := 1000; let i : Ingest := { inst := 0, ctx := 3, addr := 0x40, buildSeq := 0, startedAt := some 9 }; let st : Stream := { csStream [cmd 3 3, 0x40, 0, cmd 1 1] with ingest := true };
    (wellFormed (.ingestComplete t) = true) ∧ (s.pwr.phase = ResetPhase.run) ∧ (memClean s = true) ∧ (s.rnd.ingests.find? (fun (i : Ingest) => i.startedAt.isSome) = some i) ∧ (i.ctx < 512) ∧ (i.inst ≤ 256) ∧ (inSlice s i.inst i.addr 256 = true) ∧ ((getCtx s i.ctx).stream = some st) ∧ (st.fail = none) ∧ ((getCtx s i.ctx).queue.all (fun (x : Stream) => decide (x.id ≠ st.id)) = true) := by decide +kernel

/-- The hypotheses of ShaderIngest can be met. -/
theorem witness_ShaderIngest_refused :
    let s : State := writeMem ingestState 0x42 [9]; let t : Nat := 1000; let i : Ingest := { inst := 0, ctx := 3, addr := 0x40, buildSeq := 0, startedAt := some 9 }; let st : Stream := { csStream [cmd 3 3, 0x40, 0, cmd 1 1] with ingest := true }; let f : Nat × Nat × Nat := (3, 0xFF, 0xFFFFFFFF);
    (wellFormed (.ingestComplete t) = true) ∧ (s.pwr.phase = ResetPhase.run) ∧ (memClean s = true) ∧ (s.rnd.ingests.find? (fun (i : Ingest) => i.startedAt.isSome) = some i) ∧ (i.ctx < 512) ∧ (i.inst ≤ 256) ∧ (inSlice s i.inst i.addr 256 = true) ∧ ((getCtx s i.ctx).stream = some st) ∧ (st.fail = none) ∧ ((getCtx s i.ctx).queue.all (fun (x : Stream) => decide (x.id ≠ st.id)) = true) ∧ (ingestFinding s i.inst i.addr (pipelineRecord s i.addr) = f) ∧ (f.1 ≠ 0) := by decide +kernel

/-- The hypotheses of Preemption can be met. -/
theorem witness_Preemption_midwave :
    let s : State := setCluster runBase 3 { ctx := some 5, preempt := some 7 }; let t : Nat := 10007; let k : Nat := 3; let c : Nat := 5; let r : Nat := 7;
    (wellFormed (.preemptMidwaveTimeout t k) = true) ∧ (s.pwr.phase = ResetPhase.run) ∧ (c < 512) ∧ ((getCluster s k).ctx = some c) ∧ ((getCluster s k).preempt = some r) ∧ ((getCluster s k).midwave = false) ∧ (r + 10000 ≤ now (begin t s)) := by decide +kernel

/-- The hypotheses of Preemption can be met. -/
theorem witness_Preemption_boundary :
    let s : State := setCluster (csState [cmd 1 1] {}) 3 { ctx := some 3, preempt := some 7 }; let t : Nat := 1000; let k : Nat := 3; let c : Nat := 3; let r : Nat := 7;
    (wellFormed (.preemptStop t k) = true) ∧ (s.pwr.phase = ResetPhase.run) ∧ ((getCluster s k).ctx = some c) ∧ ((getCluster s k).preempt = some r) ∧ ((getCluster s k).midwave = false) := by decide +kernel

/-- The hypotheses of Preemption can be met. -/
theorem witness_Preemption_stop :
    let s : State := setCluster (wrF (csState [cmd 1 1] { saves := [0] }) (SHD_CTX_SAVE.SIZE 3) 1) 3 { ctx := some 3, preempt := some 7, midwave := true }; let t : Nat := 1000; let k : Nat := 3; let c : Nat := 3; let r : Nat := 7; let i : Nat := 1; let rest : List Nat := [2, 3];
    (wellFormed (.preemptStop t k) = true) ∧ (s.pwr.phase = ResetPhase.run) ∧ ((getCluster s k).ctx = some c) ∧ ((getCluster s k).preempt = some r) ∧ ((getCluster s k).midwave = true) ∧ ((getCtx s c).stream.isSome = true) ∧ (savePlaces s c = i :: rest) := by decide +kernel

/-- The hypotheses of Preemption can be met. -/
theorem witness_Preemption_resume :
    let s : State := setCluster (csState [cmd 1 1] { saves := [1, 2] }) 3 { ctx := some 3 }; let t : Nat := 1000; let k : Nat := 3; let c : Nat := 3;
    (wellFormed (.resumeComplete t k) = true) ∧ (s.pwr.phase = ResetPhase.run) ∧ ((getCluster s k).ctx = some c) := by decide +kernel

/-- The hypotheses of Preemption can be met. -/
theorem witness_Preemption_np :
    let s : State := setCluster runBase 3 { ctx := some 5, npHold := true, jobAt := 7 }; let t : Nat := 50007; let k : Nat := 3; let c : Nat := 5;
    (wellFormed (.npHoldExpiry t k) = true) ∧ (s.pwr.phase = ResetPhase.run) ∧ (c < 512) ∧ ((getCluster s k).ctx = some c) ∧ ((getCluster s k).npHold = true) ∧ ((getCluster s k).jobAt + 50000 ≤ now (begin t s)) := by decide +kernel

/-- The hypotheses of DeadlineScheduler can be met. -/
theorem witness_DeadlineScheduler_tick :
    let s : State := setCluster runBase 3 { resv := some 5 }; let t : Nat := 1000; let k : Nat := 3;
    (wellFormed (.deadlineTick t) = true) ∧ (s.pwr.phase = ResetPhase.run) ∧ (k < 24) := by decide +kernel

/-- The hypotheses of DeadlineScheduler can be met. -/
theorem witness_DeadlineScheduler_late :
    let s : State := wrF (setPlan runBase 2 { open_ := true, s := 900000, ctx := 5, need := 2, enable := true }) (SHD_CTX_SAVE.SIZE 5) 1; let t : Nat := 800000; let h : Nat := 2;
    (wellFormed (.latestStartReached t h) = true) ∧ (s.pwr.phase = ResetPhase.run) ∧ ((getPlan s h).open_ = true) ∧ ((getPlan s h).late = false) ∧ (latestStart (getPlan s h) (getPlan s h).s ≤ now (begin t s)) ∧ (((reservedFor s (getPlan s h).ctx).filter (fun k => let x := getCluster s k; decide (x.ctx = none ∨ x.ctx = some (getPlan s h).ctx))).length < min (getPlan s h).need (maxClusters s (getPlan s h).ctx)) := by decide +kernel

/-- The hypotheses of DeadlineScheduler can be met. -/
theorem witness_DeadlineScheduler_deadline :
    let s : State := setPlan (csState [cmd 1 1] {}) 2 { open_ := true, s := 900, ctx := 3, need := 2, enable := true }; let t : Nat := 900; let h : Nat := 2;
    (wellFormed (.compositionDeadline t h) = true) ∧ (s.pwr.phase = ResetPhase.run) ∧ ((getPlan s h).open_ = true) ∧ ((getPlan s h).s ≤ now (begin t s)) := by decide +kernel

/-- The hypotheses of DeadlineScheduler can be met. -/
theorem witness_DeadlineScheduler_fill :
    let s : State := wrBit (wrF (csState [cmd 12 2, 1] { groups := 2, runs := [{ draw := {}, x := 2, y := 1, z := 1 }] }) (SHD_CTX_SAVE.SIZE 3) 1) .PWR_DOMAIN 10 true; let t : Nat := 1000; let k : Nat := 4; let c : Nat := 3;
    (wellFormed (.asyncFill t k) = true) ∧ (s.pwr.phase = ResetPhase.run) ∧ (clusterIdle s k = true) ∧ ((getCluster s k).resv = none) ∧ (usable s k = true) ∧ ((getCluster s k).preempt = none) ∧ (fillChoice s k = some c) ∧ (binHeld (getCtx s c) = false) := by decide +kernel

/-- The hypotheses of Flips can be met. -/
theorem witness_Flips_flip :
    let s : State := (fetchedState (setLease runBase 1 5 { state := .held, holder := 0 }) 1 (desc OP_FLIP 0 (at8 24 5 + at32 28 9 + at64 48 77))); let t : Nat := 1000; let k : Taken := takenDesc OP_FLIP 1000 (fetchedState (setLease runBase 1 5 { state := .held, holder := 0 }) 1 (desc OP_FLIP 0 (at8 24 5 + at32 28 9 + at64 48 77)));
    (wellFormed (.flip t) = true) ∧ (s.pwr.phase = ResetPhase.run) ∧ (Dispatches t s (fun o => decide (o = OP_FLIP)) checkFlip k = true) := by decide +kernel

/-- The hypotheses of Flips can be met. -/
theorem witness_Flips_coef :
    let s : State := wrF runBase (LYR_COEF_ADDR.BANK 4) 1; let t : Nat := 1000; let p : Nat := 4; let v : Word := 0x00100020;
    (wellFormed (.coefDataWrite t p v) = true) ∧ (s.pwr.phase = ResetPhase.run) ∧ (rdF s BOOT_STATUS.STAGE = 6) ∧ (p < 48) ∧ (coefOk (v.toNat % 65536) = true) ∧ (coefOk (v.toNat / 65536) = true) ∧ (pipePending s p = false) ∧ (aF s (LYR_COEF_SEL.BANK p) ≠ rdF s (LYR_COEF_ADDR.BANK p)) ∧ (rdF s (LYR_COEF_ADDR.WORD p) < 768) := by decide +kernel

/-- The hypotheses of Flips can be met. -/
theorem witness_Flips_fault :
    let s : State := setActive runBase (View.put [] (.LYR_HEAD 5) 0x80000000); let t : Nat := 1000; let p : Nat := 5; let line : Nat := 4; let col : Nat := 7; let last : Nat := 4;
    (wellFormed (.pipeFault t p 1 line col last) = true) ∧ (s.pwr.phase = ResetPhase.run) ∧ (domainGood s 6 = true) ∧ (p < 96) ∧ ((View.pipeHead s.dsp.active p).isSome = true) := by decide +kernel

/-- The hypotheses of Flips can be met. -/
theorem witness_Flips_late :
    let s : State := setActive (wrF runBase (MEM_CH_STATUS.STATE 2) CH_FAILED) (View.put [] (.LYR_HEAD 5) 0x80000000); let t : Nat := 1000; let p : Nat := 5; let line : Nat := 4; let col : Nat := 7; let last : Nat := 4;
    (wellFormed (.pipeFault t p 0 line col last) = true) ∧ (s.pwr.phase = ResetPhase.run) ∧ (domainGood s 6 = true) ∧ (memHealthy s = false) ∧ (p < 96) ∧ ((View.pipeHead s.dsp.active p).isSome = true) := by decide +kernel

/-- The hypotheses of Flips can be met. -/
theorem witness_Flips_healthy :
    let s : State := (List.range 4).foldl (fun s c => wrF s (MEM_CH_STATUS.STATE c) CH_ACTIVE) runBase; let t : Nat := 1000; let p : Nat := 5; let line : Nat := 4; let col : Nat := 7; let last : Nat := 4;
    (wellFormed (.pipeFault t p 0 line col last) = true) ∧ (s.pwr.phase = ResetPhase.run) ∧ (p < 96) ∧ (memHealthy s = true) := by decide +kernel

/-- The hypotheses of Flips can be met. -/
theorem witness_Flips_parity :
    let s : State := setActive runBase (View.put [] (.LYR_HEAD 5) 0x80000000); let t : Nat := 1000; let p : Nat := 5; let line : Nat := 4; let col : Nat := 7; let last : Nat := 4;
    (wellFormed (.pipeFault t p 2 line col last) = true) ∧ (s.pwr.phase = ResetPhase.run) ∧ (domainGood s 6 = true) ∧ (parityMoot s p = false) ∧ ((View.pipeHead s.dsp.active p).isSome = true) := by decide +kernel

/-- The hypotheses of Captures can be met. -/
theorem witness_Captures_capture :
    let s : State := (fetchedState runBase 1 (desc OP_WB_CAPTURE 0x4000000 (at8 24 2 + at64 32 0x1000 + at32 40 16384))); let t : Nat := 1000; let k : Taken := takenDesc OP_WB_CAPTURE 1000 (fetchedState runBase 1 (desc OP_WB_CAPTURE 0x4000000 (at8 24 2 + at64 32 0x1000 + at32 40 16384)));
    (wellFormed (.wbCapture t) = true) ∧ (s.pwr.phase = ResetPhase.run) ∧ (Dispatches t s (fun o => decide (o = OP_WB_CAPTURE)) checkCapture k = true) := by decide +kernel

/-- The hypotheses of Captures can be met. -/
theorem witness_Captures_complete :
    let s : State := { runBase with dsp := { runBase.dsp with captures := [{ ({ fn := 0, q := 0, id := 3, gen := 0, head := 2, dest := 0x1000, pitch := 256, target := 0, stamp := 5 } : Capture) with unit := some 1, height := 1, frame := 9 }] } }; let t : Nat := 1000; let n : Nat := 1; let c : Capture := { ({ fn := 0, q := 0, id := 3, gen := 0, head := 2, dest := 0x1000, pitch := 256, target := 0, stamp := 5 } : Capture) with unit := some 1, height := 1, frame := 9 };
    (wellFormed (.wbCaptureComplete t n) = true) ∧ (s.pwr.phase = ResetPhase.run) ∧ (domainGood s 6 = true) ∧ (memClean s = true) ∧ (s.dsp.captures.find? (fun (c : Capture) => decide (c.unit = some n)) = some c) := by decide +kernel

/-- The hypotheses of Captures can be met. -/
theorem witness_Captures_timeout :
    let s : State := { runBase with dsp := { runBase.dsp with captures := [{ ({ fn := 0, q := 0, id := 3, gen := 0, head := 2, dest := 0x1000, pitch := 256, target := 0, stamp := 5 } : Capture) with unit := none, height := 1, frame := 9 }] } }; let t : Nat := 1000000005; let c : Capture := { ({ fn := 0, q := 0, id := 3, gen := 0, head := 2, dest := 0x1000, pitch := 256, target := 0, stamp := 5 } : Capture) with unit := none, height := 1, frame := 9 };
    (wellFormed (.wbCaptureTimeout t) = true) ∧ (s.pwr.phase = ResetPhase.run) ∧ (domainGood s 6 = true) ∧ (c ∈ s.dsp.captures) ∧ (c.unit = none) ∧ (c.stamp + 1000000000 ≤ now (begin t s)) := by decide +kernel

/-- The hypotheses of Captures can be met. -/
theorem witness_Captures_overflow :
    let s : State := { runBase with dsp := { runBase.dsp with captures := [{ ({ fn := 0, q := 0, id := 3, gen := 0, head := 2, dest := 0x1000, pitch := 256, target := 0, stamp := 5 } : Capture) with unit := some 1, height := 1, frame := 9 }] } }; let t : Nat := 1000; let n : Nat := 1; let c : Capture := { ({ fn := 0, q := 0, id := 3, gen := 0, head := 2, dest := 0x1000, pitch := 256, target := 0, stamp := 5 } : Capture) with unit := some 1, height := 1, frame := 9 };
    (wellFormed (.wbBufferOverflow t n) = true) ∧ (s.pwr.phase = ResetPhase.run) ∧ (domainGood s 6 = true) ∧ (s.dsp.captures.find? (fun (c : Capture) => decide (c.unit = some n)) = some c) := by decide +kernel

/-- The hypotheses of FramesAndCommitPoints can be met. -/
theorem witness_FramesAndCommitPoints_row :
    let s : State := setActive runBase (View.put (View.put [] (.HD_CTRL 2) 0x80000000) (.HD_HTIM 2) 0x00800040); let t : Nat := 1000; let h : Nat := 2; let b : State := rowBegins h 0 (fetchRow h 0 (begin t s));
    (wellFormed (.tileRowScan t h 0) = true) ∧ (s.pwr.phase = ResetPhase.run) ∧ (domainGood s 6 = true) ∧ (memClean s = true) ∧ (headOn s.dsp.active h = true) ∧ ((getHead s h).retiredLive = false) ∧ (b = rowBegins h 0 (fetchRow h 0 (begin t s))) ∧ (0 < (scene b h).h) := by decide +kernel

/-- The hypotheses of FramesAndCommitPoints can be met. -/
theorem witness_FramesAndCommitPoints_f7 :
    let s : State := wr runBase (.ART_R_SIZE 2 1) 0x00080008; let t : Nat := 1000; let h : Nat := 2; let r : Nat := 1;
    (wellFormed (.regionF7Check t h r) = true) ∧ (s.pwr.phase = ResetPhase.run) ∧ (domainGood s 6 = true) ∧ (rdF s (ART_R_SIZE.W h r) ≠ 0) := by decide +kernel

/-- The hypotheses of FramesAndCommitPoints can be met. -/
theorem witness_FramesAndCommitPoints_1 :
    let s : State := runBase; let t : Nat := 1000; let g : Nat := 1; let o : Nat := 1;
    (wellFormed (.commitPoint t g) = true) ∧ (s.pwr.phase = ResetPhase.run) ∧ (domainGood s 6 = true) ∧ (g < 3) ∧ (o < 3) ∧ ((getGroup s g).retune = none) := by decide +kernel

/-- The hypotheses of Commits can be met. -/
theorem witness_Commits_go :
    let s : State := runBase; let t : Nat := 1000; let h : Nat := 2;
    (wellFormed (.headCommitGo t h) = true) ∧ (s.pwr.phase = ResetPhase.run) ∧ (rdF s BOOT_STATUS.STAGE = 6) ∧ (headPending s h = false) ∧ (goStatus s [h] false = ST_OK) := by decide +kernel

/-- The hypotheses of Commits can be met. -/
theorem witness_Commits_cancel :
    let s : State := { runBase with dsp := { runBase.dsp with commits := [({ heads := [2], cgroup := none, stamp := 5 } : Commit)] } }; let t : Nat := 1000; let h : Nat := 2; let c : Commit := ({ heads := [2], cgroup := none, stamp := 5 } : Commit);
    (wellFormed (.headCommitCancel t h) = true) ∧ (s.pwr.phase = ResetPhase.run) ∧ (rdF s BOOT_STATUS.STAGE = 6) ∧ (s.dsp.commits.find? (fun (c : Commit) => c.heads.contains h) = some c) ∧ (c.heads.all (fun i => decide (i < 12)) = true) ∧ (c.cgroup.all (fun i => decide (i < 4)) = true) := by decide +kernel

/-- The hypotheses of Commits can be met. -/
theorem witness_Commits_groupGo :
    let s : State := runBase; let t : Nat := 1000; let k : Nat := 1; let mask : Nat := 12; let hs : List Nat := [2, 3];
    (wellFormed (.commitGroupGo t k mask) = true) ∧ (s.pwr.phase = ResetPhase.run) ∧ (rdF s BOOT_STATUS.STAGE = 6) ∧ (pendingGroup s k = none) ∧ (hs = allHeads.filter (bit mask)) ∧ (hs ≠ []) ∧ (hs.all (fun h => decide (groupOf h = groupOf (hs.headD 0))) = true) ∧ (hs.any (headPending s) = false) ∧ (goStatus s hs true = ST_OK) := by decide +kernel

/-- The hypotheses of Commits can be met. -/
theorem witness_Commits_groupCancel :
    let s : State := { runBase with dsp := { runBase.dsp with commits := [({ heads := [2, 3], cgroup := some 1, stamp := 5 } : Commit)] } }; let t : Nat := 1000; let k : Nat := 1; let c : Commit := ({ heads := [2, 3], cgroup := some 1, stamp := 5 } : Commit);
    (wellFormed (.commitGroupCancel t k) = true) ∧ (s.pwr.phase = ResetPhase.run) ∧ (rdF s BOOT_STATUS.STAGE = 6) ∧ (pendingGroup s k = some c) ∧ (c.cgroup = some k) ∧ (c.heads.all (fun i => decide (i < 12)) = true) := by decide +kernel

/-- The hypotheses of Genlock can be met. -/
theorem witness_Genlock_first :
    let s : State := setActive runBase (View.put [] (.HDG_GENLOCK 1) 0x80000000); let t : Nat := 1000; let g : Nat := 1;
    (wellFormed (.syncInReference t) = true) ∧ (s.pwr.phase = ResetPhase.run) ∧ (domainGood s 6 = true) ∧ (g < 3) ∧ (genlockOn s g = true) ∧ ((getGroup s g).lastRef = none) := by decide +kernel

/-- The hypotheses of Genlock can be met. -/
theorem witness_Genlock_valid :
    let s : State := (fun (x : State) => setGroup (wrF (setActive x (View.put (View.put (View.put [] (.HDG_GENLOCK 1) 0x80000000) (.HD_HTIM 4) 0x08000780) (.HD_VTIM 4) 0x04650438)) (HDG_STATUS.STATE 1) GL_LOCKED) 1 { lastRef := some 5, refGood := 3 }) runBase; let t : Nat := 5 + refPeriod s 1; let g : Nat := 1;
    (wellFormed (.syncInReference t) = true) ∧ (s.pwr.phase = ResetPhase.run) ∧ (domainGood s 6 = true) ∧ (g < 3) ∧ (genlockOn s g = true) ∧ (onTime (begin t s) g = some true) := by decide +kernel

/-- The hypotheses of Genlock can be met. -/
theorem witness_Genlock_bad :
    let s : State := (fun (x : State) => setGroup (wrF (setActive x (View.put (View.put (View.put [] (.HDG_GENLOCK 1) 0x80000000) (.HD_HTIM 4) 0x08000780) (.HD_VTIM 4) 0x04650438)) (HDG_STATUS.STATE 1) GL_LOCKED) 1 { lastRef := some 5, refGood := 3 }) runBase; let t : Nat := 500; let g : Nat := 1;
    (wellFormed (.syncInReference t) = true) ∧ (s.pwr.phase = ResetPhase.run) ∧ (domainGood s 6 = true) ∧ (g < 3) ∧ (genlockOn s g = true) ∧ (onTime (begin t s) g = some false) ∧ ((getGroup s g).refBad = 0) := by decide +kernel

/-- The hypotheses of Genlock can be met. -/
theorem witness_Genlock_lost :
    let s : State := (fun (x : State) => setGroup (wrF (setActive x (View.put (View.put (View.put [] (.HDG_GENLOCK 1) 0x80000000) (.HD_HTIM 4) 0x08000780) (.HD_VTIM 4) 0x04650438)) (HDG_STATUS.STATE 1) GL_LOCKED) 1 { lastRef := some 5, refBad := 1 }) runBase; let t : Nat := 500; let g : Nat := 1;
    (wellFormed (.syncInReference t) = true) ∧ (s.pwr.phase = ResetPhase.run) ∧ (domainGood s 6 = true) ∧ (g < 3) ∧ (genlockOn s g = true) ∧ (onTime (begin t s) g = some false) ∧ ((getGroup s g).refBad ≠ 0) ∧ (genlockState s g = GL_LOCKED) := by decide +kernel

/-- The hypotheses of Genlock can be met. -/
theorem witness_Genlock_missing :
    let s : State := (fun (x : State) => setGroup (wrF (setActive x (View.put (View.put (View.put [] (.HDG_GENLOCK 1) 0x80000000) (.HD_HTIM 4) 0x08000780) (.HD_VTIM 4) 0x04650438)) (HDG_STATUS.STATE 1) GL_LOCKED) 1 { lastRef := some 5, lastPoint := 5, refBad := 1 }) runBase; let t : Nat := 9000000000; let g : Nat := 1;
    (wellFormed (.syncInReferenceMissing t) = true) ∧ (s.pwr.phase = ResetPhase.run) ∧ (domainGood s 6 = true) ∧ (g < 3) ∧ (genlockOn s g = true) ∧ ((getGroup s g).lastRef.isSome = true) ∧ ((2 * ((getGroup s g).refMissing + 1) + 1) * refPeriod s g ≤ 2 * (now (begin t s) - (getGroup s g).lastPoint)) ∧ ((getGroup s g).refBad ≠ 0) ∧ (genlockState s g = GL_LOCKED) := by decide +kernel

/-- The hypotheses of Genlock can be met. -/
theorem witness_Genlock_pll :
    let s : State := setGroup runBase 1 { retune := some 5 }; let t : Nat := 1000; let g : Nat := 1;
    (wellFormed (.pixelPllLock t g) = true) ∧ (s.pwr.phase = ResetPhase.run) ∧ (domainGood s 6 = true) ∧ (g < 3) ∧ ((getGroup s g).retune.isSome = true) := by decide +kernel

/-- The hypotheses of Links can be met. -/
theorem witness_Links_plug :
    let s : State := runBase; let t : Nat := 1000; let h : Nat := 2;
    (wellFormed (.hpdDebounce t h) = true) ∧ (s.pwr.phase = ResetPhase.run) ∧ (domainGood s 6 = true) ∧ (portIdle s h = false) ∧ (flag s (HD_STATUS.HPD h) = false) := by decide +kernel

/-- The hypotheses of Links can be met. -/
theorem witness_Links_unplug :
    let s : State := wrF runBase (HD_STATUS.STATE 2) RUN; let t : Nat := 1000; let h : Nat := 2;
    (wellFormed (.hpdUnplug t h) = true) ∧ (s.pwr.phase = ResetPhase.run) ∧ (domainGood s 6 = true) ∧ (portIdle s h = false) := by decide +kernel

/-- The hypotheses of Links can be met. -/
theorem witness_Links_lost :
    let s : State := wrF runBase (HD_STATUS.STATE 2) RUN; let t : Nat := 1000; let h : Nat := 2;
    (wellFormed (.irqHpd t h true) = true) ∧ (s.pwr.phase = ResetPhase.run) ∧ (domainGood s 6 = true) ∧ (portIdle s h = false) ∧ (headState s h = RUN) := by decide +kernel

/-- The hypotheses of Links can be met. -/
theorem witness_Links_trained :
    let s : State := setHead (setActive (wrBit runBase .PWR_DOMAIN 7 true) (View.put [] (.HD_LINK 2) 0xFFFFFFFF)) 2 { training := true }; let t : Nat := 1000; let h : Nat := 2; let k : SinkReport := { caps := [.defer, .ack], dscCaps := [], maxRate := 3, maxLanes := 2, tps3 := true, dsc := false, tries := [{ clock := [{ done := true }], equal := [{ swing := 1 }, { done := true }] }], crc := false }; let cfg : Nat × Nat := (3, 2);
    (wellFormed (.linkTrainResult t h k) = true) ∧ (s.pwr.phase = ResetPhase.run) ∧ (domainGood s 6 = true) ∧ (domainGood s (7 + groupOf h) = true) ∧ ((getHead s h).training = true) ∧ ((trainRun s.dsp.active h (getHead s h) k).trained = some cfg) ∧ (cfg.1 < 4) ∧ (cfg.2 < 4) := by decide +kernel

/-- The hypotheses of Links can be met. -/
theorem witness_Links_failed :
    let s : State := setHead (wrBit runBase .PWR_DOMAIN 7 true) 2 { training := true }; let t : Nat := 1000; let h : Nat := 2; let k : SinkReport := { caps := [.timeout], dscCaps := [], maxRate := 2, maxLanes := 2, tps3 := true, dsc := false, tries := [], crc := false };
    (wellFormed (.linkTrainResult t h k) = true) ∧ (s.pwr.phase = ResetPhase.run) ∧ (domainGood s 6 = true) ∧ (domainGood s (7 + groupOf h) = true) ∧ ((getHead s h).training = true) ∧ ((trainRun s.dsp.active h (getHead s h) k).trained = none) := by decide +kernel

/-- The hypotheses of Links can be met. -/
theorem witness_Links_retry :
    let s : State := wrB (wrF runBase (HD_STATUS.STATE 2) LINK_FAIL) (HD_STATUS.HPD 2) true; let t : Nat := 2000000000; let h : Nat := 2;
    (wellFormed (.linkTrainRetry t h) = true) ∧ (s.pwr.phase = ResetPhase.run) ∧ (domainGood s 6 = true) ∧ (portIdle s h = false) ∧ (flag s (HD_STATUS.HPD h) = true) ∧ ((getHead s h).training = false) ∧ ((getHead s h).trained = false) ∧ (headState s h = LINK_FAIL) ∧ ((getHead s h).failAt + 1000000000 ≤ now (begin t s)) ∧ ((getGroup s (groupOf h)).retune = none) := by decide +kernel

/-- The hypotheses of ValueRecords can be met. -/
theorem witness_ValueRecords_store :
    let s : State := (fetchedState (setLease runBase 4 0 { state := .held, holder := 0 }) 2 (desc OP_VALUE_POST 0 (at16 24 3 + at64 32 9 + at64 40 77))); let t : Nat := 1000; let k : Taken := takenDesc OP_VALUE_POST 1000 (fetchedState (setLease runBase 4 0 { state := .held, holder := 0 }) 2 (desc OP_VALUE_POST 0 (at16 24 3 + at64 32 9 + at64 40 77)));
    (wellFormed (.valuePost t) = true) ∧ (s.pwr.phase = ResetPhase.run) ∧ (Dispatches t s (fun o => decide (o = OP_VALUE_POST)) checkValuePost k = true) ∧ (memClean s = true) ∧ (olderThanHeld (getField s (u16 k.d 24)) (min (u64 k.d 40) (now (begin t s))) = false) := by decide +kernel

/-- The hypotheses of ValueRecords can be met. -/
theorem witness_ValueRecords_old :
    let s : State := (fetchedState (setField (setLease runBase 4 0 { state := .held, holder := 0 }) 3 { record := some ({ value := 9, meas := 50, quality := 0, stamp := 60 } : VRecord) }) 2 (desc OP_VALUE_POST 0 (at16 24 3 + at64 32 9 + at64 40 7))); let t : Nat := 1000; let k : Taken := takenDesc OP_VALUE_POST 1000 (fetchedState (setField (setLease runBase 4 0 { state := .held, holder := 0 }) 3 { record := some ({ value := 9, meas := 50, quality := 0, stamp := 60 } : VRecord) }) 2 (desc OP_VALUE_POST 0 (at16 24 3 + at64 32 9 + at64 40 7)));
    (wellFormed (.valuePost t) = true) ∧ (s.pwr.phase = ResetPhase.run) ∧ (Dispatches t s (fun o => decide (o = OP_VALUE_POST)) checkValuePost k = true) ∧ (memClean s = true) ∧ (olderThanHeld (getField s (u16 k.d 24)) (min (u64 k.d 40) (now (begin t s))) = true) := by decide +kernel

/-- The hypotheses of ValueRecords can be met. -/
theorem witness_ValueRecords_latch :
    let s : State := setField runBase 3 { active := 1, record := some ({ value := 9, meas := 50, quality := 0, stamp := 60 } : VRecord) }; let t : Nat := 1000; let f : Nat := 3;
    (wellFormed (.fieldLatch t f false) = true) ∧ (s.pwr.phase = ResetPhase.run) ∧ (domainGood s 6 = true) ∧ (memClean s = true) ∧ (fdEnable (getField s f).active = true) ∧ ((getField s f).lost = false) := by decide +kernel

/-- The hypotheses of ValueRecords can be met. -/
theorem witness_ValueRecords_ecc :
    let s : State := setField (wr runBase .MEM_ECC_EN 0x80000000) 3 { active := 1, record := some ({ value := 9, meas := 50, quality := 0, stamp := 60 } : VRecord) }; let t : Nat := 1000; let f : Nat := 3;
    (wellFormed (.fieldLatch t f true) = true) ∧ (s.pwr.phase = ResetPhase.run) ∧ (domainGood s 6 = true) ∧ (memClean s = true) ∧ (fdEnable (getField s f).active = true) ∧ (eccOn s 31 = true) ∧ ((pageEntry s (((VALUE_STORE + 32 * f) / 64) / 64)).state = PageState.normal) ∧ (blockIn s.mem.plateStore ((VALUE_STORE + 32 * f) / 64) = false) ∧ (blockIn (fontRange s) ((VALUE_STORE + 32 * f) / 64) = false) ∧ (blockIn (journalRange s) ((VALUE_STORE + 32 * f) / 64) = false) := by decide +kernel

/-- The hypotheses of FieldsAndFonts can be met. -/
theorem witness_FieldsAndFonts_write :
    let s : State := wrB (wr runBase (.VAL_FDESC_D 2) 1) VAL_FONT_LOAD.LOADED true; let t : Nat := 1000; let f : Nat := 3;
    (wellFormed (.fdescWrite t f) = true) ∧ (s.pwr.phase = ResetPhase.run) ∧ (rdF s BOOT_STATUS.STAGE = 6) ∧ (f < 65536) ∧ (fieldPending s (getField s f) (fdescWords s) = false) ∧ (fdescStatus s f (fdescWords s) = ST_OK) := by decide +kernel

/-- The hypotheses of FieldsAndFonts can be met. -/
theorem witness_FieldsAndFonts_read :
    let s : State := runBase; let t : Nat := 1000; let f : Nat := 3; let i : Nat := 7;
    (wellFormed (.fdescRead t f) = true) ∧ (s.pwr.phase = ResetPhase.run) ∧ (rdF s BOOT_STATUS.STAGE = 6) ∧ (f < 65536) ∧ (i < 8) := by decide +kernel

/-- The hypotheses of FieldsAndFonts can be met. -/
theorem witness_FieldsAndFonts_load :
    let s : State := wrF (wr runBase .MEM_ECC_EN 1) VAL_FONT_SRC.BASE 3; let t : Nat := 1000;
    (wellFormed (.fontLoad t) = true) ∧ (s.pwr.phase = ResetPhase.run) ∧ (rdF s BOOT_STATUS.STAGE = 6) ∧ (locked s = false) ∧ (rdF s VAL_FONT_LOAD.RESULT ≠ 0xFF) ∧ (fontPlaceOk s (rdF s VAL_FONT_SRC.BASE) = true) ∧ (s.val.rewriting = false) := by decide +kernel

/-- The hypotheses of FieldsAndFonts can be met. -/
theorem witness_FieldsAndFonts_copy :
    let s : State := (fun (x : State) => { x with mem := { x.mem with fontRegion := some 3 }, val := { x.val with load := some { sizes := [], copied := none, passed := [] } } }) runBase; let t : Nat := 1000; let l : FontLoad := { sizes := [], copied := none, passed := [] };
    (wellFormed (.fontCopyComplete t) = true) ∧ (s.pwr.phase = ResetPhase.run) ∧ (domainGood s 6 = true) ∧ (memClean s = true) ∧ (s.val.load = some l) ∧ (l.copied = none) ∧ ((regionBytes s.mem (s.mem.fontRegion.getD 0 * CHUNK) 256).any badStateByte = false) := by decide +kernel

/-- The hypotheses of FieldsAndFonts can be met. -/
theorem witness_FieldsAndFonts_rewrite :
    let s : State := (fun (x : State) => { x with mem := { x.mem with fontRegion := some 3 }, val := { x.val with rewriting := true } }) runBase; let t : Nat := 1000; let b : Nat := 3;
    (wellFormed (.fontRegionRewriteComplete t) = true) ∧ (s.pwr.phase = ResetPhase.run) ∧ (domainGood s 6 = true) ∧ (memClean s = true) ∧ (s.val.rewriting = true) ∧ (s.mem.fontRegion = some b) := by decide +kernel

/-- The hypotheses of ArtichokeCommands can be met. -/
theorem witness_ArtichokeCommands_poll :
    let s : State := safetyState 2; let t : Nat := 1000;
    (wellFormed (.safetyPagePoll t) = true) ∧ (s.pwr.phase = ResetPhase.run) ∧ (pageLive s = true) ∧ (pageNum s 8 8 < pageNum s 0 8) ∧ (pageNum s 0 8 ≤ pageNum s 8 8 + 48) ∧ (pageNum s (slotOff (pageNum s 8 8 + 1)) 1 = 1 ∨ pageNum s (slotOff (pageNum s 8 8 + 1)) 1 = 2) := by decide +kernel

/-- The hypotheses of ArtichokeCommands can be met. -/
theorem witness_ArtichokeCommands_overrun :
    let s : State := writePage 0 [90] (safetyState 2); let t : Nat := 1000;
    (wellFormed (.safetyPagePoll t) = true) ∧ (s.pwr.phase = ResetPhase.run) ∧ (pageLive s = true) ∧ (pageNum s 8 8 + 48 < pageNum s 0 8) := by decide +kernel

/-- The hypotheses of ArtichokeCommands can be met. -/
theorem witness_ArtichokeCommands_select :
    let s : State := safetyTodo 1; let t : Nat := 1000; let k : Nat := 1; let rest : List Nat := [];
    (wellFormed (.select t) = true) ∧ (s.pwr.phase = ResetPhase.run) ∧ (pageLive s = true) ∧ (s.art.todo = k :: rest) ∧ (pageNum s (slotOff k) 1 = 1) ∧ (slotStatus s (BitVec.ofNat 512 (pageNum s (slotOff k) 64) : Desc) = ST_OK) := by decide +kernel

/-- The hypotheses of ArtichokeCommands can be met. -/
theorem witness_ArtichokeCommands_refresh :
    let s : State := safetyTodo 2; let t : Nat := 1000; let k : Nat := 1; let rest : List Nat := [];
    (wellFormed (.refresh t) = true) ∧ (s.pwr.phase = ResetPhase.run) ∧ (pageLive s = true) ∧ (s.art.todo = k :: rest) ∧ (pageNum s (slotOff k) 1 = 2) ∧ (slotStatus s (BitVec.ofNat 512 (pageNum s (slotOff k) 64) : Desc) = ST_OK) := by decide +kernel

/-- The hypotheses of ArtichokeCommands can be met. -/
theorem witness_ArtichokeCommands_bad :
    let s : State := { runBase with art := { runBase.art with plates := [{ addr := 0, w := 1, h := 1, crc := 0 }] } }; let t : Nat := 1000; let p : Nat := 0; let q : Plate := { addr := 0, w := 1, h := 1, crc := 0 };
    (wellFormed (.plateCrcCheck t) = true) ∧ (s.pwr.phase = ResetPhase.run) ∧ (domainGood s 6 = true) ∧ (memClean s = true) ∧ (s.art.plates[p]? = some q) ∧ (q.bad = true ∨ plateCrc s q ≠ q.crc) := by decide +kernel

/-- The hypotheses of ArtichokeCommands can be met. -/
theorem witness_ArtichokeCommands_rewrite :
    let s : State := { runBase with art := { runBase.art with plates := [{ addr := 0, w := 0, h := 0, crc := crc32c [], bad := true }] } }; let t : Nat := 1000; let p : Nat := 0; let q : Plate := { addr := 0, w := 0, h := 0, crc := crc32c [], bad := true };
    (wellFormed (.plateRewriteComplete t p true) = true) ∧ (s.pwr.phase = ResetPhase.run) ∧ (domainGood s 6 = true) ∧ (memClean s = true) ∧ (s.art.plates[p]? = some q) ∧ (q.bad = true) ∧ (plateCrc (writeMem s q.addr ((match (activeBlob s).shallot.plates[p]? with | some b => b.words | none => []).flatMap (toBytes 4))) q = q.crc) := by decide +kernel

/-- The hypotheses of ArtichokeCommands can be met. -/
theorem witness_ArtichokeCommands_sig :
    let s : State := setRegion (wr runBase (.ART_R_SIZE 2 1) 0x00080008) 2 1 { due := some (9, 5), ended := some 5 }; let t : Nat := 1000; let h : Nat := 2; let r : Nat := 1; let upset : Nat := 0; let n : Nat := 9; let e : Nat := 5; let g : Nat := 5;
    (wellFormed (.regionSignatureCompare t h r upset) = true) ∧ (s.pwr.phase = ResetPhase.run) ∧ (domainGood s 6 = true) ∧ ((getRegion s h r).due = some (n, e)) ∧ ((getRegion s h r).ended.getD (regionSig (begin t s) h r) = g) := by decide +kernel

/-- The hypotheses of ArtichokeCommands can be met. -/
theorem witness_ArtichokeCommands_mismatch :
    let s : State := setRegion (wr runBase (.ART_R_SIZE 2 1) 0x00080008) 2 1 { due := some (9, 5), ended := some 5 }; let t : Nat := 1000; let h : Nat := 2; let r : Nat := 1; let upset : Nat := 3; let n : Nat := 9; let e : Nat := 5; let g : Nat := 5;
    (wellFormed (.regionSignatureCompare t h r upset) = true) ∧ (s.pwr.phase = ResetPhase.run) ∧ (domainGood s 6 = true) ∧ ((getRegion s h r).due = some (n, e)) ∧ ((getRegion s h r).ended.getD (regionSig (begin t s) h r) = g) ∧ ((g ^^^ upset) % 2 ^ 32 ≠ e) ∧ ((getRegion s h r).sigGuard = false) ∧ ((getRegion s h r).sigDue = none) := by decide +kernel

/-- The hypotheses of ArtichokeCommands can be met. -/
theorem witness_ArtichokeCommands_match :
    let s : State := setRegion (wr runBase (.ART_R_SIZE 2 1) 0x00080008) 2 1 { due := some (9, 5), ended := some 5, sigGuard := true, content := .guard, matched := 7 }; let t : Nat := 1000; let h : Nat := 2; let r : Nat := 1; let upset : Nat := 0; let n : Nat := 9; let e : Nat := 5; let g : Nat := 5;
    (wellFormed (.regionSignatureCompare t h r upset) = true) ∧ (s.pwr.phase = ResetPhase.run) ∧ (domainGood s 6 = true) ∧ ((getRegion s h r).due = some (n, e)) ∧ ((getRegion s h r).ended.getD (regionSig (begin t s) h r) = g) ∧ ((g ^^^ upset) % 2 ^ 32 = e) ∧ ((getRegion s h r).sigGuard = true) ∧ ((getRegion s h r).content = Content.guard) := by decide +kernel

/-- The hypotheses of SinkReads can be met. -/
theorem witness_SinkReads_first :
    let s : State := setHead (setSink runBase 2 { reading := true }) 2 {}; let t : Nat := 1000; let h : Nat := 2; let cr : Nat := 5; let cg : Nat := 6; let cb : Nat := 7; let count : Nat := 1; let replies : List AuxReply := [.ack];
    (wellFormed (.sinkCrcReadResult t h replies cr cg cb count) = true) ∧ (s.pwr.phase = ResetPhase.run) ∧ (domainGood s 6 = true) ∧ ((getSink s h).reading = true) ∧ (auxDone replies = true) ∧ ((getSink s h).hasPrev = false) := by decide +kernel

/-- The hypotheses of SinkReads can be met. -/
theorem witness_SinkReads_match :
    let s : State := setHead (setSink runBase 2 { reading := true, hasPrev := true, readFrame := 9, streak := (2, 2) }) 2 { predictions := [(7, [5, 6, 7])] }; let t : Nat := 1000; let h : Nat := 2; let cr : Nat := 5; let cg : Nat := 6; let cb : Nat := 7; let count : Nat := 1; let replies : List AuxReply := [.ack];
    (wellFormed (.sinkCrcReadResult t h replies cr cg cb count) = true) ∧ (s.pwr.phase = ResetPhase.run) ∧ (domainGood s 6 = true) ∧ ((getSink s h).reading = true) ∧ (auxDone replies = true) ∧ ((getSink s h).hasPrev = true) ∧ (count ≠ rdF s (ART_HD_STATUS.LAST_COUNT h)) ∧ (crcsMatch s h [cr, cg, cb] = true) := by decide +kernel

/-- The hypotheses of SinkReads can be met. -/
theorem witness_SinkReads_mismatch :
    let s : State := setHead (setSink runBase 2 { reading := true, hasPrev := true, readFrame := 9, streak := (2, 1) }) 2 {}; let t : Nat := 1000; let h : Nat := 2; let cr : Nat := 5; let cg : Nat := 6; let cb : Nat := 7; let count : Nat := 1; let replies : List AuxReply := [.ack];
    (wellFormed (.sinkCrcReadResult t h replies cr cg cb count) = true) ∧ (s.pwr.phase = ResetPhase.run) ∧ (domainGood s 6 = true) ∧ ((getSink s h).reading = true) ∧ (auxDone replies = true) ∧ ((getSink s h).hasPrev = true) ∧ (count ≠ rdF s (ART_HD_STATUS.LAST_COUNT h)) ∧ (crcsMatch s h [cr, cg, cb] = false) ∧ ((getSink s h).streak ≠ (2, 2)) ∧ ((getSink s h).streak.2 ≤ 2) := by decide +kernel

/-- The hypotheses of SinkReads can be met. -/
theorem witness_SinkReads_third :
    let s : State := setHead (setSink (wrF runBase (HD_STATUS.STATE 2) RUN) 2 { reading := true, hasPrev := true, readFrame := 9, streak := (2, 2) }) 2 {}; let t : Nat := 1000; let h : Nat := 2; let cr : Nat := 5; let cg : Nat := 6; let cb : Nat := 7; let count : Nat := 1; let replies : List AuxReply := [.ack];
    (wellFormed (.sinkCrcReadResult t h replies cr cg cb count) = true) ∧ (s.pwr.phase = ResetPhase.run) ∧ (domainGood s 6 = true) ∧ ((getSink s h).reading = true) ∧ (auxDone replies = true) ∧ ((getSink s h).hasPrev = true) ∧ (count ≠ rdF s (ART_HD_STATUS.LAST_COUNT h)) ∧ (crcsMatch s h [cr, cg, cb] = false) ∧ ((getSink s h).streak = (2, 2)) ∧ (headState s h = RUN) ∧ (portIdle s h = false) := by decide +kernel

/-- The hypotheses of SinkReads can be met. -/
theorem witness_SinkReads_none :
    let s : State := setHead (setSink (wrF runBase (HD_STATUS.STATE 2) RUN) 2 { reading := true, streak := (3, 2) }) 2 {}; let t : Nat := 1000; let h : Nat := 2; let cr : Nat := 5; let cg : Nat := 6; let cb : Nat := 7; let count : Nat := 1; let replies : List AuxReply := [.timeout, .defer];
    (wellFormed (.sinkCrcReadResult t h replies cr cg cb count) = true) ∧ (s.pwr.phase = ResetPhase.run) ∧ (domainGood s 6 = true) ∧ ((getSink s h).reading = true) ∧ (auxDone replies = false) ∧ ((getSink s h).streak = (3, 2)) ∧ (headState s h = RUN) ∧ (portIdle s h = false) := by decide +kernel

/-- The hypotheses of MemoryRequests can be met. -/
theorem witness_MemoryRequests_write :
    let s : State := runBase; let t : Nat := 1000; let src : Nat := 0; let addr : Nat := 0x1000; let err : Nat := 0; let ofs : Nat := 4; let k : Traffic := .render 1; let bs : List Byte := [1, 2];
    (wellFormed (.memoryRequest t src addr k (some (ofs, bs)) err 0) = true) ∧ (s.pwr.phase = ResetPhase.run) ∧ (domainGood s 4 = true) ∧ (k ≠ Traffic.zeroFill) ∧ (mmuOk s src (addr % 2 ^ 35 / 64) k = true) ∧ (ofs + bs.length ≤ 64) := by decide +kernel

/-- The hypotheses of MemoryRequests can be met. -/
theorem witness_MemoryRequests_fill :
    let s : State := (fun (x : State) => { x with mem := { x.mem with fills := [(2, 3, 0)] } }) (writeMem runBase 0x400003 [7]); let t : Nat := 1000; let src : Nat := 0x101; let addr : Nat := 0x400000; let err : Nat := 0; let w : Option (Nat × List Byte) := none;
    (wellFormed (.memoryRequest t src addr .zeroFill w err 0) = true) ∧ (s.pwr.phase = ResetPhase.run) ∧ (domainGood s 4 = true) ∧ (mmuOk s src (addr % 2 ^ 35 / 64) Traffic.zeroFill = true) := by decide +kernel

/-- The hypotheses of MemoryRequests can be met. -/
theorem witness_MemoryRequests_read :
    let s : State := runBase; let t : Nat := 1000; let src : Nat := 0; let addr : Nat := 0x1000; let k : Traffic := .render 1;
    (wellFormed (.memoryRequest t src addr k none 0 1) = true) ∧ (s.pwr.phase = ResetPhase.run) ∧ (domainGood s 4 = true) ∧ (k ≠ Traffic.zeroFill) ∧ (mmuOk s src (addr % 2 ^ 35 / 64) k = true) ∧ ((getChannel s (channelOf s (addr % 2 ^ 35 / 64))).queue = []) ∧ (paused (begin t s) (channelOf s (addr % 2 ^ 35 / 64)) = false) ∧ (errorOf s (storedBlock s.mem (addr % 2 ^ 35 / 64)) = 0) := by decide +kernel

/-- The hypotheses of MemoryRequests can be met. -/
theorem witness_MemoryRequests_pause :
    let s : State := (List.range 4).foldl (fun x c => setChannel x c { pauseFrom := 500, pauseTo := 1500 }) runBase; let t : Nat := 1000; let src : Nat := 0; let addr : Nat := 0x1000; let n : Nat := 2; let k : Traffic := .render 1;
    (wellFormed (.memoryRequest t src addr k none 0 n) = true) ∧ (s.pwr.phase = ResetPhase.run) ∧ (domainGood s 4 = true) ∧ (k ≠ Traffic.zeroFill) ∧ (mmuOk s src (addr % 2 ^ 35 / 64) k = true) ∧ (paused (begin t s) (channelOf s (addr % 2 ^ 35 / 64)) = true) := by decide +kernel

/-- The hypotheses of MemoryRequests can be met. -/
theorem witness_MemoryRequests_outside :
    let s : State := runBase; let t : Nat := 1000; let src : Nat := 5; let addr : Nat := 0x1000; let err : Nat := 0; let ofs : Nat := 4; let k : Traffic := .render 1; let bs : List Byte := [1, 2];
    (wellFormed (.memoryRequest t src addr k (some (ofs, bs)) err 0) = true) ∧ (s.pwr.phase = ResetPhase.run) ∧ (domainGood s 4 = true) ∧ (mmuOk s src (addr % 2 ^ 35 / 64) k = false) := by decide +kernel

/-- The hypotheses of MemoryRequests can be met. -/
theorem witness_MemoryRequests_outsideRead :
    let s : State := runBase; let t : Nat := 1000; let src : Nat := 5; let addr : Nat := 0x1000; let err : Nat := 0; let k : Traffic := .render 1;
    (wellFormed (.memoryRequest t src addr k none err 0) = true) ∧ (s.pwr.phase = ResetPhase.run) ∧ (domainGood s 4 = true) ∧ (mmuOk s src (addr % 2 ^ 35 / 64) k = false) := by decide +kernel

/-- The hypotheses of MemoryRequests can be met. -/
theorem witness_MemoryRequests_age :
    let s : State := runBase; let t : Nat := 1000; let c : Nat := 2;
    (wellFormed (.requestAgeRaise t c) = true) ∧ (s.pwr.phase = ResetPhase.run) ∧ (domainGood s 4 = true) := by decide +kernel

/-- The hypotheses of MemoryUpkeep can be met. -/
theorem witness_MemoryUpkeep_patrol :
    let s : State := wr runBase .MEM_ECC_EN 1; let t : Nat := 1000; let err : Nat := 0;
    (wellFormed (.patrolScrubRead t { err := err, served := 0 }) = true) ∧ (s.pwr.phase = ResetPhase.run) ∧ (domainGood s 4 = true) ∧ (patrolBlock s s.mem.patrol = true) := by decide +kernel

/-- The hypotheses of MemoryUpkeep can be met. -/
theorem witness_MemoryUpkeep_corrected :
    let s : State := wr runBase .MEM_ECC_EN 1; let t : Nat := 1000;
    (wellFormed (.patrolScrubRead t { err := 1, served := 1 }) = true) ∧ (s.pwr.phase = ResetPhase.run) ∧ (domainGood s 4 = true) ∧ (patrolBlock s s.mem.patrol = true) ∧ (eccOn s (storedBlock s.mem s.mem.patrol / 16777216) = true) ∧ (errorOf s (storedBlock s.mem s.mem.patrol) = 0) ∧ ((getChannel s (channelOf s s.mem.patrol)).queue = []) ∧ (paused (begin t s) (channelOf s s.mem.patrol) = false) := by decide +kernel

/-- The hypotheses of MemoryUpkeep can be met. -/
theorem witness_MemoryUpkeep_uncorrectable :
    let s : State := wr runBase .MEM_ECC_EN 1; let t : Nat := 1000;
    (wellFormed (.patrolScrubRead t { err := 2, served := 1 }) = true) ∧ (s.pwr.phase = ResetPhase.run) ∧ (domainGood s 4 = true) ∧ (patrolBlock s s.mem.patrol = true) ∧ (eccOn s (storedBlock s.mem s.mem.patrol / 16777216) = true) ∧ (errorOf s (storedBlock s.mem s.mem.patrol) = 0) ∧ (protected? s (storedBlock s.mem s.mem.patrol) = false) ∧ ((getChannel s (channelOf s s.mem.patrol)).queue = []) ∧ (paused (begin t s) (channelOf s s.mem.patrol) = false) := by decide +kernel

/-- The hypotheses of MemoryUpkeep can be met. -/
theorem witness_MemoryUpkeep_remap :
    let s : State := setPage 5 { target := some SPARE_BASE, state := .copying } (writeMem runBase 0x5003 [7]); let t : Nat := 1000; let p : Nat := 5; let q : Nat := SPARE_BASE; let i : Nat := 3;
    (wellFormed (.pageRemapComplete t p) = true) ∧ (s.pwr.phase = ResetPhase.run) ∧ (domainGood s 4 = true) ∧ (memClean s = true) ∧ (s.mem.wf = true) ∧ (pageEntry s p = ({ target := some q, state := PageState.copying } : PageEntry)) ∧ (p ≠ q) ∧ (dueOf s U_PAGE p = none) ∧ (i < 4096) := by decide +kernel

/-- The hypotheses of MemoryUpkeep can be met. -/
theorem witness_MemoryUpkeep_fill :
    let s : State := (fun (x : State) => { x with mem := { x.mem with fills := [(2, 3, 0)] } }) (writeMem runBase 0x400003 [7]); let t : Nat := 1000; let k : Nat := 2; let a : Nat := 0x400003; let f : Nat × Nat × Nat := (2, 3, 0);
    (wellFormed (.zeroFillComplete t k) = true) ∧ (s.pwr.phase = ResetPhase.run) ∧ (domainGood s 4 = true) ∧ (s.mem.wf = true) ∧ (s.mem.fills.find? (fun (f : Nat × Nat × Nat) => decide (f.1 = k)) = some f) ∧ (k * CHUNK ≤ a) ∧ (a < f.2.1 * CHUNK) ∧ (storedDead s.mem a = false) := by decide +kernel

/-- The hypotheses of MemoryUpkeep can be met. -/
theorem witness_MemoryUpkeep_ecc :
    let s : State := runBase; let t : Nat := 1000; let v : Word := 0x80000004;
    (wellFormed (.eccRegionChange t v) = true) ∧ (s.pwr.phase = ResetPhase.run) ∧ (rdF s BOOT_STATUS.STAGE = 6) ∧ (locked s = false) ∧ (((List.range 31).filter (fun r => decide (bit v.toNat r ≠ bit (rd s .MEM_ECC_EN).toNat r))).any (fun r => regionSlices s r || regionPlaced s r) = false) := by decide +kernel

/-- The hypotheses of MemoryUpkeep can be met. -/
theorem witness_MemoryUpkeep_refresh :
    let s : State := setChannel (wrF runBase (MEM_CH_STATUS.STATE 2) CH_ACTIVE) 2 { rateRead := 2 }; let t : Nat := 1000; let c : Nat := 2; let b : Nat := 5;
    (wellFormed (.bankRefresh t c b false) = true) ∧ (s.pwr.phase = ResetPhase.run) ∧ (domainGood s 4 = true) ∧ (memState s c = CH_ACTIVE) ∧ (paused (begin t s) c = false) ∧ ((getChannel s c).rateRead < 3) := by decide +kernel

/-- The hypotheses of MemoryUpkeep can be met. -/
theorem witness_MemoryUpkeep_held :
    let s : State := setChannel (wrF runBase (MEM_CH_STATUS.STATE 2) CH_ACTIVE) 2 { pauseFrom := 500, pauseTo := 1500 }; let t : Nat := 1000; let c : Nat := 2; let b : Nat := 5; let held : Bool := false;
    (wellFormed (.bankRefresh t c b held) = true) ∧ (s.pwr.phase = ResetPhase.run) ∧ (domainGood s 4 = true) ∧ (memState s c = CH_ACTIVE) ∧ (held = true ∨ paused (begin t s) c = true) := by decide +kernel

/-- The hypotheses of MemoryUpkeep can be met. -/
theorem witness_MemoryUpkeep_rate :
    let s : State := runBase; let t : Nat := 1000; let c : Nat := 2; let rate : Nat := 1;
    (wellFormed (.refreshRateRead t c rate) = true) ∧ (s.pwr.phase = ResetPhase.run) ∧ (domainGood s 4 = true) ∧ (rate < 3) := by decide +kernel

/-- The hypotheses of MemoryUpkeep can be met. -/
theorem witness_MemoryUpkeep_due :
    let s : State := wrF runBase (MEM_CH_STATUS.STATE 2) CH_ACTIVE; let t : Nat := 100000000000; let c : Nat := 2;
    (wellFormed (.retrainDue t c) = true) ∧ (s.pwr.phase = ResetPhase.run) ∧ (domainGood s 4 = true) ∧ (memState s c = CH_ACTIVE) ∧ (stepsDue s c = 0) ∧ (lastTrained s c + rdF s MEM_RETRAIN.INTERVAL_MS * 1000000 ≤ now (begin t s)) := by decide +kernel

/-- The hypotheses of MemoryUpkeep can be met. -/
theorem witness_MemoryUpkeep_force :
    let s : State := setChannel runBase 2 { dueAt := some 5 }; let t : Nat := 100000000000; let c : Nat := 2; let d : Nat := 5;
    (wellFormed (.retrainForce t c) = true) ∧ (s.pwr.phase = ResetPhase.run) ∧ (domainGood s 4 = true) ∧ ((getChannel s c).dueAt = some d) ∧ ((getChannel s c).forced = false) ∧ (d + rdF s MEM_RETRAIN.FORCE_MS * 1000000 ≤ now (begin t s)) := by decide +kernel

/-- The hypotheses of MemoryUpkeep can be met. -/
theorem witness_MemoryUpkeep_step :
    let s : State := wrF (wrF runBase (MEM_CH_STATUS.STATE 2) CH_ACTIVE) (MEM_CH_STATUS.STEPS_DUE 2) 1; let t : Nat := 1000; let g : Nat := 0; let c : Nat := 2; let margins : List Bool := []; let results : List Bool := [true, true, true];
    (wellFormed (.retrainOpportunity t g margins results) = true) ∧ (s.pwr.phase = ResetPhase.run) ∧ (domainGood s 4 = true) ∧ (anyHead s = true → (headsOf g).any (headOn s.dsp.active) = true) ∧ (c < 4) ∧ (pauseOk c (margins.getD c false) s = true) ∧ (results.getD c false = true) := by decide +kernel

/-- The hypotheses of MemoryUpkeep can be met. -/
theorem witness_MemoryUpkeep_step_also :
    let s : State := setActive (wrF (wrF runBase (MEM_CH_STATUS.STATE 2) CH_ACTIVE) (MEM_CH_STATUS.STEPS_DUE 2) 1) (View.put [] (.HD_CTRL 2) 0x80000000); let t : Nat := 1000; let g : Nat := 0; let c : Nat := 2; let margins : List Bool := []; let results : List Bool := [true, true, true];
    (wellFormed (.retrainOpportunity t g margins results) = true) ∧ (s.pwr.phase = ResetPhase.run) ∧ (domainGood s 4 = true) ∧ (anyHead s = true → (headsOf g).any (headOn s.dsp.active) = true) ∧ (c < 4) ∧ (pauseOk c (margins.getD c false) s = true) ∧ (results.getD c false = true) := by decide +kernel

/-- The hypotheses of MemoryUpkeep can be met. -/
theorem witness_MemoryUpkeep_stepFails :
    let s : State := wrF (wrF runBase (MEM_CH_STATUS.STATE 2) CH_ACTIVE) (MEM_CH_STATUS.STEPS_DUE 2) 1; let t : Nat := 1000; let g : Nat := 0; let c : Nat := 2; let margins : List Bool := []; let results : List Bool := [true, true];
    (wellFormed (.retrainOpportunity t g margins results) = true) ∧ (s.pwr.phase = ResetPhase.run) ∧ (domainGood s 4 = true) ∧ (anyHead s = true → (headsOf g).any (headOn s.dsp.active) = true) ∧ (c < 4) ∧ (pauseOk c (margins.getD c false) s = true) ∧ (results.getD c false = false) := by decide +kernel

/-- The hypotheses of MemoryUpkeep can be met. -/
theorem witness_MemoryUpkeep_stepFails_also :
    let s : State := setActive (wrF (wrF runBase (MEM_CH_STATUS.STATE 2) CH_ACTIVE) (MEM_CH_STATUS.STEPS_DUE 2) 1) (View.put [] (.HD_CTRL 2) 0x80000000); let t : Nat := 1000; let g : Nat := 0; let c : Nat := 2; let margins : List Bool := []; let results : List Bool := [true, true];
    (wellFormed (.retrainOpportunity t g margins results) = true) ∧ (s.pwr.phase = ResetPhase.run) ∧ (domainGood s 4 = true) ∧ (anyHead s = true → (headsOf g).any (headOn s.dsp.active) = true) ∧ (c < 4) ∧ (pauseOk c (margins.getD c false) s = true) ∧ (results.getD c false = false) := by decide +kernel

/-- The hypotheses of MemoryUpkeep can be met. -/
theorem witness_MemoryUpkeep_selfRefresh :
    let s : State := wrB (wrF runBase (MEM_CH_STATUS.STATE 2) CH_ACTIVE) MEM_SR.EN true; let t : Nat := 100000000000; let c : Nat := 2;
    (wellFormed (.selfRefreshEntry t c) = true) ∧ (s.pwr.phase = ResetPhase.run) ∧ (domainGood s 4 = true) ∧ (memState s c = CH_ACTIVE) ∧ (flag s MEM_SR.EN = true) ∧ ((getChannel s c).queue = []) ∧ ((getChannel s c).lastReq + rdF s MEM_SR.IDLE_US * 1000 ≤ now (begin t s)) ∧ (class0Active s = false) := by decide +kernel

/-- The hypotheses of SafeState can be met. -/
theorem witness_SafeState_lockstep :
    let s : State := { runBase with pwr := { runBase.pwr with pd0 := true } }; let t : Nat := 1000;
    (wellFormed (.lockstepMismatch t) = true) ∧ (flag s SHL_STATUS.SAFE = false) ∧ (s.pwr.pd0 = true) := by decide +kernel

/-- The hypotheses of SafeState can be met. -/
theorem witness_SafeState_core :
    let s : State := { runBase with pwr := { runBase.pwr with pd0 := true, phase := .held } }; let t : Nat := 1000;
    (wellFormed (.shallotCoreWdExpiry t) = true) ∧ (flag s SHL_STATUS.SAFE = false) ∧ (s.pwr.pd0 = true) := by decide +kernel

/-- The hypotheses of SafeState can be met. -/
theorem witness_SafeState_dtime :
    let s : State := runBase; let t : Nat := 1000; let adv : Nat := 5;
    (wellFormed (.dtimeMonitorWindow t adv) = true) ∧ (s.pwr.phase = ResetPhase.run) ∧ (flag s SHL_STATUS.SAFE = false) ∧ (adv < 99900000 ∨ 100100000 < adv) := by decide +kernel

/-- The hypotheses of SafeState can be met. -/
theorem witness_SafeState_dtimeGood :
    let s : State := runBase; let t : Nat := 1000; let adv : Nat := 99900000;
    (wellFormed (.dtimeMonitorWindow t adv) = true) ∧ (s.pwr.phase = ResetPhase.run) ∧ (99900000 ≤ adv) ∧ (adv ≤ 100100000) := by decide +kernel

/-- The hypotheses of SafeState can be met. -/
theorem witness_SafeState_bus :
    let s : State := runBase; let t : Nat := 1000; let id : Nat := 5; let unit : Nat := 0; let detail : Nat := 0; let line : Nat := 0; let col : Nat := 0; let last : Nat := 0; let ok : Bool := false;
    (wellFormed (.faultReport t id unit detail line col last ok) = true) ∧ (s.pwr.phase = ResetPhase.run) ∧ (flag s SHL_STATUS.SAFE = false) ∧ (1 ≤ id) ∧ (id ≤ 8) ∧ (s.pwr.pd0 = true ∨ 4 ≤ id) := by decide +kernel

/-- The hypotheses of SafeState can be met. -/
theorem witness_SafeState_root :
    let s : State := runBase; let t : Nat := 1000; let unit : Nat := 0; let line : Nat := 0; let col : Nat := 0; let last : Nat := 0; let ok : Bool := false;
    (wellFormed (.faultReport t 5 unit 0 line col last ok) = true) ∧ (s.pwr.phase = ResetPhase.run) ∧ (flag s SHL_STATUS.SAFE = false) := by decide +kernel

/-- The hypotheses of SafeState can be met. -/
theorem witness_SafeState_cluster :
    let s : State := runBase; let t : Nat := 1000; let unit : Nat := 3; let detail : Nat := 1; let line : Nat := 0; let col : Nat := 0; let last : Nat := 0; let ok : Bool := true;
    (wellFormed (.faultReport t 0x0B unit detail line col last ok) = true) ∧ (s.pwr.phase = ResetPhase.run) ∧ (unit < 24) ∧ (1 ≤ detail) ∧ (detail < 3) := by decide +kernel

/-- The hypotheses of SafeState can be met. -/
theorem witness_SafeState_frame :
    let s : State := setActive runBase (View.put [] (.HD_CTRL 5) 0x80000000); let t : Nat := 100000000000; let g : Nat := 1; let h : Nat := 5;
    (wellFormed (.groupFrameWdExpiry t g) = true) ∧ (s.pwr.phase = ResetPhase.run) ∧ (g < 3) ∧ (frameWdEnd s g ≤ now (begin t s)) ∧ ((getGroup s g).wdFor ≠ some (getGroup s g).commitAt) ∧ (h ∈ headsOf g) ∧ (headOn s.dsp.active h = true) := by decide +kernel

/-- The hypotheses of HostAndRetirement can be met. -/
theorem witness_HostAndRetirement_kick :
    let s : State := wrF { runBase with shl := { runBase.shl with mgrExpired := true } } SHL_MGR_WD.PERIOD_MS 500; let t : Nat := 1000; let gen : Nat := 0;
    (wellFormed (.mgrKick t gen) = true) ∧ (s.pwr.phase = ResetPhase.run) ∧ (gen = instGen s 0) ∧ (rdF s SHL_MGR_WD.PERIOD_MS ≠ 0) := by decide +kernel

/-- The hypotheses of HostAndRetirement can be met. -/
theorem witness_HostAndRetirement_expiry :
    let s : State := { runBase with shl := { runBase.shl with mgrKick := some 5 } }; let t : Nat := 1000; let k : Nat := 5;
    (wellFormed (.managerWdExpiry t) = true) ∧ (s.pwr.phase = ResetPhase.run) ∧ (s.shl.mgrKick = some k) ∧ (k + rdF s SHL_MGR_WD.PERIOD_MS * 1000000 ≤ now (begin t s)) := by decide +kernel

/-- The hypotheses of HostAndRetirement can be met. -/
theorem witness_HostAndRetirement_down :
    let s : State := runBase; let t : Nat := 1000;
    (wellFormed (.linkDown10ms t) = true) ∧ (s.pwr.phase = ResetPhase.run) := by decide +kernel

/-- The hypotheses of HostAndRetirement can be met. -/
theorem witness_HostAndRetirement_up :
    let s : State := runBase; let t : Nat := 1000;
    (wellFormed (.pcieLinkL0 t) = true) ∧ (s.pwr.phase = ResetPhase.run) ∧ (domainGood s 3 = true) := by decide +kernel

/-- The hypotheses of HostAndRetirement can be met. -/
theorem witness_HostAndRetirement_retire :
    let s : State := leaveDue { id := 0x0B, kind := U_CLUSTER, unit := 3 } 0 runBase; let t : Nat := 1000; let kind : Nat := U_CLUSTER; let unit : Nat := 3; let d : RetireDue := { kind := U_CLUSTER, unit := 3, faultId := 0x0B, detail := 0, stamp := 0, inst := 0, sub := none, count := 0 };
    (wellFormed (.unitRetire t kind unit) = true) ∧ (s.pwr.phase = ResetPhase.run) ∧ (dueOf s kind unit = some d) ∧ (kind ≠ U_PAGE) ∧ (retirable kind = true) ∧ (unit < unitsOfKind kind) := by decide +kernel

/-- The hypotheses of HostAndRetirement can be met. -/
theorem witness_HostAndRetirement_unretire :
    let s : State := { runBase with shl := { runBase.shl with retired := [(U_CLUSTER, 3)] } }; let t : Nat := 1000; let v : Word := 0x80003003; let kind : Nat := U_CLUSTER; let unit : Nat := 3;
    (wellFormed (.unretire t v) = true) ∧ (s.pwr.phase = ResetPhase.run) ∧ (bit v.toNat 31 = true) ∧ (bitsOf v.toNat 15 12 = kind) ∧ (bitsOf v.toNat 6 0 = unit) ∧ (unit < unitsOfKind kind) ∧ (retirable kind = true) ∧ (kind ≠ U_PAGE) ∧ (s.shl.selfTest = none) ∧ (isRetired s kind unit = true) ∧ (unitInUse s kind unit = false) ∧ (safe s = false) := by decide +kernel

/-- The hypotheses of HostAndRetirement can be met. -/
theorem witness_HostAndRetirement_pass :
    let s : State := { runBase with shl := { runBase.shl with retired := [(U_CLUSTER, 3)], selfTest := some (U_CLUSTER, 3) } }; let t : Nat := 1000; let kind : Nat := U_CLUSTER; let unit : Nat := 3;
    (wellFormed (.unretireSelftestComplete t true) = true) ∧ (s.pwr.phase = ResetPhase.run) ∧ (s.shl.selfTest = some (kind, unit)) ∧ (s.shl.testFailed = false) ∧ (unit < unitsOfKind kind) ∧ (retirable kind = true) := by decide +kernel

/-- The hypotheses of HostAndRetirement can be met. -/
theorem witness_HostAndRetirement_fail :
    let s : State := { runBase with shl := { runBase.shl with retired := [(U_CLUSTER, 3)], selfTest := some (U_CLUSTER, 3) } }; let t : Nat := 1000; let kind : Nat := U_CLUSTER; let unit : Nat := 3;
    (wellFormed (.unretireSelftestComplete t false) = true) ∧ (s.pwr.phase = ResetPhase.run) ∧ (s.shl.selfTest = some (kind, unit)) := by decide +kernel

/-- The hypotheses of AudioBuffers can be met. -/
theorem witness_AudioBuffers_buffer :
    let s : State := (fetchedState (setLease runBase K_AUDIO 5 { state := .held, holder := 0 }) 3 (desc OP_AUDIO_BUFFER 4 (at8 24 5 + at64 32 (2 ^ 63)))); let t : Nat := 1000; let k : Taken := takenDesc OP_AUDIO_BUFFER 1000 (fetchedState (setLease runBase K_AUDIO 5 { state := .held, holder := 0 }) 3 (desc OP_AUDIO_BUFFER 4 (at8 24 5 + at64 32 (2 ^ 63)))); let data : List Byte := [1, 0, 2, 0];
    (wellFormed (.audioBuffer t data) = true) ∧ (s.pwr.phase = ResetPhase.run) ∧ (Dispatches t s (fun o => decide (o = OP_AUDIO_BUFFER)) checkAudio k = true) := by decide +kernel

/-- The hypotheses of AudioBuffers can be met. -/
theorem witness_AudioBuffers_complete :
    let s : State := setChan runBase 5 { bufs := [{ fn := 0, q := 0, id := 1, addr := 2 ^ 63, len := 4, data := [1, 0, 2, 0], stamp := 0, after := none, ripe := true, started := true, lastAt := some 9 }] }; let t : Nat := 1000; let a : Nat := 5; let b : AudioBuf := { fn := 0, q := 0, id := 1, addr := 2 ^ 63, len := 4, data := [1, 0, 2, 0], stamp := 0, after := none, ripe := true, started := true, lastAt := some 9 };
    (wellFormed (.audioBufferComplete t a) = true) ∧ (s.pwr.phase = ResetPhase.run) ∧ (domainGood s 12 = true) ∧ ((getChan s a).bufs.find? (fun (b : AudioBuf) => b.lastAt.isSome) = some b) := by decide +kernel

/-- The hypotheses of AudioBuffers can be met. -/
theorem witness_AudioBuffers_underrun :
    let s : State := setChan runBase 5 { bufs := [{ fn := 0, q := 0, id := 1, addr := 2 ^ 63, len := 4, data := [1, 0, 2, 0], stamp := 0, after := none, ripe := true, started := true, lastAt := none }] }; let t : Nat := 1000; let a : Nat := 5; let b : AudioBuf := { fn := 0, q := 0, id := 1, addr := 2 ^ 63, len := 4, data := [1, 0, 2, 0], stamp := 0, after := none, ripe := true, started := true, lastAt := none }; let bs : List AudioBuf := [];
    (wellFormed (.bufferUnderrun t a) = true) ∧ (s.pwr.phase = ResetPhase.run) ∧ (domainGood s 12 = true) ∧ (liveBufs (getChan s a) = b :: bs) ∧ (b.started = true ∨ (b.ripe = true ∧ chanState s a = CH_PLAYING)) := by decide +kernel

/-- The hypotheses of AudioEngine can be met. -/
theorem witness_AudioEngine_boundary :
    let s : State := setChan runBase 5 { gainAt := some 5 }; let t : Nat := 1000;
    (wellFormed (.blockBoundary t) = true) ∧ (s.pwr.phase = ResetPhase.run) ∧ (domainGood s 12 = true) := by decide +kernel

/-- The hypotheses of AudioEngine can be met. -/
theorem witness_AudioEngine_sample :
    let s : State := setChan runBase 5 { gain := { n := 1, len := 4 } }; let t : Nat := 1000;
    (wellFormed (.engineSamplePeriod t) = true) ∧ (s.pwr.phase = ResetPhase.run) ∧ (domainGood s 12 = true) ∧ (memClean s = true) := by decide +kernel

/-- The hypotheses of AudioEngine can be met. -/
theorem witness_AudioEngine_go :
    let s : State := runBase; let t : Nat := 1000; let a : Nat := 5; let v : Word := 0x80000014;
    (wellFormed (.routeGo t a v) = true) ∧ (s.pwr.phase = ResetPhase.run) ∧ (rdF s BOOT_STATUS.STAGE = 6) ∧ (admitted (Reg.fields (.AUD_A_RCTL a)) v.toNat = true) ∧ (bit v.toNat 31 = true) := by decide +kernel

/-- The hypotheses of AudioEngine can be met. -/
theorem witness_AudioEngine_gain :
    let s : State := runBase; let t : Nat := 1000; let n : Nat := 5; let v : Word := 0x00012000;
    (wellFormed (.gainWrite t false n v) = true) ∧ (s.pwr.phase = ResetPhase.run) ∧ (rdF s BOOT_STATUS.STAGE = 6) ∧ (n < 64) ∧ (admitted (Reg.fields (.AUD_A_GAIN n)) v.toNat = true) := by decide +kernel

/-- The hypotheses of AudioEngine can be met. -/
theorem witness_AudioEngine_busGain :
    let s : State := runBase; let t : Nat := 1000; let n : Nat := 5; let v : Word := 0x00012000;
    (wellFormed (.gainWrite t true n v) = true) ∧ (s.pwr.phase = ResetPhase.run) ∧ (rdF s BOOT_STATUS.STAGE = 6) ∧ (n < 32) ∧ (admitted (Reg.fields (.AUD_B_GAIN n)) v.toNat = true) := by decide +kernel

/-- The hypotheses of AudioEngine can be met. -/
theorem witness_AudioEngine_coef :
    let s : State := wr runBase .AUD_EQ_ADDR 0x041D; let t : Nat := 1000; let v : Word := 0x3F000000; let b : Nat := 0; let k : Nat := 1; let w : Nat := 29;
    (wellFormed (.eqDataWrite t v) = true) ∧ (s.pwr.phase = ResetPhase.run) ∧ (rdF s BOOT_STATUS.STAGE = 6) ∧ (rdF s AUD_EQ_ADDR.BUS = b) ∧ (rdF s AUD_EQ_ADDR.BANK = k) ∧ (rdF s AUD_EQ_ADDR.WORD = w) ∧ (badCoef v.toNat = false) ∧ (rdF s (AUD_B_EQ.BANK b) ≠ k) ∧ (flag s (AUD_B_EQ.PEND b) = false) := by decide +kernel

/-- The hypotheses of AudioEngine can be met. -/
theorem witness_AudioEngine_swap :
    let s : State := runBase; let t : Nat := 1000; let b : Nat := 31;
    (wellFormed (.eqSwap t b) = true) ∧ (s.pwr.phase = ResetPhase.run) ∧ (rdF s BOOT_STATUS.STAGE = 6) ∧ (b < 32) ∧ (flag s (AUD_B_EQ.PEND b) = false) := by decide +kernel

/-- The hypotheses of AudioEngine can be met. -/
theorem witness_AudioEngine_tdmMap :
    let s : State := runBase; let t : Nat := 1000; let n : Nat := 3; let k : Nat := 3; let v : Word := 0xFFFFFFFF;
    (wellFormed (.mapWrite t false n k v) = true) ∧ (s.pwr.phase = ResetPhase.run) ∧ (rdF s BOOT_STATUS.STAGE = 6) ∧ (n < 4) ∧ (k < 4) := by decide +kernel

/-- The hypotheses of AudioEngine can be met. -/
theorem witness_AudioEngine_headMap :
    let s : State := runBase; let t : Nat := 1000; let n : Nat := 11; let k : Nat := 1; let v : Word := 0xFFFFFFFF;
    (wellFormed (.mapWrite t true n k v) = true) ∧ (s.pwr.phase = ResetPhase.run) ∧ (rdF s BOOT_STATUS.STAGE = 6) ∧ (n < 12) ∧ (k < 2) := by decide +kernel

/-- The hypotheses of TdmPorts can be met. -/
theorem witness_TdmPorts_enable :
    let s : State := runBase; let t : Nat := 1000; let p : Nat := 3; let v : Word := 0xF0000000;
    (wellFormed (.tdmPortEnable t p v) = true) ∧ (s.pwr.phase = ResetPhase.run) ∧ (rdF s BOOT_STATUS.STAGE = 6) ∧ (flag s (AUD_T_CFG.EN p) = false) ∧ (bit v.toNat 31 = true) ∧ (portState s p ≠ PT_RETIRED) ∧ ((getPort s p).stopping = false) := by decide +kernel

/-- The hypotheses of TdmPorts can be met. -/
theorem witness_TdmPorts_stop :
    let s : State := wrF (wrB runBase (AUD_T_CFG.EN 1) true) (AUD_T_STATUS.STATE 1) PT_RUN; let t : Nat := 1000; let p : Nat := 1; let v : Word := 0;
    (wellFormed (.tdmPortDisable t p v) = true) ∧ (s.pwr.phase = ResetPhase.run) ∧ (rdF s BOOT_STATUS.STAGE = 6) ∧ (flag s (AUD_T_CFG.EN p) = true) ∧ (bitsOf v.toNat 30 28 = bitsOf (rd s (.AUD_T_CFG p)).toNat 30 28) ∧ (bit v.toNat 31 = false) ∧ (portState s p = PT_RUN) := by decide +kernel

/-- The hypotheses of TdmPorts can be met. -/
theorem witness_TdmPorts_off :
    let s : State := wrF (wrB runBase (AUD_T_CFG.EN 1) true) (AUD_T_STATUS.STATE 1) PT_SYNCING; let t : Nat := 1000; let p : Nat := 1; let v : Word := 0;
    (wellFormed (.tdmPortDisable t p v) = true) ∧ (s.pwr.phase = ResetPhase.run) ∧ (rdF s BOOT_STATUS.STAGE = 6) ∧ (flag s (AUD_T_CFG.EN p) = true) ∧ (bitsOf v.toNat 30 28 = bitsOf (rd s (.AUD_T_CFG p)).toNat 30 28) ∧ (bit v.toNat 31 = false) ∧ (portState s p ≠ PT_RUN) ∧ (portState s p ≠ PT_RETIRED) := by decide +kernel

/-- The hypotheses of TdmPorts can be met. -/
theorem witness_TdmPorts_sync :
    let s : State := setPort (wrF (wrB runBase (AUD_T_CFG.EN 1) true) (AUD_T_STATUS.STATE 1) PT_SYNCING) 1 { seen := true }; let t : Nat := 1000; let p : Nat := 1;
    (wellFormed (.tdmFrameSync t p 512) = true) ∧ (s.pwr.phase = ResetPhase.run) ∧ (domainGood s 12 = true) ∧ (slaveOn s p = true) ∧ (portState s p ≠ PT_RUN) ∧ ((getPort s p).seen = true) := by decide +kernel

/-- The hypotheses of TdmPorts can be met. -/
theorem witness_TdmPorts_stray :
    let s : State := setPort (wrF (wrB runBase (AUD_T_CFG.EN 1) true) (AUD_T_STATUS.STATE 1) PT_SYNCING) 1 { seen := true }; let t : Nat := 1000; let p : Nat := 1; let n : Nat := 100;
    (wellFormed (.tdmFrameSync t p n) = true) ∧ (s.pwr.phase = ResetPhase.run) ∧ (domainGood s 12 = true) ∧ (slaveOn s p = true) ∧ ((getPort s p).seen = true) ∧ (n % 512 ≠ 0) := by decide +kernel

/-- The hypotheses of TdmPorts can be met. -/
theorem witness_TdmPorts_frame :
    let s : State := setPort (wrF (wr runBase (.AUD_T_CFG 1) 0xB0000000) (AUD_T_STATUS.STATE 1) PT_RUN) 1 { tx := [[7], [8]] }; let t : Nat := 1000; let p : Nat := 1; let bits : List Bool := [false, true]; let f : List Nat := [7]; let rest : List (List Nat) := [[8]];
    (wellFormed (.tdmFrame t p false bits) = true) ∧ (s.pwr.phase = ResetPhase.run) ∧ (domainGood s 12 = true) ∧ (portState s p = PT_RUN) ∧ ((getPort s p).stopping = false) ∧ (flag s (AUD_T_CFG.MASTER p) = true → (getPort s p).begun = true) ∧ (flag s (AUD_T_CFG.TX_EN p) = true) ∧ (flag s (AUD_T_CFG.RX_EN p) = true) ∧ ((getPort s p).tx = f :: rest) ∧ ((getPort s p).rx.length < 64) := by decide +kernel

/-- The hypotheses of TdmPorts can be met. -/
theorem witness_TdmPorts_frame_also :
    let s : State := setPort (wrF (wr runBase (.AUD_T_CFG 1) 0xF0000000) (AUD_T_STATUS.STATE 1) PT_RUN) 1 { tx := [[7], [8]], begun := true }; let t : Nat := 1000; let p : Nat := 1; let bits : List Bool := [false, true]; let f : List Nat := [7]; let rest : List (List Nat) := [[8]];
    (wellFormed (.tdmFrame t p false bits) = true) ∧ (s.pwr.phase = ResetPhase.run) ∧ (domainGood s 12 = true) ∧ (portState s p = PT_RUN) ∧ ((getPort s p).stopping = false) ∧ (flag s (AUD_T_CFG.MASTER p) = true → (getPort s p).begun = true) ∧ (flag s (AUD_T_CFG.TX_EN p) = true) ∧ (flag s (AUD_T_CFG.RX_EN p) = true) ∧ ((getPort s p).tx = f :: rest) ∧ ((getPort s p).rx.length < 64) := by decide +kernel

/-- The hypotheses of TdmPorts can be met. -/
theorem witness_TdmPorts_idle :
    let s : State := setPort (wrF (wr runBase (.AUD_T_CFG 1) 0xB0000000) (AUD_T_STATUS.STATE 1) PT_SYNCING) 1 {  }; let t : Nat := 1000; let p : Nat := 1; let bits : List Bool := [];
    (wellFormed (.tdmFrame t p false bits) = true) ∧ (s.pwr.phase = ResetPhase.run) ∧ (domainGood s 12 = true) ∧ (portState s p = PT_SYNCING ∨ portState s p = PT_RESYNC ∨ (portState s p = PT_RUN ∧ (getPort s p).tx = [])) ∧ ((getPort s p).stopping = false) ∧ (flag s (AUD_T_CFG.MASTER p) = true → (getPort s p).begun = true) ∧ (flag s (AUD_T_CFG.TX_EN p) = true) := by decide +kernel

/-- The hypotheses of TdmPorts can be met. -/
theorem witness_TdmPorts_idle_also :
    let s : State := setPort (wrF (wr runBase (.AUD_T_CFG 1) 0xF0000000) (AUD_T_STATUS.STATE 1) PT_RUN) 1 { begun := true }; let t : Nat := 1000; let p : Nat := 1; let bits : List Bool := [];
    (wellFormed (.tdmFrame t p false bits) = true) ∧ (s.pwr.phase = ResetPhase.run) ∧ (domainGood s 12 = true) ∧ (portState s p = PT_SYNCING ∨ portState s p = PT_RESYNC ∨ (portState s p = PT_RUN ∧ (getPort s p).tx = [])) ∧ ((getPort s p).stopping = false) ∧ (flag s (AUD_T_CFG.MASTER p) = true → (getPort s p).begun = true) ∧ (flag s (AUD_T_CFG.TX_EN p) = true) := by decide +kernel

/-- The hypotheses of TdmPorts can be met. -/
theorem witness_TdmPorts_notBegun :
    let s : State := setPort (wrF (wr runBase (.AUD_T_CFG 1) 0xF0000000) (AUD_T_STATUS.STATE 1) PT_RUN) 1 { tx := [[7]] }; let t : Nat := 1000; let p : Nat := 1; let bits : List Bool := [];
    (wellFormed (.tdmFrame t p false bits) = true) ∧ (s.pwr.phase = ResetPhase.run) ∧ (domainGood s 12 = true) ∧ (flag s (AUD_T_CFG.MASTER p) = true) ∧ ((getPort s p).begun = false) ∧ ((getPort s p).stopping = false) := by decide +kernel

/-- The hypotheses of TdmPorts can be met. -/
theorem witness_TdmPorts_stopped :
    let s : State := setPort (wrF (wr runBase (.AUD_T_CFG 1) 0x30000000) (AUD_T_STATUS.STATE 1) PT_RUN) 1 { tx := [[7]], stopping := true }; let t : Nat := 1000; let p : Nat := 1; let held : Bool := false; let bits : List Bool := [];
    (wellFormed (.tdmFrame t p held bits) = true) ∧ (s.pwr.phase = ResetPhase.run) ∧ (domainGood s 12 = true) ∧ ((getPort s p).stopping = true) ∧ (flag s (AUD_T_CFG.EN p) = false) := by decide +kernel

/-- The hypotheses of TdmPorts can be met. -/
theorem witness_TdmPorts_held :
    let s : State := setPort (wrF (wr runBase (.AUD_T_CFG 1) 0xB0000000) (AUD_T_STATUS.STATE 1) PT_RUN) 1 { tx := [[7], [8]] }; let t : Nat := 1000; let p : Nat := 1; let bits : List Bool := [];
    (wellFormed (.tdmFrame t p true bits) = true) ∧ (s.pwr.phase = ResetPhase.run) ∧ (domainGood s 12 = true) ∧ (portState s p = PT_RUN) ∧ ((getPort s p).stopping = false) ∧ (flag s (AUD_T_CFG.MASTER p) = false) := by decide +kernel

/-- The hypotheses of TdmPorts can be met. -/
theorem witness_TdmPorts_bclk :
    let s : State := setPort (wrF (wr runBase (.AUD_T_CFG 1) 0xB0000000) (AUD_T_STATUS.STATE 1) PT_RUN) 1 { tx := [[7], [8]], missing := 2 }; let t : Nat := 1000; let p : Nat := 1;
    (wellFormed (.tdmBclkLoss t p) = true) ∧ (s.pwr.phase = ResetPhase.run) ∧ (domainGood s 12 = true) ∧ (slaveOn s p = true) := by decide +kernel

/-- The hypotheses of TdmPorts can be met. -/
theorem witness_TdmPorts_missing :
    let s : State := setPort (wrF (wr runBase (.AUD_T_CFG 1) 0xB0000000) (AUD_T_STATUS.STATE 1) PT_RUN) 1 { tx := [[7], [8]], missing := 2 }; let t : Nat := 1000; let p : Nat := 1;
    (wellFormed (.tdmFrameSyncMissing t p) = true) ∧ (s.pwr.phase = ResetPhase.run) ∧ (domainGood s 12 = true) ∧ (slaveOn s p = true) ∧ (2 ≤ (getPort s p).missing) := by decide +kernel

/-- The hypotheses of TouchInput can be met. -/
theorem witness_TouchInput_attach :
    let s : State := wrF (wrB runBase (TCH_P_CFG.EN 3) true) (TCH_P_STATUS.STATE 3) TP_ENUMERATING; let t : Nat := 1000; let p : Nat := 3; let d : TouchDevice := { colls := [requiredUsages.map (fun k => (k, false))], inputMode := true };
    (wellFormed (.touchDeviceAttach t p 0 d) = true) ∧ (s.pwr.phase = ResetPhase.run) ∧ (domainGood s 12 = true) ∧ (flag s (TCH_P_CFG.EN p) = true) ∧ (rdF s (TCH_P_STATUS.STATE p) ≠ TP_OFF) ∧ (rdF s (TCH_P_STATUS.STATE p) ≠ TP_RETIRED) ∧ (s.tch.devices.all (fun (x : Digitiser) => decide (x.port ≠ p)) = true) ∧ (served p d = true) := by decide +kernel

/-- The hypotheses of TouchInput can be met. -/
theorem witness_TouchInput_notServed :
    let s : State := wrF (wrB runBase (TCH_P_CFG.EN 3) true) (TCH_P_STATUS.STATE 3) TP_ENUMERATING; let t : Nat := 1000; let p : Nat := 3; let d : TouchDevice := { colls := [requiredUsages.map (fun k => (k, false))], lowSpeed := true };
    (wellFormed (.touchDeviceAttach t p 0 d) = true) ∧ (s.pwr.phase = ResetPhase.run) ∧ (domainGood s 12 = true) ∧ (flag s (TCH_P_CFG.EN p) = true) ∧ (rdF s (TCH_P_STATUS.STATE p) ≠ TP_OFF) ∧ (rdF s (TCH_P_STATUS.STATE p) ≠ TP_RETIRED) ∧ (s.tch.devices.all (fun (x : Digitiser) => decide (x.port ≠ p)) = true) ∧ (served p d = false) := by decide +kernel

/-- The hypotheses of TouchInput can be met. -/
theorem witness_TouchInput_int :
    let s : State := runBase; let t : Nat := 1000; let p : Nat := 7;
    (wellFormed (.i2cIntFall t p) = true) ∧ (s.pwr.phase = ResetPhase.run) ∧ (domainGood s 12 = true) ∧ (4 ≤ p) := by decide +kernel

/-- The hypotheses of TouchInput can be met. -/
theorem witness_TouchInput_down :
    let s : State := touchState; let t : Nat := 1000; let n : Nat := 2; let k : TouchPoint := { id := 4, tip := true, conf := true, x := 100, xMin := 0, xMax := 1000, y := 0, yMin := 0, yMax := 1000, pressure := none }; let gx : Nat := 0; let gy : Nat := 0; let h : Nat := 0; let hx : Nat := 0; let r : Nat := 9; let v : View := s.dsp.active;
    (wellFormed (.touchReport t [{ surface := n, points := [k] }]) = true) ∧ (s.pwr.phase = ResetPhase.run) ∧ (domainGood s 12 = true) ∧ (v = (if rdF s (TCH_S_SRC.PORT n) < 4 then s.dsp.active else Sparse.get [] s.tch.intView (rdF s (TCH_S_SRC.PORT n)))) ∧ (n < 16) ∧ (rdF s (TCH_S_STATUS.STATE n) = SF_BOUND) ∧ ((getSurface s n).contacts = []) ∧ (k.tip = true) ∧ (k.conf = true) ∧ (mapPoint s n k = (gx, gy)) ∧ (onHead v (rdF s (TCH_S_MAP2.HEAD n)) gx = (h, hx)) ∧ (findRoute s v h hx gy = some r) ∧ (routeContacts s r < rdF s (TCH_R_CFG.MAXC r)) := by decide +kernel

/-- The hypotheses of TouchInput can be met. -/
theorem witness_TouchInput_unrouted :
    let s : State := wrB (wrF runBase (TCH_S_STATUS.STATE 2) SF_BOUND) TCH_CFG.UNROUTED true; let t : Nat := 1000; let n : Nat := 2; let k : TouchPoint := { id := 4, tip := true, conf := true, x := 100, xMin := 0, xMax := 1000, y := 0, yMin := 0, yMax := 1000, pressure := none }; let gx : Nat := 0; let gy : Nat := 0; let h : Nat := 0; let hx : Nat := 0; let v : View := s.dsp.active;
    (wellFormed (.touchReport t [{ surface := n, points := [k] }]) = true) ∧ (s.pwr.phase = ResetPhase.run) ∧ (domainGood s 12 = true) ∧ (v = (if rdF s (TCH_S_SRC.PORT n) < 4 then s.dsp.active else Sparse.get [] s.tch.intView (rdF s (TCH_S_SRC.PORT n)))) ∧ (n < 16) ∧ (rdF s (TCH_S_STATUS.STATE n) = SF_BOUND) ∧ ((getSurface s n).contacts = []) ∧ (k.tip = true) ∧ (k.conf = true) ∧ (mapPoint s n k = (gx, gy)) ∧ (onHead v (rdF s (TCH_S_MAP2.HEAD n)) gx = (h, hx)) ∧ (findRoute s v h hx gy = none) ∧ (flag s TCH_CFG.UNROUTED = true) := by decide +kernel

/-- The hypotheses of TouchInput can be met. -/
theorem witness_TouchInput_silent :
    let s : State := setSurface 2 { contacts := [{ id := 4, num := some 0, route := 9, holder := 0 }] } (wrF runBase (TCH_S_STATUS.STATE 2) SF_BOUND); let t : Nat := 100000000000; let n : Nat := 2;
    (wellFormed (.surfaceSilentTimeout t n) = true) ∧ (s.pwr.phase = ResetPhase.run) ∧ (domainGood s 12 = true) ∧ ((getSurface s n).lastReport + 100000000 ≤ now (begin t s)) := by decide +kernel

/-- The hypotheses of TouchInput can be met. -/
theorem witness_TouchInput_disable :
    let s : State := wrB (setSurface 2 { contacts := [{ id := 4, num := some 0, route := 9, holder := 0 }] } (wrF runBase (TCH_S_STATUS.STATE 2) SF_BOUND)) (TCH_R_CFG.EN 9) true; let t : Nat := 1000; let r : Nat := 9; let v : Word := rd State.reset (.TCH_R_CFG 9);
    (wellFormed (.routeDisable t r v) = true) ∧ (s.pwr.phase = ResetPhase.run) ∧ (rdF s BOOT_STATUS.STAGE = 6) ∧ (admitted (Reg.fields (.TCH_R_CFG r)) v.toNat = true) ∧ (bitsOf v.toNat 6 0 < (if bit v.toNat 30 then 12 else 96)) ∧ (flag s (TCH_R_CFG.EN r) = true) ∧ (bit v.toNat 31 = false) := by decide +kernel

/-- The hypotheses of Haptics can be met. -/
theorem witness_Haptics_play :
    let s : State := (fetchedState (setLease runBase K_HAPTIC 3 { state := .held, holder := 0 }) 4 (desc OP_HAPTIC_PLAY 0 (at8 24 3 + at8 25 7 + at8 26 255 + at8 27 1))); let t : Nat := 1000; let k : Taken := takenDesc OP_HAPTIC_PLAY 1000 (fetchedState (setLease runBase K_HAPTIC 3 { state := .held, holder := 0 }) 4 (desc OP_HAPTIC_PLAY 0 (at8 24 3 + at8 25 7 + at8 26 255 + at8 27 1)));
    (wellFormed (.hapticPlay t) = true) ∧ (s.pwr.phase = ResetPhase.run) ∧ (Dispatches t s (fun o => decide (o = OP_HAPTIC_PLAY)) checkHaptic k = true) := by decide +kernel

/-- The hypotheses of Haptics can be met. -/
theorem witness_Haptics_edge :
    let s : State := wrB runBase (HAP_TRIG.EN 15) true; let t : Nat := 1000; let m : Nat := 15; let n : Nat := 0; let rising : Bool := true;
    (wellFormed (.htrigEdge t m rising) = true) ∧ (s.pwr.phase = ResetPhase.run) ∧ (rdF s BOOT_STATUS.STAGE = 6) ∧ (flag s (HAP_TRIG.EN m) = true) ∧ (safe s = false) ∧ (rdF s (HAP_TRIG.EDGE m) = 2 ∨ rdF s (HAP_TRIG.EDGE m) = (if rising then 0 else 1)) ∧ ((Sparse.get none s.hap.edgeAt m).all (fun (l : Nat) => decide (l + 2 * deglitch (rdF s (HAP_TRIG.DEGL m)) ≤ now (begin t s))) = true) ∧ (rdF s (HAP_TRIG.CHANNEL m) = n) := by decide +kernel

/-- The hypotheses of Haptics can be met. -/
theorem witness_Haptics_tick :
    let s : State := wrBit runBase .PWR_DOMAIN 13 true; let t : Nat := 20000; let sense : List CoilSense := []; let brakeUj : Nat := 0; let measuredUj : Nat := 100;
    (wellFormed (.hapticTick t sense brakeUj measuredUj) = true) ∧ (s.pwr.phase = ResetPhase.run) ∧ (s.pwr.pd0 = true) ∧ (domainGood s 13 = true) ∧ (now (begin t s) % 10000 = 0) := by decide +kernel

/-- The hypotheses of Haptics can be met. -/
theorem witness_Haptics_unpowered :
    let s : State := runBase; let t : Nat := 20000; let sense : List CoilSense := []; let brakeUj : Nat := 0; let measuredUj : Nat := 100;
    (wellFormed (.hapticTick t sense brakeUj measuredUj) = true) ∧ (s.pwr.phase = ResetPhase.run) ∧ (domainGood s 13 = false) := by decide +kernel

/-- The hypotheses of Haptics can be met. -/
theorem witness_Haptics_braking :
    let s : State := { setHap runBase 3 { brake := some 0 } with pwr := { runBase.pwr with phase := .held } }; let t : Nat := 20000; let sense : List CoilSense := [{}, {}, {}, { bemf := 30000 }]; let brakeUj : Nat := 0; let measuredUj : Nat := 0; let n : Nat := 3; let b : Nat := 0;
    (wellFormed (.hapticTick t sense brakeUj measuredUj) = true) ∧ (s.pwr.pd0 = true) ∧ (s.pwr.phase ≠ ResetPhase.run) ∧ (now (begin t s) % 10000 = 0) ∧ (n < 16) ∧ ((getHap s n).drive = none) ∧ ((getHap s n).brake = some b) ∧ ((getHap s n).brakeAgo + 10000 < 4000000) ∧ (rdF s (HAP_K_DET.STOP_MV n) ≤ (sense.getD n {}).bemf.natAbs) := by decide +kernel

/-- The hypotheses of Haptics can be met. -/
theorem witness_Haptics_between :
    let s : State := runBase; let t : Nat := 20001; let sense : List CoilSense := []; let brakeUj : Nat := 0; let measuredUj : Nat := 100;
    (wellFormed (.hapticTick t sense brakeUj measuredUj) = true) ∧ (s.pwr.phase = ResetPhase.run) ∧ (now (begin t s) % 10000 ≠ 0) := by decide +kernel

/-- The hypotheses of Haptics can be met. -/
theorem witness_Haptics_driveEnd :
    let s : State := setHap (wrF (wrB runBase (HAP_K_CFG.EN 3) true) (HAP_K_STATUS.STATE 3) HK_IDLE) 3 { drive := some ({ pin := none, fn := 0, q := 0, id := 1, effect := 0, gain := 255, prio := 1, stamp := 0 }, 5) }; let t : Nat := 100000000000; let n : Nat := 3; let d : Nat := 5; let r : HapReq := { pin := none, fn := 0, q := 0, id := 1, effect := 0, gain := 255, prio := 1, stamp := 0 };
    (wellFormed (.driveEnd t n) = true) ∧ (s.pwr.phase = ResetPhase.run) ∧ ((getHap s n).drive = some (r, d)) ∧ (d + effectMs r * 1000000 ≤ now (begin t s)) := by decide +kernel

/-- The hypotheses of Haptics can be met. -/
theorem witness_Haptics_brakeEnd :
    let s : State := setHap (wrF (wrB runBase (HAP_K_CFG.EN 3) true) (HAP_K_STATUS.STATE 3) HK_IDLE) 3 { brake := some 5 }; let t : Nat := 4010000; let n : Nat := 3; let b : Nat := 5; let bemf : Int := 0;
    (wellFormed (.brakeEnd t n bemf) = true) ∧ (s.pwr.phase = ResetPhase.run) ∧ ((getHap s n).brake = some b) ∧ ((getHap s n).latch = none) ∧ (now (begin t s) % 10000 = 0) ∧ (((b < now (begin t s) ∨ 0 < (getHap s n).brakeAgo) ∧ bemf.natAbs < rdF s (HAP_K_DET.STOP_MV n)) ∨ b + 4000000 ≤ now (begin t s) + (getHap s n).brakeAgo) := by decide +kernel

/-- The hypotheses of Haptics can be met. -/
theorem witness_Haptics_latched :
    let s : State := setHap (wrF (wrB runBase (HAP_K_CFG.EN 3) true) (HAP_K_STATUS.STATE 3) HK_IDLE) 3 { brake := some 5, latch := some { pin := none, fn := 0, q := 0, id := 1, effect := 0, gain := 255, prio := 1, stamp := 0 } }; let t : Nat := 4010000; let n : Nat := 3; let b : Nat := 5; let bemf : Int := 0; let r : HapReq := { pin := none, fn := 0, q := 0, id := 1, effect := 0, gain := 255, prio := 1, stamp := 0 };
    (wellFormed (.brakeEnd t n bemf) = true) ∧ (s.pwr.phase = ResetPhase.run) ∧ ((getHap s n).brake = some b) ∧ ((getHap s n).latch = some r) ∧ (now (begin t s) % 10000 = 0) ∧ (((b < now (begin t s) ∨ 0 < (getHap s n).brakeAgo) ∧ bemf.natAbs < rdF s (HAP_K_DET.STOP_MV n)) ∨ b + 4000000 ≤ now (begin t s) + (getHap s n).brakeAgo) := by decide +kernel

/-- The hypotheses of Haptics can be met. -/
theorem witness_Haptics_overcurrent :
    let s : State := setHap (wrF (wrB runBase (HAP_K_CFG.EN 3) true) (HAP_K_STATUS.STATE 3) HK_IDLE) 3 { drive := some ({ pin := none, fn := 0, q := 0, id := 1, effect := 0, gain := 255, prio := 1, stamp := 0 }, 5) }; let t : Nat := 1000; let n : Nat := 3;
    (wellFormed (.hapticOvercurrent t n) = true) ∧ (s.pwr.phase = ResetPhase.run) ∧ (hapOn s n = true) := by decide +kernel

/-- The hypotheses of PowerInput can be met. -/
theorem witness_PowerInput_brownOut :
    let s : State := runBase; let t : Nat := 1000; let vin : Nat := 5499; let store : Nat := 40000; let iin : Nat := 900;
    (wellFormed (.brownOut t vin store iin) = true) ∧ (s.pwr.pd0 = true) ∧ (vin < 5500) ∧ (flag s PWR_STATUS.BROWNOUT = false) := by decide +kernel

/-- The hypotheses of PowerInput can be met. -/
theorem witness_PowerInput_over :
    let s : State := runBase; let t : Nat := 1000; let vin : Nat := 42001; let store : Nat := 40000; let iin : Nat := 900;
    (wellFormed (.overvoltage t vin store iin) = true) ∧ (s.pwr.pd0 = true) ∧ (42000 < vin) := by decide +kernel

/-- The hypotheses of PowerInput can be met. -/
theorem witness_PowerInput_recovered :
    let s : State := { wrB runBase PWR_STATUS.BROWNOUT true with pwr := { runBase.pwr with rideAt := some (some 9), openSwitch := true } }; let t : Nat := 1000; let vin : Nat := 6000; let store : Nat := 40000; let iin : Nat := 900; let r : Option Nat := some 9;
    (wellFormed (.vinRecovered t vin store iin) = true) ∧ (s.pwr.pd0 = true) ∧ (6000 ≤ vin) ∧ (vin ≤ 40000) ∧ (flag s PWR_STATUS.BROWNOUT = true) ∧ (s.pwr.rideAt = some r) := by decide +kernel

/-- The hypotheses of PowerInput can be met. -/
theorem witness_PowerInput_ride :
    let s : State := { wrB runBase PWR_STATUS.BROWNOUT true with pwr := { runBase.pwr with rideAt := some (some 9) } }; let t : Nat := 10000009; let r : Option Nat := some 9;
    (wellFormed (.rideThroughExpiry t) = true) ∧ (s.pwr.pd0 = true) ∧ (s.pwr.phase = ResetPhase.run) ∧ (s.pwr.rideAt = some r) ∧ (flag s PWR_STATUS.BROWNOUT = true) ∧ (r.all (fun (x : Nat) => decide (x + 10000000 ≤ now (begin t s))) = true) := by decide +kernel

/-- The hypotheses of PowerInput can be met. -/
theorem witness_PowerInput_ride_also :
    let s : State := { wrB runBase PWR_STATUS.BROWNOUT true with pwr := { runBase.pwr with rideAt := some none } }; let t : Nat := 5; let r : Option Nat := none;
    (wellFormed (.rideThroughExpiry t) = true) ∧ (s.pwr.pd0 = true) ∧ (s.pwr.phase = ResetPhase.run) ∧ (s.pwr.rideAt = some r) ∧ (flag s PWR_STATUS.BROWNOUT = true) ∧ (r.all (fun (x : Nat) => decide (x + 10000000 ≤ now (begin t s))) = true) := by decide +kernel

/-- The hypotheses of PowerInput can be met. -/
theorem witness_PowerInput_enLow :
    let s : State := runBase; let t : Nat := 1000;
    (wellFormed (.pwrEnLow t) = true) ∧ (s.pwr.pd0 = true) ∧ (s.pwr.phase = ResetPhase.run) := by decide +kernel

/-- The hypotheses of PowerInput can be met. -/
theorem witness_PowerInput_loss :
    let s : State := runBase; let t : Nat := 1000; let vin : Nat := 5199; let store : Nat := 8999; let iin : Nat := 900;
    (wellFormed (.pd0PowerLoss t vin store iin) = true) ∧ (s.pwr.pd0 = true) ∧ (vin < 5200) ∧ (store < 9000) := by decide +kernel

/-- The hypotheses of PowerInput can be met. -/
theorem witness_PowerInput_pd0 :
    let s : State := { runBase with pwr := { runBase.pwr with pd0 := false } }; let t : Nat := 1000; let vin : Nat := 5800; let store : Nat := 0; let iin : Nat := 900;
    (wellFormed (.pd0PowerUp t vin store iin) = true) ∧ (s.pwr.pd0 = false) ∧ (5800 ≤ vin ∨ 9000 < store) := by decide +kernel

/-- The hypotheses of PowerInput can be met. -/
theorem witness_PowerInput_rise :
    let s : State := { runBase with pwr := { runBase.pwr with phase := .held, kept := false, pwrEn := false} }; let t : Nat := 1000; let vin : Nat := 6000; let store : Nat := 34000; let iin : Nat := 900;
    (wellFormed (.pwrEnRise t vin store iin) = true) ∧ (flag s PWR_STATUS.BROWNOUT = false) ∧ (6000 ≤ vin) ∧ (vin ≤ 40000) ∧ (34000 ≤ store) ∧ (s.pwr.pd0 = true) ∧ (s.pwr.phase = ResetPhase.held) ∧ (s.pwr.kept = false) ∧ (s.pwr.seq = []) ∧ (s.pwr.hot = false) ∧ (s.pwr.openSwitch = false) := by decide +kernel

/-- The hypotheses of PowerInput can be met. -/
theorem witness_PowerInput_start :
    let s : State := { runBase with pwr := { runBase.pwr with phase := .held, kept := false, } }; let t : Nat := 1000; let vin : Nat := 40000; let store : Nat := 34000; let iin : Nat := 900;
    (wellFormed (.startAllowed t vin store iin) = true) ∧ (flag s PWR_STATUS.BROWNOUT = false) ∧ (6000 ≤ vin) ∧ (vin ≤ 40000) ∧ (34000 ≤ store) ∧ (s.pwr.pd0 = true) ∧ (s.pwr.phase = ResetPhase.held) ∧ (s.pwr.kept = false) ∧ (s.pwr.seq = []) ∧ (s.pwr.hot = false) ∧ (s.pwr.openSwitch = false) ∧ (s.pwr.pwrEn = true) := by decide +kernel

/-- The hypotheses of PowerInput can be met. -/
theorem witness_PowerInput_cool :
    let s : State := { runBase with pwr := { runBase.pwr with phase := .held, kept := false, hot := true} }; let t : Nat := 1000; let vin : Nat := 6000; let store : Nat := 34000; let iin : Nat := 900;
    (wellFormed (.thermalRecovery t vin store iin) = true) ∧ (flag s PWR_STATUS.BROWNOUT = false) ∧ (6000 ≤ vin) ∧ (vin ≤ 40000) ∧ (34000 ≤ store) ∧ (s.pwr.pd0 = true) ∧ (s.pwr.phase = ResetPhase.held) ∧ (s.pwr.kept = false) ∧ (s.pwr.seq = []) ∧ (s.pwr.openSwitch = false) ∧ (s.pwr.pwrEn = true) := by decide +kernel

/-- The hypotheses of PowerDomains can be met. -/
theorem witness_PowerDomains_good :
    let s : State := { State.reset with pwr := { State.reset.pwr with phase := .held, kept := false, seq := [1, 2, 4, 5, 3, 6, 12] } }; let t : Nat := 1000; let d : Nat := 1;
    (wellFormed (.domainGood t d) = true) ∧ (s.pwr.pd0 = true) ∧ (s.pwr.rising = []) ∧ (s.pwr.seq.head? = some d) ∧ (d ≠ 2) := by decide +kernel

/-- The hypotheses of PowerDomains can be met. -/
theorem witness_PowerDomains_second :
    let s : State := { State.reset with pwr := { State.reset.pwr with phase := .first, kept := false, seq := [2, 4, 5, 3, 6, 12] } }; let t : Nat := 1000;
    (wellFormed (.domainGood t 2) = true) ∧ (s.pwr.pd0 = true) ∧ (s.pwr.rising = []) ∧ (s.pwr.seq.head? = some 2) ∧ (s.pwr.phase = ResetPhase.first) := by decide +kernel

/-- The hypotheses of PowerDomains can be met. -/
theorem witness_PowerDomains_release1 :
    let s : State := { runBase with pwr := { runBase.pwr with phase := .held } }; let t : Nat := 1000;
    (wellFormed (.resetStageRelease t) = true) ∧ (s.pwr.pd0 = true) ∧ (s.pwr.kept = true) ∧ (s.pwr.phase = ResetPhase.held) := by decide +kernel

/-- The hypotheses of PowerDomains can be met. -/
theorem witness_PowerDomains_release2 :
    let s : State := { runBase with pwr := { runBase.pwr with phase := .first } }; let t : Nat := 1000;
    (wellFormed (.resetStageRelease t) = true) ∧ (s.pwr.pd0 = true) ∧ (s.pwr.kept = true) ∧ (s.pwr.phase = ResetPhase.first) ∧ (domainGood s 2 = true) := by decide +kernel

/-- The hypotheses of PowerDomains can be met. -/
theorem witness_PowerDomains_gate :
    let s : State := wrBit runBase .PWR_DOMAIN 11 true; let t : Nat := 100000000; let d : Nat := 11;
    (wellFormed (.renderGateIdle t d) = true) ∧ (s.pwr.phase = ResetPhase.run) ∧ (flag s PWR_CTRL.RENDER_GATE = true) ∧ (d = 10 ∨ d = 11) ∧ (domainBusy s (d - 10) = false) ∧ (Sparse.get 0 s.rnd.idleSince (d - 10) + rdF s PWR_CTRL.GATE_IDLE_US * 1000 ≤ now (begin t s)) := by decide +kernel

/-- The hypotheses of PowerDomains can be met. -/
theorem witness_PowerDomains_sample :
    let s : State := runBase; let t : Nat := 1000; let die : DieSensors := { render0 := -20, memory := 40 }; let tMod : Int := -40; let x : Int := 40;
    (wellFormed (.thermalSample t die tMod) = true) ∧ (s.pwr.phase ≠ ResetPhase.held) ∧ (dieHighest die = x) ∧ (x < 115) := by decide +kernel

/-- The hypotheses of PowerDomains can be met. -/
theorem witness_PowerDomains_hot :
    let s : State := runBase; let t : Nat := 1000; let die : DieSensors := { shallot := 115 }; let tMod : Int := 60;
    (wellFormed (.thermalSample t die tMod) = true) ∧ (s.pwr.phase ≠ ResetPhase.held) ∧ (115 ≤ dieHighest die) ∧ (s.pwr.hotFault = false) ∧ (flag s SHL_STATUS.SAFE = false) := by decide +kernel

/-- The hypotheses of PowerDomains can be met. -/
theorem witness_PowerDomains_throttle :
    let s : State := runBase; let t : Nat := 1000; let die : DieSensors := { cores := 100 }; let tMod : Int := 60;
    (wellFormed (.thermalSample t die tMod) = true) ∧ (s.pwr.phase ≠ ResetPhase.held) ∧ (((rdF s PWR_THROTTLE.THROTTLE_C : Nat) : Int) ≤ dieHighest die) ∧ (s.pwr.stepAt = none) ∧ (rdF s PWR_THROTTLE.STEP < 5) := by decide +kernel

/-- The hypotheses of PowerDomains can be met. -/
theorem witness_PowerDomains_trip :
    let s : State := runBase; let t : Nat := 1000; let tDie : Int := 124; let tMod : Int := 110;
    (wellFormed (.thermalTrip t tDie tMod) = true) ∧ (s.pwr.pd0 = true) ∧ (s.pwr.phase = ResetPhase.run) ∧ (125 ≤ tDie ∨ 110 ≤ tMod) := by decide +kernel

/-- The hypotheses of PowerDomains can be met. -/
theorem witness_PowerDomains_1 :
    let s : State := { State.reset with pwr := { State.reset.pwr with phase := .first, kept := false, seq := [2, 4, 5, 3, 6, 12] } }; let t : Nat := 1000; let d : Nat := 2;
    (wellFormed (.domainGoodTimeout t d true) = true) ∧ (s.pwr.pd0 = true) ∧ (s.pwr.seq.head? = some d) ∧ (s.pwr.phase ≠ ResetPhase.run) := by decide +kernel

/-- The hypotheses of ModuleResetWrite can be met. -/
theorem witness_ModuleResetWrite_go :
    let s : State := wrB (wrB runBase ID_LOCK.SETUP_LOCK true) SHL_STATUS.SAFE true; let t : Nat := 1000; let v : Word := 0x80005EED;
    (wellFormed (.pwrReset t v) = true) ∧ (s.pwr.phase = ResetPhase.run) ∧ (v.toNat % 65536 = 0x5EED) ∧ (bit v.toNat 31 = true) := by decide +kernel

/-- The hypotheses of ModuleResetWrite can be met. -/
theorem witness_ModuleResetWrite_key :
    let s : State := runBase; let t : Nat := 1000; let v : Word := 0x80005EEC;
    (wellFormed (.pwrReset t v) = true) ∧ (s.pwr.phase = ResetPhase.run) ∧ (v.toNat % 65536 ≠ 0x5EED) := by decide +kernel

/-- The hypotheses of HostResets can be met. -/
theorem witness_HostResets_reset :
    let s : State := { runBase with host := { runBase.host with vfEnable := true, numVFs := 8 } }; let t : Nat := 1000; let kind : Nat := 0;
    (wellFormed (.conventionalPcieReset t kind) = true) ∧ (s.pwr.phase = ResetPhase.run) ∧ (s.host.perst = false) ∧ (s.host.convAt ≠ some (now (begin t s))) := by decide +kernel

/-- The hypotheses of HostResets can be met. -/
theorem witness_HostResets_pin :
    let t : Nat := 1000;
    (wellFormed (.conventionalPcieReset t 0) = true) := by decide +kernel

/-- The hypotheses of HostResets can be met. -/
theorem witness_HostResets_riseInReset :
    let s : State := { runBase with host := { runBase.host with perst := true }, pwr := { runBase.pwr with phase := .held } }; let t : Nat := 1000;
    (wellFormed (.perstNRise t) = true) ∧ (s.host.perst = true) ∧ (s.pwr.phase ≠ ResetPhase.run) := by decide +kernel

/-- The hypotheses of HostResets can be met. -/
theorem witness_HostResets_rise :
    let s : State := { runBase with host := { runBase.host with perst := true } }; let t : Nat := 1000;
    (wellFormed (.perstNRise t) = true) ∧ (s.pwr.phase = ResetPhase.run) ∧ (s.host.perst = true) := by decide +kernel

/-- The hypotheses of StartSteps can be met. -/
theorem witness_StartSteps_noImage :
    let s : State := storedState; let t : Nat := 1000; let oks : List Bool := [];
    (wellFormed (.bootStart t true oks) = true) ∧ (s.pwr.phase = ResetPhase.run) ∧ (stage s = 0) ∧ (s.boot.begun = false) ∧ ((newest s).isSome = true) ∧ ((record s).attempts < 3) ∧ (imageIn s.flash.a SLOT_OFS SLOT_SIZE = none) ∧ (imageIn s.flash.b SLOT_OFS SLOT_SIZE = none) ∧ (oks.getD 0 true = true) ∧ (oks.getD 1 true = true) := by decide +kernel

/-- The hypotheses of StartSteps can be met. -/
theorem witness_StartSteps_slot :
    let s : State := storedState; let t : Nat := 1000; let oks : List Bool := [];
    (wellFormed (.bootStart t true oks) = true) ∧ (s.pwr.phase = ResetPhase.run) ∧ (stage s = 0) ∧ (s.boot.begun = false) ∧ ((newest s).isSome = true) ∧ ((record s).attempts < 3) ∧ (oks.getD 0 true = true) ∧ (oks.getD 1 true = true) := by decide +kernel

/-- The hypotheses of StartSteps can be met. -/
theorem witness_StartSteps_pll :
    let s : State := State.reset; let t : Nat := 1000; let oks : List Bool := [];
    (wellFormed (.bootStart t false oks) = true) ∧ (s.pwr.phase = ResetPhase.run) ∧ (stage s = 0) ∧ (s.boot.begun = false) ∧ (oks.getD 0 true = true) := by decide +kernel

/-- The hypotheses of StartSteps can be met. -/
theorem witness_StartSteps_loader :
    let s : State := wrF State.reset BOOT_STATUS.STAGE 1; let t : Nat := 1000; let o : BootOutcome := {};
    (wellFormed (.bootStageComplete t o) = true) ∧ (s.pwr.phase = ResetPhase.run) ∧ (stage s = 1) ∧ (o.selfTest = true) := by decide +kernel

/-- The hypotheses of StartSteps can be met. -/
theorem witness_StartSteps_selfTest :
    let s : State := wrF State.reset BOOT_STATUS.STAGE 1; let t : Nat := 1000; let o : BootOutcome := { selfTest := false };
    (wellFormed (.bootStageComplete t o) = true) ∧ (s.pwr.phase = ResetPhase.run) ∧ (stage s = 1) ∧ (o.selfTest = false) ∧ (o.store.getD 0 true = true) := by decide +kernel

/-- The hypotheses of StartSteps can be met. -/
theorem witness_StartSteps_staging :
    let s : State := wrF State.reset BOOT_STATUS.STAGE 2; let t : Nat := 1000; let o : BootOutcome := {};
    (wellFormed (.bootStageComplete t o) = true) ∧ (s.pwr.phase = ResetPhase.run) ∧ (stage s = 2) ∧ ((record s).staged = 0) := by decide +kernel

/-- The hypotheses of StartSteps can be met. -/
theorem witness_StartSteps_memory :
    let s : State := wrF State.reset BOOT_STATUS.STAGE 3; let t : Nat := 1000; let o : BootOutcome := {};
    (wellFormed (.bootStageComplete t o) = true) ∧ (s.pwr.phase = ResetPhase.run) ∧ (stage s = 3) ∧ ((List.range 4).all (fun c => !(trainsInFull o s c) || fullTraining o c) = true) ∧ (o.store.getD 0 true = true) := by decide +kernel

/-- The hypotheses of StartSteps can be met. -/
theorem witness_StartSteps_training :
    let s : State := wrF State.reset BOOT_STATUS.STAGE 3; let t : Nat := 1000; let o : BootOutcome := { tries := [[false, false, false]] };
    (wellFormed (.bootStageComplete t o) = true) ∧ (s.pwr.phase = ResetPhase.run) ∧ (stage s = 3) ∧ ((List.range 4).any (fun c => trainsInFull o s c && !(fullTraining o c)) = true) ∧ (o.store.getD 0 true = true) := by decide +kernel

/-- The hypotheses of StartSteps can be met. -/
theorem witness_StartSteps_firmware :
    let s : State := wrF State.reset BOOT_STATUS.STAGE 4; let t : Nat := 1000; let o : BootOutcome := {};
    (wellFormed (.bootStageComplete t o) = true) ∧ (s.pwr.phase = ResetPhase.run) ∧ (stage s = 4) ∧ (o.store.getD 0 true = true) := by decide +kernel

/-- The hypotheses of StartSteps can be met. -/
theorem witness_StartSteps_noBlob :
    let s : State := wrF State.reset BOOT_STATUS.STAGE 5; let t : Nat := 1000; let o : BootOutcome := {};
    (wellFormed (.bootStageComplete t o) = true) ∧ (s.pwr.phase = ResetPhase.run) ∧ (stage s = 5) ∧ (s.boot.setupDone = false) ∧ (imageIn s.flash.a BLOB_OFS BLOB_SIZE = none) ∧ (o.store.getD 0 true = true) := by decide +kernel

/-- The hypotheses of StartSteps can be met. -/
theorem witness_StartSteps_digest :
    let s : State := (fun (x : State) => { x with  flash := { x.flash with a := [(BLOB_OFS, 0x4C), (BLOB_OFS + 1, 0x4D), (BLOB_OFS + 2, 0x49), (BLOB_OFS + 3, 0x47), (BLOB_OFS + 12, 0), (BLOB_OFS + 13, 0), (BLOB_OFS + 14, 0), (BLOB_OFS + 15, 0)] } }) (wrF State.reset BOOT_STATUS.STAGE 5); let t : Nat := 1000; let o : BootOutcome := {};
    (wellFormed (.bootStageComplete t o) = true) ∧ (s.pwr.phase = ResetPhase.run) ∧ (stage s = 5) ∧ (s.boot.setupDone = false) ∧ (o.store.getD 0 true = true) ∧ ((imageIn s.flash.a BLOB_OFS BLOB_SIZE).isSome = true) := by decide +kernel

/-- The hypotheses of StartSteps can be met. -/
theorem witness_StartSteps_section :
    let s : State := (fun (x : State) => { x with  flash := { x.flash with a := [(BLOB_OFS, 0x4C), (BLOB_OFS + 1, 0x4D), (BLOB_OFS + 2, 0x49), (BLOB_OFS + 3, 0x47), (BLOB_OFS + 12, 0), (BLOB_OFS + 13, 0), (BLOB_OFS + 14, 0), (BLOB_OFS + 15, 0)] } }) (wrF State.reset BOOT_STATUS.STAGE 5); let t : Nat := 1000; let o : BootOutcome := {};
    (wellFormed (.bootStageComplete t o) = true) ∧ (s.pwr.phase = ResetPhase.run) ∧ (stage s = 5) ∧ (s.boot.setupDone = false) ∧ (o.store.getD 0 true = true) ∧ ((imageIn s.flash.a BLOB_OFS BLOB_SIZE).isSome = true) := by decide +kernel

/-- The hypotheses of StartSteps can be met. -/
theorem witness_StartSteps_setup :
    let s : State := (fun (x : State) => { x with  flash := { x.flash with a := [(BLOB_OFS, 0x4C), (BLOB_OFS + 1, 0x4D), (BLOB_OFS + 2, 0x49), (BLOB_OFS + 3, 0x47), (BLOB_OFS + 12, 0), (BLOB_OFS + 13, 0), (BLOB_OFS + 14, 0), (BLOB_OFS + 15, 0)] } }) (wrF State.reset BOOT_STATUS.STAGE 5); let t : Nat := 1000; let o : BootOutcome := {};
    (wellFormed (.bootStageComplete t o) = true) ∧ (s.pwr.phase = ResetPhase.run) ∧ (stage s = 5) ∧ (s.boot.setupDone = false) ∧ (o.store.getD 0 true = true) ∧ ((imageIn s.flash.a BLOB_OFS BLOB_SIZE).isSome = true) := by decide +kernel

/-- The hypotheses of StartSteps can be met. -/
theorem witness_StartSteps_run :
    let s : State := (fun (x : State) => { x with boot := { x.boot with setupDone := true }, flash := { x.flash with a := [(BLOB_OFS, 0x4C), (BLOB_OFS + 1, 0x4D), (BLOB_OFS + 2, 0x49), (BLOB_OFS + 3, 0x47), (BLOB_OFS + 12, 0), (BLOB_OFS + 13, 0), (BLOB_OFS + 14, 0), (BLOB_OFS + 15, 0)] } }) (wrF State.reset BOOT_STATUS.STAGE 5); let t : Nat := 1000; let o : BootOutcome := {};
    (wellFormed (.bootStageComplete t o) = true) ∧ (s.pwr.phase = ResetPhase.run) ∧ (stage s = 5) ∧ (s.boot.setupDone = true) ∧ (o.store.getD 0 true = true) ∧ ((imageIn s.flash.a BLOB_OFS BLOB_SIZE).isSome = true) := by decide +kernel

/-- The hypotheses of StartSteps can be met. -/
theorem witness_StartSteps_deadline :
    let s : State := State.reset; let t : Nat := 3000000000;
    (wellFormed (.startDeadline t true) = true) ∧ (s.pwr.phase = ResetPhase.run) ∧ (starting s = true) ∧ (3000000000 + s.boot.copyNs ≤ now (begin t s)) := by decide +kernel

/-- The hypotheses of StartSteps can be met. -/
theorem witness_StartSteps_retry :
    let s : State := runBase; let t : Nat := 1000; let v : Word := 0x80005EED;
    (wellFormed (.retry t v true) = true) ∧ (s.pwr.phase = ResetPhase.run) ∧ (v.toNat % 65536 = 0x5EED) ∧ (bit v.toNat 31 = true) ∧ (bit v.toNat 30 = false) := by decide +kernel

/-- The hypotheses of StartSteps can be met. -/
theorem witness_StartSteps_seedling :
    let s : State := runBase; let t : Nat := 1000; let v : Word := 0x40005EED;
    (wellFormed (.seedling t v true) = true) ∧ (s.pwr.phase = ResetPhase.run) ∧ (v.toNat % 65536 = 0x5EED) ∧ (bit v.toNat 30 = true) ∧ (bit v.toNat 31 = false) ∧ (updState s ≠ INSTALLING) := by decide +kernel

/-- The hypotheses of StartSteps can be met. -/
theorem witness_StartSteps_waits :
    let s : State := wrF runBase UPD_STATUS.STATE INSTALLING; let t : Nat := 1000; let v : Word := 0x40005EED; let ok : Bool := true;
    (wellFormed (.seedling t v ok) = true) ∧ (s.pwr.phase = ResetPhase.run) ∧ (v.toNat % 65536 = 0x5EED) ∧ (bit v.toNat 30 = true) ∧ (bit v.toNat 31 = false) ∧ (updState s = INSTALLING) := by decide +kernel

/-- The hypotheses of StartSteps can be met. -/
theorem witness_StartSteps_cores :
    let s : State := runBase; let t : Nat := 1000; let ok : Bool := true;
    (wellFormed (.controlCoreWdExpiry t ok true) = true) ∧ (s.pwr.phase = ResetPhase.run) ∧ (rdF s BOOT_STATUS.STAGE = 6) ∧ (isRetired s U_CORES 0 = false) := by decide +kernel

/-- The hypotheses of StartSteps can be met. -/
theorem witness_StartSteps_coresInStart :
    let s : State := wrF State.reset BOOT_STATUS.STAGE 1; let t : Nat := 1000; let taken : Bool := true;
    (wellFormed (.controlCoreWdExpiry t true taken) = true) ∧ (s.pwr.phase = ResetPhase.run) ∧ (1 ≤ stage s) ∧ (starting s = true) := by decide +kernel

/-- The hypotheses of StartSteps can be met. -/
theorem witness_StartSteps_cut :
    let s : State := { runBase with fab := { runBase.fab with batch := some { seq := 1, count := 2, todo := [cmdWord 3 3 0 0, cmdWord 3 4 0 0], results := [], current := none, wait := .none, dropped := false } } }; let t : Nat := 1000; let ok : Bool := true; let b : Batch := s.fab.batch.getD { seq := 1, count := 2, todo := [], results := [], current := none, wait := .none, dropped := false }; let c : Rec32 := cmdWord 3 3 0 0; let d : Rec32 := cmdWord 3 4 0 0; let rest : List Rec32 := [];
    (wellFormed (.controlCoreWdExpiry t ok false) = true) ∧ (s.pwr.phase = ResetPhase.run) ∧ (rdF s BOOT_STATUS.STAGE = 6) ∧ (s.fab.batch = some b) ∧ (b.current = none) ∧ (b.todo = c :: d :: rest) ∧ (knownCommand (cOpcode d) = true) := by decide +kernel

/-- The hypotheses of FieldUpdate can be met. -/
theorem witness_FieldUpdate_begin :
    let s : State := (fun (x : State) => { x with upd := { x.upd with kept := [1] } }) (wrF runBase UPD_STATUS.STATE COMPLETE); let t : Nat := 1000; let src : Nat := 0;
    (wellFormed (.updBegin t src true) = true) ∧ (s.pwr.phase = ResetPhase.run) ∧ (updState s ≠ INSTALLING) := by decide +kernel

/-- The hypotheses of FieldUpdate can be met. -/
theorem witness_FieldUpdate_cancel :
    let s : State := (fun (x : State) => { x with upd := { x.upd with kept := [1] } }) (wrF runBase UPD_STATUS.STATE COMPLETE); let t : Nat := 1000;
    (wellFormed (.updCancel t true) = true) ∧ (s.pwr.phase = ResetPhase.run) ∧ (updState s ≠ INSTALLING) := by decide +kernel

/-- The hypotheses of FieldUpdate can be met. -/
theorem witness_FieldUpdate_xfer :
    let s : State := (fun (x : State) => { x with upd := { x.upd with kept := [] } }) (wrF runBase UPD_STATUS.STATE RECEIVING); let t : Nat := 1000; let v : Word := 0x85FF0000; let i : Nat := 767; let len : Nat := 65536;
    (wellFormed (.updXfer t v) = true) ∧ (s.pwr.phase = ResetPhase.run) ∧ (bitsOf v.toNat 26 17 = i) ∧ (bitsOf v.toNat 16 0 = len) ∧ (bit v.toNat 31 = true) ∧ (i ≤ 767) ∧ (1 ≤ len) ∧ (len ≤ 65536) ∧ (i = 0 ∨ len = 65536) ∧ (rdF s UPD_XFER_RESULT.RESULT ≠ 0xFF) ∧ (updState s = RECEIVING) ∧ (flag s UPD_STATUS.SRC = false) := by decide +kernel

/-- The hypotheses of FieldUpdate can be met. -/
theorem witness_FieldUpdate_readFailed :
    let s : State := (fun (x : State) => { x with upd := { x.upd with xfer := some (0, 5, 9) } }) (wrF runBase UPD_STATUS.STATE RECEIVING); let t : Nat := 1000; let data : List Byte := []; let progOk : Bool := true; let ok : Bool := true;
    (wellFormed (.updXferComplete t data false progOk ok) = true) ∧ (s.pwr.phase = ResetPhase.run) ∧ (s.upd.xfer.isSome = true) := by decide +kernel

/-- The hypotheses of FieldUpdate can be met. -/
theorem witness_FieldUpdate_again :
    let s : State := (fun (x : State) => { x with upd := { x.upd with xfer := some (0, 1, 9), manifest := some [5] } }) (wrF runBase UPD_STATUS.STATE RECEIVING); let t : Nat := 1000; let data : List Byte := [7]; let progOk : Bool := true; let ok : Bool := true; let len : Nat := 1; let a : Nat := 9;
    (wellFormed (.updXferComplete t data true progOk ok) = true) ∧ (s.pwr.phase = ResetPhase.run) ∧ (s.upd.xfer = some (0, len, a)) ∧ (data.length = len) ∧ (updState s = RECEIVING) ∧ (flag s UPD_STATUS.SRC = false) ∧ (s.upd.manifest.isSome = true) := by decide +kernel

/-- The hypotheses of FieldUpdate can be met. -/
theorem witness_FieldUpdate_install :
    let s : State := (fun (x : State) => { x with upd := { x.upd with manifest := some (List.replicate 6 0 ++ [1] ++ List.replicate 413 0) } }) (wrF runBase UPD_STATUS.STATE COMPLETE); let t : Nat := 1000; let m : List Byte := List.replicate 6 0 ++ [1] ++ List.replicate 413 0;
    (wellFormed (.updInstall t) = true) ∧ (s.pwr.phase = ResetPhase.run) ∧ (updState s = COMPLETE) ∧ (s.upd.manifest = some m) ∧ ((mfComponents m).all (fun (c : Component) => decide (c.len ≤ targetSize c.type)) = true) := by decide +kernel

/-- The hypotheses of FieldUpdate can be met. -/
theorem witness_FieldUpdate_installed :
    let s : State := (fun (x : State) => { x with upd := { x.upd with manifest := some (List.replicate 6 0 ++ [1] ++ List.replicate 413 0) } }) (wrF runBase UPD_STATUS.STATE INSTALLING); let t : Nat := 1000; let m : List Byte := List.replicate 6 0 ++ [1] ++ List.replicate 413 0; let progOk : Bool := true;
    (wellFormed (.installComplete t progOk true) = true) ∧ (s.pwr.phase = ResetPhase.run) ∧ (updState s = INSTALLING) ∧ (s.upd.manifest = some m) ∧ (s.upd.seedling = false) := by decide +kernel

/-- The hypotheses of ManagementPort can be met. -/
theorem witness_ManagementPort_start :
    let s : State := runBase; let t : Nat := 1000;
    (wellFormed (.coapUpdateStart t true true) = true) ∧ (s.pwr.phase = ResetPhase.run) ∧ (mgmtLive s = true) ∧ (updState s ≠ INSTALLING) ∧ (updState s = RECEIVING → flag s UPD_STATUS.SRC = true) := by decide +kernel

/-- The hypotheses of ManagementPort can be met. -/
theorem witness_ManagementPort_start_also :
    let s : State := (fun (x : State) => { x with upd := { x.upd with kept := [1] } }) (wrF runBase UPD_STATUS.STATE COMPLETE); let t : Nat := 1000;
    (wellFormed (.coapUpdateStart t true true) = true) ∧ (s.pwr.phase = ResetPhase.run) ∧ (mgmtLive s = true) ∧ (updState s ≠ INSTALLING) ∧ (updState s = RECEIVING → flag s UPD_STATUS.SRC = true) := by decide +kernel

/-- The hypotheses of ManagementPort can be met. -/
theorem witness_ManagementPort_start_also2 :
    let s : State := (fun (x : State) => { x with upd := { x.upd with kept := [1] } }) (wrF runBase UPD_STATUS.STATE INSTALLED); let t : Nat := 1000;
    (wellFormed (.coapUpdateStart t true true) = true) ∧ (s.pwr.phase = ResetPhase.run) ∧ (mgmtLive s = true) ∧ (updState s ≠ INSTALLING) ∧ (updState s = RECEIVING → flag s UPD_STATUS.SRC = true) := by decide +kernel

/-- The hypotheses of ManagementPort can be met. -/
theorem witness_ManagementPort_start_also3 :
    let s : State := wrB ((fun (x : State) => { x with upd := { x.upd with kept := [1] } }) (wrF runBase UPD_STATUS.STATE RECEIVING)) UPD_STATUS.SRC true; let t : Nat := 1000;
    (wellFormed (.coapUpdateStart t true true) = true) ∧ (s.pwr.phase = ResetPhase.run) ∧ (mgmtLive s = true) ∧ (updState s ≠ INSTALLING) ∧ (updState s = RECEIVING → flag s UPD_STATUS.SRC = true) := by decide +kernel

/-- The hypotheses of ManagementPort can be met. -/
theorem witness_ManagementPort_conflict :
    let s : State := (fun (x : State) => { x with upd := { x.upd with kept := [] } }) (wrF runBase UPD_STATUS.STATE RECEIVING); let t : Nat := 1000; let ok : Bool := true;
    (wellFormed (.coapUpdateStart t true ok) = true) ∧ (s.pwr.phase = ResetPhase.run) ∧ (mgmtLive s = true) ∧ (updState s = INSTALLING ∨ updState s = RECEIVING ∧ flag s UPD_STATUS.SRC = false) := by decide +kernel

/-- The hypotheses of ManagementPort can be met. -/
theorem witness_ManagementPort_block :
    let s : State := (fun (x : State) => { x with upd := { x.upd with coap := some { index := 3, block := 2, got := [1], failedAt := none } } }) (wrF runBase UPD_STATUS.STATE RECEIVING); let t : Nat := 1000; let data : List Byte := List.replicate 1024 7; let resent : Nat := 2; let progOk : Bool := true; let ok : Bool := true; let x : Exchange := { index := 3, block := 2, got := [1], failedAt := none };
    (wellFormed (.coapResponse t data true { good := true, resent := resent } progOk ok) = true) ∧ (s.pwr.phase = ResetPhase.run) ∧ (s.upd.coap = some x) ∧ (x.failedAt = none) ∧ (data.length = 1024) ∧ (x.block < 63) := by decide +kernel

/-- The hypotheses of ManagementPort can be met. -/
theorem witness_ManagementPort_timeout :
    let s : State := (fun (x : State) => { x with upd := { x.upd with coap := some { index := 3, block := 2, got := [1], failedAt := none } } }) (wrF runBase UPD_STATUS.STATE RECEIVING); let t : Nat := 1000; let x : Exchange := { index := 3, block := 2, got := [1], failedAt := none };
    (wellFormed (.coapExchangeTimeout t) = true) ∧ (s.pwr.phase = ResetPhase.run) ∧ (s.upd.coap = some x) ∧ (x.failedAt = none) := by decide +kernel

/-- The hypotheses of ManagementPort can be met. -/
theorem witness_ManagementPort_retry :
    let s : State := (fun (x : State) => { x with upd := { x.upd with coap := some { index := 3, block := 2, got := [1], failedAt := some 9 } } }) (wrF runBase UPD_STATUS.STATE RECEIVING); let t : Nat := 60000000009; let x : Exchange := { index := 3, block := 2, got := [1], failedAt := some 9 }; let f : Nat := 9;
    (wellFormed (.coapRetry t) = true) ∧ (s.pwr.phase = ResetPhase.run) ∧ (s.upd.coap = some x) ∧ (x.failedAt = some f) ∧ (f + rdF s UPD_COAP.RETRY_S * 1000000000 ≤ now (begin t s)) := by decide +kernel

/-- The hypotheses of ManagementPort can be met. -/
theorem witness_ManagementPort_health :
    let s : State := runBase; let t : Nat := 1000;
    (wellFormed (.coapHealthGet t) = true) ∧ (s.pwr.phase = ResetPhase.run) ∧ (mgmtLive s = true) := by decide +kernel

/-- The hypotheses of Attestation can be met. -/
theorem witness_Attestation_quote :
    let s : State := runBase; let t : Nat := 1000;
    (wellFormed (.quote t) = true) ∧ (s.pwr.phase = ResetPhase.run) ∧ (rdF s ID_CTRL.RESULT ≠ 0xFF) := by decide +kernel

/-- The hypotheses of Attestation can be met. -/
theorem witness_Attestation_certs :
    let s : State := runBase; let t : Nat := 1000;
    (wellFormed (.certs t) = true) ∧ (s.pwr.phase = ResetPhase.run) ∧ (rdF s ID_CTRL.RESULT ≠ 0xFF) := by decide +kernel

/-- The hypotheses of Attestation can be met. -/
theorem witness_Attestation_complete :
    let s : State := wrF runBase ID_CTRL.RESULT 0xFF; let t : Nat := 1000; let ok : Bool := false;
    (wellFormed (.attestComplete t ok) = true) ∧ (s.pwr.phase = ResetPhase.run) ∧ (rdF s ID_CTRL.RESULT = 0xFF) := by decide +kernel

/-- The hypotheses of IdleStep can be met. -/
theorem witness_IdleStep_idle :
    let s : State := State.reset;
    (s.pending = []) := by decide +kernel

/-- The hypotheses of ResetState can be met. -/
theorem witness_ResetState_tenant :
    let n : Nat := 256;
    (1 ≤ n) ∧ (n ≤ 256) := by decide +kernel

/-- The hypotheses of AlertKept can be met. -/
theorem witness_AlertKept_kept : AlertShown State.reset ∧ step State.reset = .next (clockTick State.reset) := ⟨.inr rfl, rfl⟩

/-- The hypotheses of FieldWrites can be met. -/
theorem witness_FieldWrites_field :
    let r : Reg := Reg.PWR_CTRL; let f : FieldSpec := ⟨31, 31, .lk, []⟩; let i : Nat := 31;
    (f ∈ r.fields) ∧ (f.lo ≤ i) ∧ (i ≤ f.hi) := by decide +kernel

/-- The hypotheses of FieldWrites can be met. -/
theorem witness_FieldWrites_reserved :
    let r : Reg := Reg.PWR_CTRL; let i : Nat := 30;
    (r.fields.all (fun (f : FieldSpec) => decide (i < f.lo ∨ f.hi < i)) = true) := by decide +kernel

/-- The hypotheses of LowestStatus can be met. -/
theorem witness_LowestStatus_lowest :
    let cs : List (Bool × Nat) := [(true, 2)]; let c : Bool × Nat := (true, 2);
    (c ∈ cs) ∧ (c.1 = true) ∧ (c.2 ≠ ST_OK) := by decide +kernel

/-- The hypotheses of LowestStatus can be met. -/
theorem witness_LowestStatus_applies :
    let cs : List (Bool × Nat) := [(true, 2), (true, 1)];
    (pickStatus cs ≠ ST_OK) := by decide +kernel

end Sys2Proof.Tests
end

section
/-! The access codes of register fields, bit by bit (Table 0.5, R11, R13), and the status code reported of several (R14). -/

namespace Sys2Proof.Machine

/-! ### Bits of a number and of its fields -/

theorem bit_eq_testBit (v i : Nat) : bit v i = v.testBit i := by
  simp [bit, Nat.testBit_eq_decide_div_mod_eq]

theorem testBit_bitsOf (v hi lo j : Nat) : (bitsOf v hi lo).testBit j = (decide (j < hi + 1 - lo) && v.testBit (lo + j)) := by
  rw [bitsOf, Nat.testBit_mod_two_pow, Nat.testBit_shiftRight]

/-- A field that is set replaces its own bits and no other. -/
theorem testBit_setBits (v hi lo x i : Nat) (h : lo ≤ hi) :
    (setBits v hi lo x).testBit i = if lo ≤ i ∧ i ≤ hi then x.testBit (i - lo) else v.testBit i := by
  have hlow : v % 2 ^ lo < 2 ^ lo := Nat.mod_lt _ (Nat.two_pow_pos _)
  rw [setBits, Nat.add_assoc, Nat.shiftLeft_add_eq_or_of_lt (setBits_low v hi lo x h), Nat.shiftLeft_add_eq_or_of_lt hlow]
  simp only [Nat.testBit_or, Nat.testBit_shiftLeft, Nat.testBit_shiftRight, Nat.testBit_mod_two_pow]
  rcases Nat.lt_or_ge i lo with hbelow | hlo
  · have habove : ¬ hi + 1 ≤ i := by omega
    have hlo : ¬ lo ≤ i := by omega
    simp only [ge_iff_le, habove, hlo, hbelow, decide_true, decide_false, Bool.false_and, Bool.false_or, Bool.true_and, false_and, if_false]
  · have hbelow : ¬ i < lo := by omega
    rcases Nat.lt_or_ge hi i with habove | hhi
    · have hup : hi + 1 ≤ i := habove
      have hwidth : ¬ i - lo < hi + 1 - lo := by omega
      have hhi : ¬ i ≤ hi := by omega
      have hshift : hi + 1 + (i - (hi + 1)) = i := by omega
      simp only [ge_iff_le, hup, hlo, hbelow, hwidth, hhi, hshift, decide_true, decide_false, Bool.false_and, Bool.and_false, Bool.or_false,
        Bool.true_and, and_false, if_false]
    · have hup : ¬ hi + 1 ≤ i := by omega
      have hwidth : i - lo < hi + 1 - lo := by omega
      have hin : lo ≤ i ∧ i ≤ hi := ⟨hlo, hhi⟩
      rw [if_pos hin]
      simp only [ge_iff_le, hup, hlo, hbelow, hwidth, decide_true, decide_false, Bool.false_and, Bool.false_or, Bool.or_false, Bool.true_and]

/-! ### The fields of a register -/

/-- Two fields share no bit. -/
def FieldSpec.apart (f g : FieldSpec) : Bool := decide (f.hi < g.lo ∨ g.hi < f.lo)

/-- Every field lies in a 32-bit register, and no two share a bit. -/
def fieldsOk : List FieldSpec → Bool
  | [] => true
  | f :: fs => decide (f.lo ≤ f.hi ∧ f.hi < 32) && fs.all f.apart && fieldsOk fs

theorem fieldsOk_cons (f : FieldSpec) (fs : List FieldSpec) :
    fieldsOk (f :: fs) = true ↔ (f.lo ≤ f.hi ∧ f.hi < 32) ∧ (∀ g ∈ fs, f.hi < g.lo ∨ g.hi < f.lo) ∧ fieldsOk fs = true := by
  simp [fieldsOk, FieldSpec.apart, and_assoc]

/-- The fields of every register of the tables are in range and disjoint. -/
theorem fieldsOk_fields (r : Reg) : fieldsOk r.fields = true := by
  cases r with
  | page f p => cases p <;> rfl
  | _ => rfl

/-! ### The access codes (Table 0.5) -/

/-- A bit of a field after a write: `o` was held, `x` is written, and `lk` is SETUP_LOCK. -/
def accBit (lk : Bool) (a : Acc) (o x : Bool) : Bool :=
  match a with
  | .rw => x
  | .lk => if lk then o else x
  | .w1c => o && !x
  | .w1s => o || x
  | .ro | .wo | .rc => o

/-- The value that a write leaves in a field of a register that held `old`. -/
def fieldValue (lk : Bool) (f : FieldSpec) (old v : Nat) : Nat :=
  match f.acc with
  | .rw => bitsOf v f.hi f.lo
  | .lk => if lk then bitsOf old f.hi f.lo else bitsOf v f.hi f.lo
  | .w1c => bitsOf old f.hi f.lo &&& (2 ^ (f.hi + 1 - f.lo) - 1 - bitsOf v f.hi f.lo)
  | .w1s => bitsOf old f.hi f.lo ||| bitsOf v f.hi f.lo
  | .ro | .wo | .rc => bitsOf old f.hi f.lo

theorem fieldWrite_cons (lk : Bool) (f : FieldSpec) (fs : List FieldSpec) (old v : Nat) :
    fieldWrite lk (f :: fs) old v = fieldWrite lk fs (setBits old f.hi f.lo (fieldValue lk f old v)) v := by
  simp only [fieldWrite, fieldValue]
  cases f.acc <;> rfl

theorem testBit_fieldValue (lk : Bool) (f : FieldSpec) (old v : Nat) {i : Nat} (hlo : f.lo ≤ i) (hhi : i ≤ f.hi) :
    (fieldValue lk f old v).testBit (i - f.lo) = accBit lk f.acc (old.testBit i) (v.testBit i) := by
  have hw : i - f.lo < f.hi + 1 - f.lo := by omega
  have hb : ∀ w, (bitsOf w f.hi f.lo).testBit (i - f.lo) = w.testBit i := fun w => by
    simp [testBit_bitsOf, hw, Nat.add_sub_cancel' hlo]
  have hflip : (2 ^ (f.hi + 1 - f.lo) - 1 - bitsOf v f.hi f.lo).testBit (i - f.lo) = !(v.testBit i) := by
    rw [Nat.sub_sub, Nat.add_comm 1, Nat.testBit_two_pow_sub_succ (bitsOf_lt _ _ _), hb]
    simp [hw]
  unfold fieldValue accBit
  cases f.acc with
  | w1c => rw [Nat.testBit_and, hb, hflip]
  | w1s => rw [Nat.testBit_or, hb, hb]
  | lk => cases lk <;> exact hb _
  | rw | ro | wo | rc => exact hb _

/-- A bit that no field holds is reserved: it keeps its value (R13). -/
theorem testBit_fieldWrite_reserved (lk : Bool) (fs : List FieldSpec) (old v i : Nat) (hok : fieldsOk fs = true)
    (h : ∀ f ∈ fs, i < f.lo ∨ f.hi < i) : (fieldWrite lk fs old v).testBit i = old.testBit i := by
  induction fs generalizing old with
  | nil => rfl
  | cons f fs ih =>
    obtain ⟨⟨hle, -⟩, -, hok⟩ := (fieldsOk_cons f fs).mp hok
    obtain ⟨hf, hfs⟩ := List.forall_mem_cons.mp h
    have hout : ¬ (f.lo ≤ i ∧ i ≤ f.hi) := by omega
    rw [fieldWrite_cons, ih _ hok hfs, testBit_setBits _ _ _ _ _ hle, if_neg hout]

/-- A bit of a field takes the value that the field's access code gives it, whatever the other fields do. -/
theorem testBit_fieldWrite_field (lk : Bool) (fs : List FieldSpec) (old v : Nat) {f : FieldSpec} {i : Nat} (hok : fieldsOk fs = true)
    (hf : f ∈ fs) (hlo : f.lo ≤ i) (hhi : i ≤ f.hi) :
    (fieldWrite lk fs old v).testBit i = accBit lk f.acc (old.testBit i) (v.testBit i) := by
  induction fs generalizing old with
  | nil => nomatch hf
  | cons g fs ih =>
    obtain ⟨⟨hle, -⟩, hapart, hrest⟩ := (fieldsOk_cons g fs).mp hok
    rw [fieldWrite_cons]
    rcases List.mem_cons.mp hf with rfl | hf
    · have hfs : ∀ g ∈ fs, i < g.lo ∨ g.hi < i := fun g hg => by have := hapart g hg; omega
      rw [testBit_fieldWrite_reserved lk fs _ v i hrest hfs, testBit_setBits _ _ _ _ _ hle, if_pos ⟨hlo, hhi⟩, testBit_fieldValue lk f old v hlo hhi]
    · have hout : ¬ (g.lo ≤ i ∧ i ≤ g.hi) := by have := hapart f hf; omega
      rw [ih _ hrest hf, testBit_setBits _ _ _ _ _ hle, if_neg hout]

/-- Settles O59: the fields of a register are disjoint, so each acts on its own bits by its own code. -/
theorem fieldWrites : Obligations.FieldWrites := by
  unfold Obligations.FieldWrites
  constructor
  · intro lk r f old v i hf hlo hhi
    rw [testBit_fieldWrite_field lk r.fields old v (fieldsOk_fields r) hf hlo hhi]
    cases f.acc <;> rfl
  · intro lk r old v i h
    exact testBit_fieldWrite_reserved lk r.fields old v i (fieldsOk_fields r) (fun f hf => of_decide_eq_true (List.all_eq_true.mp h f hf))

/-! ### The status code reported (R14) -/

theorem pickStatus_cons (c : Bool) (st : Nat) (cs : List (Bool × Nat)) :
    pickStatus ((c, st) :: cs) = if c = true ∧ st ≠ ST_OK ∧ (pickStatus cs = ST_OK ∨ st < pickStatus cs) then st else pickStatus cs := rfl

/-- A code that is reported is that of a condition which applies. -/
theorem pickStatus_mem (cs : List (Bool × Nat)) (h : pickStatus cs ≠ ST_OK) : (true, pickStatus cs) ∈ cs := by
  induction cs with
  | nil => exact absurd rfl h
  | cons c cs ih =>
    obtain ⟨b, st⟩ := c
    rw [pickStatus_cons] at h ⊢
    split at h
    next hc => rw [if_pos hc, hc.1]; exact List.mem_cons_self
    next hc => rw [if_neg hc]; exact List.mem_cons_of_mem _ (ih h)

/-- No code that applies is lower than the one reported. -/
theorem pickStatus_le (cs : List (Bool × Nat)) (st : Nat) (hm : (true, st) ∈ cs) (hst : st ≠ ST_OK) :
    pickStatus cs ≠ ST_OK ∧ pickStatus cs ≤ st := by
  induction cs with
  | nil => nomatch hm
  | cons c cs ih =>
    obtain ⟨b, st'⟩ := c
    rw [pickStatus_cons]
    rcases List.mem_cons.mp hm with heq | hm
    · cases heq
      split
      next => exact ⟨hst, Nat.le_refl _⟩
      next hc => simpa [hst] using hc
    · obtain ⟨hne, hle⟩ := ih hm
      split
      next hc =>
        obtain ⟨-, hst', hlow⟩ := hc
        exact ⟨hst', by have := hlow.resolve_left hne; omega⟩
      next => exact ⟨hne, hle⟩

/-- Settles O60: a code that is reported applies, and none that applies is lower. -/
theorem lowestStatus : Obligations.LowestStatus := by
  unfold Obligations.LowestStatus
  refine ⟨fun cs => ⟨?_, ?_⟩, ?_, pickStatus_mem⟩
  · rintro hok ⟨b, st⟩ hc rfl
    exact Decidable.byContradiction fun hst => (pickStatus_le cs st hc hst).1 hok
  · intro hall
    exact Decidable.byContradiction fun hne => hne (hall _ (pickStatus_mem cs hne) rfl)
  · rintro cs ⟨b, st⟩ hc rfl hst
    exact pickStatus_le cs st hc hst

end Sys2Proof.Machine
end

section
/-! Host accesses of the setup registers: what a write leaves, what a read delivers, latches and clears (R9, R11, R449, R451). -/

namespace Sys2Proof.Machine

/-! ### Registers that an effect keeps -/

/-- Registers read alike in states that hold the same ones. -/
theorem rd_congr {s t : State} (h : t.regs = s.regs) (r : Reg) : rd t r = rd s r := by rw [rd, rd, h]

theorem locked_congr {s t : State} (h : t.regs = s.regs) : locked t = locked s := by rw [locked, locked, flag, flag, rdF, rdF, rd_congr h]

/-- A claim that registers are kept need not look at the end of the event. -/
theorem regsKept_settle {s t : State} {rs : List Reg} (h : ∀ q : Reg, (∀ x ∈ rs, q.key ≠ x.key) → rd t q = rd s q) : RegsKept s (settle t) rs :=
  fun q hq hx => (rd_settle t q hq).trans (h q hx)

theorem regsKept_settle_of_regs {s t : State} {rs : List Reg} (h : t.regs = s.regs) : RegsKept s (settle t) rs :=
  regsKept_settle fun q _ => rd_congr h q

/-- A state in which one register is written keeps the others. -/
theorem regsKept_settle_wr {s t : State} (h : t.regs = s.regs) (r : Reg) (v : Word) : RegsKept s (settle (wr t r v)) [r] :=
  regsKept_settle fun q hq => by rw [rd_wr_ne t v (hq r List.mem_cons_self), rd_congr h]

/-! ### Which register an access reaches -/

/-- An access of another width or alignment writes nothing (R9). -/
theorem hostWrite_misplaced (fn off size v : Nat) (s : State) (h : size ≠ 4 ∨ off % 4 ≠ 0) : hostWrite fn off size v s = s := if_pos h

@[simp] theorem responds_begin (t : Nat) (s : State) (off : Nat) : responds (begin t s) off = responds s off := by
  rw [responds, responds, stage, stage, rdF_begin]

@[simp] theorem locked_begin (t : Nat) (s : State) : locked (begin t s) = locked s := by simp [locked]

theorem hostWrite_setup {off : Nat} {r : Reg} {s : State} (v : Nat) (hoff : off < 0x1000000) (ha : off % 4 = 0) (hr : regOfSetup off = some r)
    (hresp : responds s off = true) : hostWrite 0 off 4 v s = writeReg r v s := by
  simp [hostWrite, writeBar0, bar0Word, hoff, ha, hr, hresp]

theorem hostRead_setup {off : Nat} {r : Reg} {s : State} (hoff : off < 0x1000000) (ha : off % 4 = 0) (hr : regOfSetup off = some r)
    (hresp : responds s off = true) : hostRead 0 off 4 s = readRegister 0 r s := by
  have hpage : ¬ (0x1002000 ≤ off ∧ off < 0x1003000) := by omega
  simp [hostRead, readBar0, hoff, ha, hr, hresp, hpage]

/-! ### Writes of fields -/

/-- A register without W1C bits takes the written word as it is (R449). -/
theorem sparing_of_no_w1c (s : State) {r : Reg} {v : Nat} (hw : w1cMask r.fields = 0) (hv : v < 2 ^ 32) : sparing s r v = v := by
  rw [sparing, hw, Nat.and_zero, Nat.sub_zero, Nat.and_two_pow_sub_one_eq_mod, Nat.mod_eq_of_lt hv]

/-- A write that meets no setup lock writes its register alone. -/
theorem writeFields_eq_wr (s : State) {r : Reg} {v : Nat} (hw : w1cMask r.fields = 0) (hv : v < 2 ^ 32)
    (hlk : locked s = false ∨ violates r.fields (rd s r).toNat v = false) :
    writeFields s r v = wr s r (BitVec.ofNat 32 (fieldWrite (locked s) r.fields (rd s r).toNat v)) := by
  have hlog : ¬ (locked s = true ∧ violates r.fields (rd s r).toNat v = true) := by
    rintro ⟨h1, h2⟩
    rcases hlk with h | h
    · exact absurd h1 (by simp [h])
    · exact absurd h2 (by simp [h])
  rw [writeFields, if_neg hlog, sparing_of_no_w1c s hw hv]

theorem plainWrite_admitted {r : Reg} {v : Nat} (s : State) (h : admitted r.fields v = true) : plainWrite r v s = writeFields s r v := if_pos h

@[simp] theorem keepSample_regs (s : State) : (keepSample s).regs = s.regs := rfl

/-- The registers whose write has no condition or effect beside the access codes of their fields. -/
def plainRegs : List Reg :=
  [.PWR_GPIO, .TIME_SYNC_PERIOD, .SHL_ALERT_MASK, .INST_MB_TIMEOUT, .RND_GROW_TIMEOUT, .MEM_PATROL, .HD_SYNC_IN]

theorem w1cMask_of_plainRegs : ∀ r ∈ plainRegs, w1cMask r.fields = 0 := by decide

theorem isAlert_of_plainRegs : ∀ r ∈ plainRegs, isAlert r = false := by decide

/-- A write of PWR_GPIO first keeps the sample of this microsecond, which no register holds (R436). -/
theorem writeReg_of_plainRegs {r : Reg} (hr : r ∈ plainRegs) (v : Nat) (s : State) :
    ∃ t : State, t.regs = s.regs ∧ writeReg r v s = plainWrite r v t := by
  simp only [plainRegs, List.mem_cons, List.not_mem_nil, or_false] at hr
  rcases hr with rfl | hr
  · exact ⟨keepSample s, keepSample_regs s, rfl⟩
  · exact ⟨s, rfl, by rcases hr with rfl | rfl | rfl | rfl | rfl | rfl <;> rfl⟩

/-- SETUP_LOCK is bit 0 of ID_LOCK. -/
theorem locked_eq_testBit (s : State) : locked s = (rd s .ID_LOCK).toNat.testBit 0 := by
  rw [← bit_eq_testBit]
  simp [locked, flag, rdF, ID_LOCK.SETUP_LOCK, bitsOf, bit]

/-- A write of ID_LOCK sets SETUP_LOCK where bit 0 is 1, and never clears it (R451). -/
theorem locked_writeIdLock (s : State) (v : Nat) :
    locked (wr s .ID_LOCK (BitVec.ofNat 32 (fieldWrite (locked s) (Reg.fields .ID_LOCK) (rd s .ID_LOCK).toNat v))) = (locked s || bit v 0) := by
  have hf : (⟨0, 0, .w1s, []⟩ : FieldSpec) ∈ Reg.fields .ID_LOCK := List.mem_cons_self
  rw [locked_eq_testBit, rd_wr_same, BitVec.toNat_ofNat, Nat.testBit_mod_two_pow,
    testBit_fieldWrite_field _ _ _ _ (fieldsOk_fields _) hf (Nat.le_refl 0) (Nat.le_refl 0), bit_eq_testBit, locked_eq_testBit s]
  rfl

theorem locked_settle (s : State) : locked (settle s) = locked s := flag_settle s _ rfl

/-! ### The fields that a read clears -/

/-- Each field of a list set to its value, in turn. -/
def setFields (g : FieldSpec → Nat) (fs : List FieldSpec) (v : Nat) : Nat := fs.foldl (fun v f => setBits v f.hi f.lo (g f)) v

theorem setFields_cons (g : FieldSpec → Nat) (f : FieldSpec) (fs : List FieldSpec) (v : Nat) :
    setFields g (f :: fs) v = setFields g fs (setBits v f.hi f.lo (g f)) := rfl

theorem setFields_lt (g : FieldSpec → Nat) (fs : List FieldSpec) (v : Nat) (hok : fieldsOk fs = true) (hv : v < 2 ^ 32) :
    setFields g fs v < 2 ^ 32 := by
  induction fs generalizing v with
  | nil => exact hv
  | cons f fs ih =>
    obtain ⟨⟨hle, hhi⟩, -, hrest⟩ := (fieldsOk_cons f fs).mp hok
    exact ih _ hrest (setBits_lt _ _ _ _ hle hhi hv)

theorem bitsOf_setFields_apart (g : FieldSpec → Nat) (fs : List FieldSpec) (v : Nat) {f : FieldSpec} (hok : fieldsOk fs = true)
    (hf : f.lo ≤ f.hi) (h : ∀ k ∈ fs, f.hi < k.lo ∨ k.hi < f.lo) : bitsOf (setFields g fs v) f.hi f.lo = bitsOf v f.hi f.lo := by
  induction fs generalizing v with
  | nil => rfl
  | cons k fs ih =>
    obtain ⟨⟨hle, -⟩, -, hrest⟩ := (fieldsOk_cons k fs).mp hok
    obtain ⟨hk, hfs⟩ := List.forall_mem_cons.mp h
    rw [setFields_cons, ih _ hrest hfs]
    rcases hk with hk | hk
    · exact bitsOf_setBits_below _ _ _ _ _ _ hle hk hf
    · exact bitsOf_setBits_above _ _ _ _ _ _ hle hk

/-- Of disjoint fields that are set, each holds its value. -/
theorem bitsOf_setFields (g : FieldSpec → Nat) (fs : List FieldSpec) (v : Nat) {f : FieldSpec} (hok : fieldsOk fs = true) (hf : f ∈ fs) :
    bitsOf (setFields g fs v) f.hi f.lo = g f % 2 ^ (f.hi + 1 - f.lo) := by
  induction fs generalizing v with
  | nil => nomatch hf
  | cons k fs ih =>
    obtain ⟨⟨hle, -⟩, hapart, hrest⟩ := (fieldsOk_cons k fs).mp hok
    rw [setFields_cons]
    rcases List.mem_cons.mp hf with rfl | hf
    · rw [bitsOf_setFields_apart g fs _ hrest hle hapart, bitsOf_setBits_same _ _ _ _ hle]
    · exact ih _ hrest hf

/-! ### What a read delivers and leaves -/

/-- No register that a read clears is SHL_ALERT or its latch: a register has no RC field, or lies below or above the two. -/
theorem isAlert_of_rc {r : Reg} (h : rcFields r ≠ []) : isAlert r = false := by
  have hkey : r.key < 0x20004 ∨ 0x20010 ≤ r.key := by
    cases r with
    | page f p => right; cases p <;> simp only [Reg.key] <;> omega
    | _ => first | exact absurd rfl h | (simp only [Reg.key]; omega)
  have h1 : r.key ≠ Reg.SHL_ALERT.key := by rw [show Reg.SHL_ALERT.key = 0x20004 from rfl]; omega
  have h2 : r.key ≠ Reg.SHL_ALERT_LATCH.key := by rw [show Reg.SHL_ALERT_LATCH.key = 0x2000C from rfl]; omega
  simp [isAlert, h1, h2]

theorem rcFields_of_all {r : Reg} (h : r.fields.all (fun f => decide (f.acc = Acc.rc)) = true) : rcFields r = r.fields :=
  List.filter_eq_self.mpr (List.all_eq_true.mp h)

/-- A register that holds a low word has no RC field. -/
theorem rcFields_of_highWord {r h : Reg} (hh : highWord r = some h) : rcFields r = [] := by
  unfold highWord at hh
  split at hh
  case h_22 => nomatch hh
  all_goals rfl

/-- A register that a read clears shows what it holds. -/
theorem readReg_of_rc {r : Reg} (h : rcFields r ≠ []) (s : State) : readReg s r = rd s r := by
  unfold readReg
  split
  case h_25 => rfl
  all_goals exact absurd rfl h

theorem valueBefore_of_no_rc {r : Reg} (h : rcFields r = []) (s : State) (v : Word) : valueBefore s r v = v := by simp [valueBefore, h]

theorem clearRead_of_no_rc {r : Reg} (h : rcFields r = []) (s : State) : clearRead s r = s := if_pos h

/-- In a cycle of which nothing is recorded, no field has counted. -/
theorem countedIn_of_stamp_ne {s : State} (h : s.meet.stamp ≠ now s) (r : Reg) (f : FieldSpec) : countedIn s r f = (0, 0) := by
  rw [countedIn, meetNow, if_neg h]; rfl

theorem countedIn_of_stamp_eq {s : State} (h : s.meet.stamp = now s) (r : Reg) (f : FieldSpec) :
    countedIn s r f = Sparse.get (0, 0) s.meet.counted (32 * r.key + f.lo) := by
  rw [countedIn, meetNow, if_pos h]

theorem valueBefore_of_uncounted {s : State} {r : Reg} (h : ∀ f, (countedIn s r f).2 = 0) (v : Word) : valueBefore s r v = v := by
  have hfold : ∀ (fs : List FieldSpec) (n : Nat),
      fs.foldl (fun v f => if (countedIn s r f).2 = 0 then v else setBits v f.hi f.lo (countedIn s r f).1) n = n := fun fs n => by
    induction fs with
    | nil => rfl
    | cons f fs ih => rw [List.foldl_cons, if_pos (h f), ih]
  rw [valueBefore, hfold, BitVec.ofNat_toNat, BitVec.setWidth_eq]

/-- A read of the counter in the very cycle of a count delivers what it held before (R449). -/
theorem bitsOf_valueBefore {s : State} {r : Reg} {f : FieldSpec} (hrc : rcFields r = [f]) (hok : f.lo ≤ f.hi ∧ f.hi < 32)
    (hn : (countedIn s r f).2 ≠ 0) (v : Word) :
    bitsOf (valueBefore s r v).toNat f.hi f.lo = (countedIn s r f).1 % 2 ^ (f.hi + 1 - f.lo) := by
  simp only [valueBefore, hrc, List.foldl_cons, List.foldl_nil, if_neg hn, BitVec.toNat_ofNat]
  rw [Nat.mod_eq_of_lt (setBits_lt _ _ _ _ hok.1 hok.2 v.isLt), bitsOf_setBits_same _ _ _ _ hok.1]

/-- What a read leaves in an RC field: the events of its own cycle, saturating at the field's width. -/
def countLeft (s : State) (r : Reg) (f : FieldSpec) : Nat := min (countedIn s r f).2 (2 ^ (f.hi + 1 - f.lo) - 1)

theorem clearRead_of_rc {r : Reg} (h : rcFields r ≠ []) (s : State) :
    ∃ m : Meet, clearRead s r = wr { s with meet := m } r (BitVec.ofNat 32 (setFields (countLeft s r) (rcFields r) (rd s r).toNat)) :=
  ⟨_, if_neg h⟩

/-- A read clears its own register alone. -/
theorem rd_clearRead_ne (s : State) {r q : Reg} (hq : q.key ≠ r.key) : rd (clearRead s r) q = rd s q := by
  by_cases h : rcFields r = []
  · rw [clearRead_of_no_rc h]
  · obtain ⟨m, hm⟩ := clearRead_of_rc h s
    rw [hm, rd_wr_ne _ _ hq]
    rfl

theorem bitsOf_clearRead (s : State) {r : Reg} {f : FieldSpec} (hrc : rcFields r = r.fields) (hf : f ∈ r.fields) :
    bitsOf (rd (clearRead s r) r).toNat f.hi f.lo = countLeft s r f := by
  have hok := fieldsOk_fields r
  obtain ⟨m, hm⟩ := clearRead_of_rc (by rw [hrc]; exact List.ne_nil_of_mem hf) s
  have hlt : countLeft s r f < 2 ^ (f.hi + 1 - f.lo) :=
    Nat.lt_of_le_of_lt (Nat.min_le_right _ _) (Nat.sub_lt (Nat.two_pow_pos _) Nat.one_pos)
  rw [hm, rd_wr_same, hrc, BitVec.toNat_ofNat, Nat.mod_eq_of_lt (setFields_lt _ _ _ hok (rd s r).isLt), bitsOf_setFields _ _ _ hok hf,
    Nat.mod_eq_of_lt hlt]

/-! ### What a read does, by what is latched for the register -/

/-- The values latched for other registers, or for other functions. -/
def dropLatch (fn k : Nat) (l : List (Nat × Nat × Word)) : List (Nat × Nat × Word) := l.filter (fun e => !(decide (e.1 = fn ∧ e.2.1 = k)))

theorem any_dropLatch (fn k : Nat) (l : List (Nat × Nat × Word)) : (dropLatch fn k l).any (fun e => decide (e.1 = fn ∧ e.2.1 = k)) = false :=
  List.any_eq_false.mpr fun _ he => by simpa only [Bool.not_eq_true', Bool.not_eq_true] using (List.mem_filter.mp he).2

theorem find_latch_of_all {l : List (Nat × Nat × Word)} {k : Nat} (h : l.all (fun e => decide (e.1 ≠ 0 ∨ e.2.1 ≠ k)) = true) :
    l.find? (fun e => decide (e.1 = 0 ∧ e.2.1 = k)) = none := by
  refine List.find?_eq_none.mpr fun e he hk => ?_
  have hne := of_decide_eq_true (List.all_eq_true.mp h e he)
  obtain ⟨h1, h2⟩ := of_decide_eq_true hk
  exact hne.elim (absurd h1) (absurd h2)

theorem readRegister_latched {fn : Nat} {r : Reg} {s : State} {e : Nat × Nat × Word}
    (h : s.host.latch.find? (fun e => decide (e.1 = fn ∧ e.2.1 = r.key)) = some e) :
    readRegister fn r s = answer e.2.2 { s with host := { s.host with latch := dropLatch fn r.key s.host.latch } } := by
  simp only [readRegister, h, dropLatch]

/-- A read of a low word for which nothing is latched. -/
theorem readRegister_low {fn : Nat} {r h : Reg} {s : State} (hl : s.host.latch.find? (fun e => decide (e.1 = fn ∧ e.2.1 = r.key)) = none)
    (hh : highWord r = some h) :
    readRegister fn r s = spend (answer (readReg s r)
      { s with host := { s.host with latch := (fn, h.key, readReg s h) :: dropLatch fn h.key s.host.latch } }) := by
  have hrc := rcFields_of_highWord hh
  have hg : r ≠ .PWR_GPIO := by rintro rfl; nomatch hh
  simp only [readRegister, hl, hh, if_neg hg, valueBefore_of_no_rc hrc, clearRead_of_no_rc hrc, dropLatch]

/-- A read of a register with RC fields for which nothing is latched. -/
theorem readRegister_rc {fn : Nat} {r : Reg} {s : State} (hl : s.host.latch.find? (fun e => decide (e.1 = fn ∧ e.2.1 = r.key)) = none)
    (hrc : rcFields r ≠ []) :
    readRegister fn r s = spend (answer (valueBefore s r (rd s r)) (clearRead s r)) := by
  have hg : r ≠ .PWR_GPIO := by rintro rfl; exact hrc rfl
  have hh : highWord r = none := Option.eq_none_iff_forall_ne_some.mpr fun h hh => hrc (rcFields_of_highWord hh)
  simp only [readRegister, hl, hh, if_neg hg, readReg_of_rc hrc]

/-- A read of a register with RC fields alone delivers what they held before its cycle, leaves in each what its cycle counts, and
changes no other register (R11, R449). -/
theorem settle_readRegister_rc {s : State} {t : Nat} {r : Reg} (hl : s.host.latch.all (fun e => decide (e.1 ≠ 0 ∨ e.2.1 ≠ r.key)) = true)
    (hrc : rcFields r = r.fields) (hne : r.fields ≠ []) :
    (settle (readRegister 0 r (begin t s))).host.lastRead = valueBefore (begin t s) r (rd s r)
    ∧ (∀ f ∈ r.fields, bitsOf (rd (settle (readRegister 0 r (begin t s))) r).toNat f.hi f.lo = countLeft (begin t s) r f)
    ∧ RegsKept s (settle (readRegister 0 r (begin t s))) [r] := by
  have hrc' : rcFields r ≠ [] := by rwa [hrc]
  rw [readRegister_rc (find_latch_of_all (by rwa [begin_host])) hrc', rd_begin]
  refine ⟨rfl, fun f hf => ?_, regsKept_settle fun q hq => ?_⟩
  · rw [rd_settle _ _ (isAlert_of_rc hrc')]
    exact bitsOf_clearRead _ hrc hf
  · exact (rd_clearRead_ne _ (hq r List.mem_cons_self)).trans (rd_begin t s q)

/-! ### Writes of setup registers -/

theorem runs_write_plain {s : State} {t off : Nat} {r : Reg} {v : Word} (hrun : s.pwr.phase = .run) (hoff : off < 0x1000000) (ha : off % 4 = 0)
    (hr : regOfSetup off = some r) (hmem : r ∈ plainRegs) (hresp : responds s off = true) (hlk : locked s = false)
    (hadm : admitted r.fields v.toNat = true) :
    Runs (.registerWrite t 0 off 4 v) s
      (fun u => rd u r = BitVec.ofNat 32 (fieldWrite false r.fields (rd s r).toNat v.toNat) ∧ RegsKept s u [r]) := by
  refine runs_of_act t (hostWrite 0 off 4 v.toNat) hrun rfl ?_
  obtain ⟨w, hregs, hwrite⟩ := writeReg_of_plainRegs hmem v.toNat (begin t s)
  rw [begin_regs] at hregs
  have hlkw : locked w = false := (locked_congr hregs).trans hlk
  rw [hostWrite_setup _ hoff ha hr (by rw [responds_begin, hresp]), hwrite, plainWrite_admitted w hadm,
    writeFields_eq_wr w (w1cMask_of_plainRegs r hmem) v.isLt (.inl hlkw), hlkw, rd_congr hregs]
  exact ⟨by rw [rd_settle _ _ (isAlert_of_plainRegs r hmem), rd_wr_same], regsKept_settle_wr hregs r _⟩

theorem runs_write_misplaced {s : State} {t fn off size : Nat} {v : Word} (hrun : s.pwr.phase = .run) (h : size ≠ 4 ∨ off % 4 ≠ 0) :
    Runs (.registerWrite t fn off size v) s (fun u => RegsKept s u [] ∧ u.mem = s.mem) := by
  refine runs_of_act t (hostWrite fn off size v.toNat) hrun rfl ?_
  rw [hostWrite_misplaced _ _ _ _ _ h]
  exact ⟨regsKept_settle_of_regs (begin_regs s t), by rw [settle_mem, begin_mem]⟩

theorem runs_setupLock {s : State} (t : Nat) (v : Word) (hrun : s.pwr.phase = .run) :
    Runs (.setupLock t v) s (fun u => locked u = (locked s || bit v.toNat 0) ∧ RegsKept s u [.ID_LOCK]) := by
  refine runs_of_act t (plainWrite .ID_LOCK v.toNat) hrun rfl ?_
  rw [plainWrite_admitted _ rfl, writeFields_eq_wr _ rfl v.isLt (.inr rfl)]
  exact ⟨by rw [locked_settle, locked_writeIdLock, locked_begin], regsKept_settle_wr (begin_regs s t) _ _⟩

/-! ### Reads of setup registers -/

section reads

variable {s : State} {t off : Nat} {r : Reg} {P : State → Prop} (hrun : s.pwr.phase = .run) (hoff : off < 0x1000000) (ha : off % 4 = 0)
  (hr : regOfSetup off = some r) (hresp : responds s off = true)

include hrun hoff ha hr hresp

/-- A claim about a read comes down to what it does to its register. -/
theorem runs_read_of_readRegister (hP : P (settle (readRegister 0 r (begin t s)))) :
    Runs (.latchedLowWordRead t 0 off 4) s P ∧ Runs (.readClearCounter t 0 off 4) s P := by
  have hread : P (settle (hostRead 0 off 4 (begin t s))) := by rwa [hostRead_setup hoff ha hr (by rw [responds_begin, hresp])]
  exact ⟨runs_of_act t _ hrun rfl hread, runs_of_act t _ hrun rfl hread⟩

theorem runs_read_low {h : Reg} (hh : highWord r = some h) (hl : s.host.latch.all (fun e => decide (e.1 ≠ 0 ∨ e.2.1 ≠ r.key)) = true) :
    Runs (.latchedLowWordRead t 0 off 4) s (fun u => u.host.lastRead = readReg (begin t s) r
      ∧ u.host.latch.contains (0, h.key, readReg (begin t s) h) = true ∧ RegsKept s u []) := by
  refine (runs_read_of_readRegister hrun hoff ha hr hresp ?_).1
  rw [readRegister_low (find_latch_of_all (by rwa [begin_host])) hh]
  exact ⟨rfl, List.contains_iff_mem.mpr List.mem_cons_self, regsKept_settle_of_regs (begin_regs s t)⟩

theorem runs_read_latched {x : Word} (hl : s.host.latch.find? (fun e => decide (e.1 = 0 ∧ e.2.1 = r.key)) = some (0, r.key, x)) :
    Runs (.latchedLowWordRead t 0 off 4) s (fun u => u.host.lastRead = x
      ∧ u.host.latch.any (fun e => decide (e.1 = 0 ∧ e.2.1 = r.key)) = false) := by
  refine (runs_read_of_readRegister hrun hoff ha hr hresp ?_).1
  rw [readRegister_latched (by rwa [begin_host])]
  exact ⟨rfl, any_dropLatch _ _ _⟩

variable (hl : s.host.latch.all (fun e => decide (e.1 ≠ 0 ∨ e.2.1 ≠ r.key)) = true)

include hl

theorem runs_read_rc (hne : r.fields ≠ []) (hrc : r.fields.all (fun f => decide (f.acc = Acc.rc)) = true) (hm : s.meet.stamp ≠ now (begin t s)) :
    Runs (.readClearCounter t 0 off 4) s (fun u => u.host.lastRead = rd s r
      ∧ r.fields.all (fun f => decide (bitsOf (rd u r).toNat f.hi f.lo = 0)) = true ∧ RegsKept s u [r]) := by
  refine (runs_read_of_readRegister hrun hoff ha hr hresp ?_).2
  obtain ⟨hread, hleft, hkept⟩ := settle_readRegister_rc (t := t) hl (rcFields_of_all hrc) hne
  have hcount : ∀ f, countedIn (begin t s) r f = (0, 0) := countedIn_of_stamp_ne (by rwa [begin_meet]) r
  refine ⟨?_, List.all_eq_true.mpr fun f hf => decide_eq_true ?_, hkept⟩
  · rw [hread, valueBefore_of_uncounted fun f => by rw [hcount]]
  · rw [hleft f hf, countLeft, hcount, Nat.zero_min]

theorem runs_read_rc_counted {f : FieldSpec} {b n : Nat} (hf : r.fields = [f]) (hrc : f.acc = Acc.rc) (hm : s.meet.stamp = now (begin t s))
    (hc : Sparse.get (0, 0) s.meet.counted (32 * r.key + f.lo) = (b, n)) (hn : 0 < n) (hb : b < 2 ^ (f.hi + 1 - f.lo)) :
    Runs (.readClearCounter t 0 off 4) s (fun u => bitsOf u.host.lastRead.toNat f.hi f.lo = b
      ∧ bitsOf (rd u r).toNat f.hi f.lo = min n (2 ^ (f.hi + 1 - f.lo) - 1) ∧ RegsKept s u [r]) := by
  refine (runs_read_of_readRegister hrun hoff ha hr hresp ?_).2
  have hrcs : rcFields r = r.fields := rcFields_of_all (by simp [hf, hrc])
  obtain ⟨hread, hleft, hkept⟩ := settle_readRegister_rc (t := t) hl hrcs (by simp [hf])
  have hcount : countedIn (begin t s) r f = (b, n) := by rw [countedIn_of_stamp_eq (by rwa [begin_meet]), begin_meet, hc]
  have hok : f.lo ≤ f.hi ∧ f.hi < 32 := ((fieldsOk_cons f []).mp (hf ▸ fieldsOk_fields r)).1
  refine ⟨?_, ?_, hkept⟩
  · rw [hread, bitsOf_valueBefore (hrcs.trans hf) hok (by rw [hcount]; exact Nat.ne_of_gt hn), hcount, Nat.mod_eq_of_lt hb]
  · rw [hleft f (by simp [hf]), countLeft, hcount]

end reads

/-- Settles O12, clause by clause: each access reaches its register, whose write or read the laws above describe. -/
theorem registerAccess : Obligations.RegisterAccess := by
  unfold Obligations.RegisterAccess
  refine ⟨?write, ?misplaced, ?low, ?high, ?clear, ?counted, ?lock⟩
  case write => exact fun s t off r v _ hrun hoff ha hr hmem hresp hlk hadm => runs_write_plain hrun hoff ha hr hmem hresp hlk hadm
  case misplaced => exact fun s t fn off size v _ hrun h => runs_write_misplaced hrun h
  case low => exact fun s t off r h _ hrun hoff ha hr hh hresp hl => runs_read_low hrun hoff ha hr hresp hh hl
  case high => exact fun s t off h x _ hrun hoff ha hr hresp hl => runs_read_latched hrun hoff ha hr hresp hl
  case clear => exact fun s t off r _ hrun hoff ha hr hresp hne hrc hm hl => runs_read_rc hrun hoff ha hr hresp hl hne hrc hm
  case counted =>
    exact fun s t off r f b n _ hrun hoff ha hr hresp hf hrc hm hc hn hb hl => runs_read_rc_counted hrun hoff ha hr hresp hl hf hrc hm hc hn hb
  case lock => exact fun s t v _ hrun => runs_setupLock t v hrun

end Sys2Proof.Machine
end

section
/-! The clock between commands and the state after reset (R22, R23), and a commit point that meets a command for no region (R208). -/

namespace Sys2Proof.Machine

/-! ### An idle cycle -/

/-- One FCLK cycle moves the clock alone. -/
theorem clockTick_other (s : State) : { clockTick s with time := s.time } = s := by
  unfold clockTick
  split <;> rfl

theorem clockTick_acc (s : State) : (clockTick s).time.acc = if s.time.run then s.time.acc + s.time.inc else s.time.acc := by
  unfold clockTick
  split <;> rfl

theorem step_of_idle {s : State} (h : s.pending = []) : step s = .next (clockTick s) := by rw [step, h]

/-- Settles O55: a step on an empty queue is one FCLK cycle. -/
theorem idleStep : Obligations.IdleStep := by
  unfold Obligations.IdleStep
  exact fun s h => ⟨clockTick s, step_of_idle h, clockTick_acc s, clockTick_other s⟩

/-! ### The state after reset -/

/-- After reset no register is listed, so each reads as its table has it (R447). -/
theorem rd_reset (r : Reg) : rd State.reset r = r.reset := rfl

/-- After reset a head has the timing of 3,840 × 2,160 (Table 18.11). -/
theorem rdF_timing_reset (h : Nat) :
    rdF State.reset (HD_HTIM.HTOTAL h) = 0x1130 ∧ rdF State.reset (HD_HTIM.HACT h) = 0xF00 ∧ rdF State.reset (HD_VTIM.VTOTAL h) = 0x8CA
    ∧ rdF State.reset (HD_VTIM.VACT h) = 0x870 := by
  have hh : rd State.reset (.HD_HTIM h) = 0x11300F00 := rfl
  have hv : rd State.reset (.HD_VTIM h) = 0x08CA0870 := rfl
  simp only [rdF, HD_HTIM.HTOTAL, HD_HTIM.HACT, HD_VTIM.VTOTAL, HD_VTIM.VACT, hh, hv]
  decide

theorem instState_reset {n : Nat} (h : 1 ≤ n) : instState State.reset n = ABSENT := by
  have hr : rd State.reset (INST_STATE.STATE n).reg = 0 := if_neg (Nat.ne_of_gt h)
  rw [instState, rdF, hr]
  rfl

/-- Settles O56: every part of the state after reset is the one that its table or definition gives. -/
theorem resetState : Obligations.ResetState := by
  unfold Obligations.ResetState
  exact ⟨⟨rfl, rfl, rfl, rfl, reset_memory_wf, .inr rfl⟩, rd_reset, rdF_timing_reset, fun n h _ => instState_reset h⟩

/-! ### A commit point and a region that no head has -/

/-- The state after reset with an accepted REFRESH, of source time 5, for a region beyond the 16 of head 0: where that region's source
time would lie, at 0xB1010 and 0xB1014, group 0 has its frame counter. -/
def strayCmdState : State :=
  { State.reset with art := { State.reset.art with cmds := [{ k := 1, poll := 0, head := 0, region := 0x4000, plate := none, tsrc := 5 }] } }

@[simp] theorem domainGood_begin (t : Nat) (s : State) (d : Nat) : domainGood (begin t s) d = domainGood s d := by
  rw [domainGood, rdBit, rd_begin, domainGood, rdBit]

/-- A claim about a command speaks of the one state that it leaves. -/
theorem Runs.of_exec {i : Instr} {s u : State} {P : State → Prop} (h : Runs i s P) (he : exec i s = .next u) : P u := by
  obtain ⟨v, hv, hp⟩ := h
  rw [he] at hv
  cases hv
  exact hp

/-- A commit point while the display domain is good. -/
theorem exec_commitPoint {s : State} (t g : Nat) (hrun : s.pwr.phase = .run) (hgood : domainGood s 6 = true) :
    exec (.commitPoint t g) s = .next (settle (commitPoint g (begin t s))) := by
  have hact : exec (.commitPoint t g) s = act t (fun s => if domainGood s 6 then commitPoint g s else s) s := rfl
  rw [hact, act_run _ _ _ hrun, domainGood_begin, if_pos hgood]

/-- The commit point of group 0 counts frame 1, and then applies the command to the frame counter. -/
theorem frameOf_commitPoint_stray : frameOf (settle (commitPoint 0 (begin 1000 strayCmdState))) 0 = 5 := by decide +kernel

/-- Refutes O29: its last clause takes any state, also one that holds an accepted command for a region that no head has, as no poll accepts
it (R266).  Such a command's source time is written over the frame counter at the commit point. -/
theorem not_framesAndCommitPoints : ¬ Obligations.FramesAndCommitPoints := by
  unfold Obligations.FramesAndCommitPoints
  rintro ⟨-, -, hcommit⟩
  have hgood : domainGood strayCmdState 6 = true := by decide
  have hframe := (hcommit strayCmdState 1000 0 0 (by decide) rfl hgood (by decide) (by decide) rfl).of_exec (exec_commitPoint 1000 0 rfl hgood)
  rw [frameOf_commitPoint_stray] at hframe
  exact absurd hframe (by decide)

end Sys2Proof.Machine
end

section
/-! Log entries and events: what reporting leaves as it was (R29, R102, R297). -/

namespace Sys2Proof.Machine

/-! ### Registers that an operation sets -/

/-- The registers that a log entry or an event may move: the log's head and count of dropped entries, and those of the ring setup
pages. -/
def isReport (r : Reg) : Bool := decide (r.key = Reg.SHL_LOG_HEAD.key ∨ r.key = Reg.SHL_LOG_DROP.key ∨ 2 ^ 32 ≤ r.key)

/-- `t` differs from `s` in what a report moves alone: messages, the log, the rings and their registers. -/
structure ReportsOnly (s t : State) : Prop where
  rest : { t with out := s.out, free := s.free, meet := s.meet, regs := s.regs, host := s.host, shl := s.shl } = s
  rd_eq : ∀ r, isReport r = false → rd t r = rd s r

namespace ReportsOnly

variable {s t u : State}

theorem refl (s : State) : ReportsOnly s s := ⟨rfl, fun _ _ => rfl⟩

theorem trans (h : ReportsOnly s t) (k : ReportsOnly t u) : ReportsOnly s u where
  rest := by
    have hk := congrArg (fun x : State => { x with out := s.out, free := s.free, meet := s.meet, regs := s.regs, host := s.host, shl := s.shl }) k.rest
    exact hk.trans h.rest
  rd_eq r hr := (k.rd_eq r hr).trans (h.rd_eq r hr)

theorem time (h : ReportsOnly s t) : t.time = s.time := (congrArg State.time h.rest :)
theorem mem (h : ReportsOnly s t) : t.mem = s.mem := (congrArg State.mem h.rest :)
theorem dsp (h : ReportsOnly s t) : t.dsp = s.dsp := (congrArg State.dsp h.rest :)

theorem rdF_eq (h : ReportsOnly s t) (f : Fld) (hf : isReport f.reg = false) : rdF t f = rdF s f := by rw [rdF, h.rd_eq _ hf, rdF]

/-- A change that no register shows. -/
theorem of_regs (hrest : { t with out := s.out, free := s.free, meet := s.meet, regs := s.regs, host := s.host, shl := s.shl } = s)
    (hregs : t.regs = s.regs) : ReportsOnly s t := ⟨hrest, fun r _ => rd_congr hregs r⟩

theorem ite {c : Prop} [Decidable c] (ht : ReportsOnly s t) (hu : ReportsOnly s u) : ReportsOnly s (if c then t else u) := by
  split
  · exact ht
  · exact hu

end ReportsOnly

theorem key_ne_of_isReport {r q : Reg} (hr : isReport r = true) (hq : isReport q = false) : q.key ≠ r.key := by
  intro hk
  rw [isReport, hk] at hq
  rw [isReport, hq] at hr
  exact absurd hr (by decide)

theorem isReport_page (f : Nat) (p : PageReg) : isReport (.page f p) = true := by
  have hkey : 2 ^ 32 ≤ (Reg.page f p).key := by cases p <;> simp only [Reg.key] <;> omega
  exact decide_eq_true (.inr (.inr hkey))

section reports

variable (s : State)

theorem reportsOnly_wrF (f : Fld) (v : Nat) (h : isReport f.reg = true) : ReportsOnly s (wrF s f v) :=
  ⟨rfl, fun _ hr => rd_wrF_ne s v (key_ne_of_isReport h hr)⟩

theorem rd_incF_ne {f : Fld} {r : Reg} (n : Nat) (h : r.key ≠ f.reg.key) : rd (incF s f n) r = rd s r := by
  rw [incF, rd_wrF_ne _ _ h]
  rfl

theorem reportsOnly_incF (f : Fld) (n : Nat) (h : isReport f.reg = true) : ReportsOnly s (incF s f n) :=
  ⟨rfl, fun _ hr => rd_incF_ne s n (key_ne_of_isReport h hr)⟩

theorem reportsOnly_putLog (e : Rec16) : ReportsOnly s (putLog s e) := by
  refine ⟨rfl, fun r hr => ?_⟩
  rw [putLog, rd_wr_ne _ _ (key_ne_of_isReport (r := .SHL_LOG_HEAD) rfl hr)]
  rfl

theorem reportsOnly_countInfo (n : Nat) : ReportsOnly s (countInfo s n) := .of_regs rfl rfl
theorem reportsOnly_send (m : HostMsg) : ReportsOnly s (send s m) := .of_regs rfl rfl
theorem reportsOnly_spend : ReportsOnly s (spend s) := .of_regs rfl rfl
theorem reportsOnly_setEq (fn : Nat) (x : CqState) : ReportsOnly s (setEq s fn x) := .of_regs rfl rfl

theorem reportsOnly_signal (fn v : Nat) : ReportsOnly s (signal s fn v) := by
  unfold signal
  exact .ite (.ite (.refl s) (.of_regs rfl rfl)) (reportsOnly_send s _)

/-- An entry of the event log, written or dropped (R297). -/
theorem reportsOnly_writeLog (cls : Nat) (blk : Blk) (code unit arg : Nat) (cont : Option Nat) :
    ReportsOnly s (writeLog s cls blk code unit arg cont) := by
  have hcount : ∀ n, ReportsOnly s (if cls = 0 then countInfo s n else s) := fun n => .ite (reportsOnly_countInfo s n) (.refl s)
  have hdrop : ∀ n, ReportsOnly s (incF s SHL_LOG_DROP.COUNT n) := fun n => reportsOnly_incF s _ n rfl
  cases cont with
  | none => exact .ite (hdrop 1) ((hcount 1).trans (reportsOnly_putLog _ _))
  | some c => exact .ite (hdrop 2) (((hcount 2).trans (reportsOnly_putLog _ _)).trans (reportsOnly_putLog _ _))

theorem reportsOnly_putEvent (fn type inst unit dtime payload : Nat) : ReportsOnly s (putEvent s fn type inst unit dtime payload) := by
  have hput : ∀ m v x, ReportsOnly s (setEq (wrF (send s m) (EQ_PTR.TAIL fn) v) fn x) := fun m v x =>
    ((reportsOnly_send s m).trans (reportsOnly_wrF _ _ v (isReport_page fn _))).trans (reportsOnly_setEq _ fn x)
  exact .ite ((hput _ _ _).trans (reportsOnly_signal _ _ _)) (hput _ _ _)

/-- An event, written or dropped (R102, R103). -/
theorem reportsOnly_postEvent (fn type inst unit payload : Nat) : ReportsOnly s (postEvent s fn type inst unit payload) := by
  have hdrop : ReportsOnly s (incF s (EQ_DROP.COUNT fn)) := reportsOnly_incF s _ _ (isReport_page fn _)
  exact .ite (.ite (.ite (hdrop.trans (reportsOnly_setEq _ _ _)) ((hdrop.trans (reportsOnly_setEq _ _ _)).trans (reportsOnly_putEvent _ _ _ _ _ _ _)))
    (reportsOnly_putEvent s _ _ _ _ _ _)) hdrop

end reports

end Sys2Proof.Machine
end

section
/-! The time unit: what each of its operations sets in its record and its registers (R24 to R31). -/

namespace Sys2Proof.Machine

/-! ### The record of the time unit as a command begins -/

section begins

variable (t : Nat) (s : State)

/-- A command that begins moves the clock and its stamp alone. -/
theorem begin_time : ∃ a n, (begin t s).time = { s.time with acc := a, stamp := n } := by
  unfold begin advance
  split
  · exact ⟨_, _, rfl⟩
  · exact ⟨s.time.acc, s.time.stamp, rfl⟩

@[simp] theorem begin_masters : (begin t s).time.masters = s.time.masters := by obtain ⟨a, n, h⟩ := begin_time t s; rw [h]
@[simp] theorem begin_master : (begin t s).time.master = s.time.master := by obtain ⟨a, n, h⟩ := begin_time t s; rw [h]
@[simp] theorem begin_lastSync : (begin t s).time.lastSync = s.time.lastSync := by obtain ⟨a, n, h⟩ := begin_time t s; rw [h]
@[simp] theorem begin_lastOrigin : (begin t s).time.lastOrigin = s.time.lastOrigin := by obtain ⟨a, n, h⟩ := begin_time t s; rw [h]
@[simp] theorem begin_syncOpen : (begin t s).time.syncOpen = s.time.syncOpen := by obtain ⟨a, n, h⟩ := begin_time t s; rw [h]
@[simp] theorem begin_syncInterval : (begin t s).time.syncInterval = s.time.syncInterval := by obtain ⟨a, n, h⟩ := begin_time t s; rw [h]
@[simp] theorem begin_offsetSet : (begin t s).time.offsetSet = s.time.offsetSet := by obtain ⟨a, n, h⟩ := begin_time t s; rw [h]
@[simp] theorem begin_pathDelay : (begin t s).time.pathDelay = s.time.pathDelay := by obtain ⟨a, n, h⟩ := begin_time t s; rw [h]
@[simp] theorem begin_inc : (begin t s).time.inc = s.time.inc := by obtain ⟨a, n, h⟩ := begin_time t s; rw [h]
@[simp] theorem begin_freq : (begin t s).time.freq = s.time.freq := by obtain ⟨a, n, h⟩ := begin_time t s; rw [h]
@[simp] theorem begin_heldLo : (begin t s).time.heldLo = s.time.heldLo := by obtain ⟨a, n, h⟩ := begin_time t s; rw [h]
@[simp] theorem begin_holdTimer : (begin t s).time.holdTimer = s.time.holdTimer := by obtain ⟨a, n, h⟩ := begin_time t s; rw [h]
@[simp] theorem ptpSelected_begin : ptpSelected (begin t s) = ptpSelected s := by simp [ptpSelected]
@[simp] theorem taiOffset_begin : taiOffset (begin t s) = taiOffset s := by simp [taiOffset, rd64]

end begins

/-! ### Fields that a counter and a W1C bit share a register with -/

/-- Fields read alike in states that hold the same registers. -/
theorem rdF_congr {s t : State} (h : t.regs = s.regs) (f : Fld) : rdF t f = rdF s f := by rw [rdF, rdF, rd_congr h]

/-- A counter counts up to its width (R11). -/
theorem rdF_incF_same (s : State) (f : Fld) (n : Nat) (h : f.ok = true) : rdF (incF s f n) f = min (rdF s f + n) (2 ^ (f.hi + 1 - f.lo) - 1) := by
  have hlt : min (rdF s f + n) (2 ^ (f.hi + 1 - f.lo) - 1) < 2 ^ (f.hi + 1 - f.lo) :=
    Nat.lt_of_le_of_lt (Nat.min_le_right _ _) (Nat.sub_lt (Nat.two_pow_pos _) Nat.one_pos)
  rw [incF, rdF_wrF_same _ f _ h, Nat.mod_eq_of_lt hlt]

/-- A W1C bit that the device sets reads 1. -/
theorem flag_raiseF_same (s : State) (f : Fld) (h : f.ok = true) (hbit : f.hi = f.lo) : flag (raiseF s f) f = true := by
  have hw : f.hi + 1 - f.lo = 1 := by omega
  have hlt := rdF_lt s f
  rw [hw] at hlt
  have hor : (rdF s f ||| 1) % 2 ^ 1 = 1 := by
    generalize rdF s f = v at hlt ⊢
    match v, hlt with
    | 0, _ => rfl
    | 1, _ => rfl
  rw [flag, raiseF, rdF_wrF_same _ f _ h, hw, hor]
  rfl

theorem rdF_raiseF_apart (s : State) {f g : Fld} (v : Nat) (hr : g.reg = f.reg) (hf : f.ok = true) (hg : g.ok = true) (ha : f.apart g = true) :
    rdF (raiseF s f v) g = rdF s g :=
  rdF_wrF_apart _ _ hr hf hg ha

/-! ### 64-bit values in two registers (R9) -/

theorem rd64_wr64 (s : State) {lo hi : Reg} (v : Nat) (h : lo.key ≠ hi.key) : rd64 (wr64 s lo hi v) lo hi = v % 2 ^ 64 := by
  rw [rd64, wr64, rd_wr_ne _ _ h, rd_wr_same, rd_wr_same, BitVec.toNat_ofNat, BitVec.toNat_ofNat]
  omega

theorem rd_wr64_ne (s : State) {lo hi q : Reg} (v : Nat) (hlo : q.key ≠ lo.key) (hhi : q.key ≠ hi.key) : rd (wr64 s lo hi v) q = rd s q := by
  rw [wr64, rd_wr_ne _ _ hhi, rd_wr_ne _ _ hlo]

theorem unsigned_lt (w : Nat) (i : Int) : unsigned w i < 2 ^ w := by
  have h : (0 : Int) < ((2 ^ w : Nat) : Int) := Int.natCast_pos.mpr (Nat.two_pow_pos w)
  rw [unsigned, Int.toNat_lt (Int.emod_nonneg _ (Int.ne_of_lt h).symm)]
  exact Int.emod_lt_of_pos i h

theorem unsigned_signed (w v : Nat) : unsigned w (signed w v) = v % 2 ^ w := by
  unfold unsigned signed
  split
  · rw [← Int.natCast_emod, Int.toNat_natCast, Nat.mod_mod]
  · rw [Int.sub_emod_right, ← Int.natCast_emod, Int.toNat_natCast, Nat.mod_mod]

/-! ### TIME_TAI_OFFSET (R25) -/

section tai

variable (s : State) (v : Int)

@[simp] theorem setTaiOffset_time : (setTaiOffset s v).time = s.time := rfl
@[simp] theorem setTaiOffset_mem : (setTaiOffset s v).mem = s.mem := rfl
@[simp] theorem setTaiOffset_dsp : (setTaiOffset s v).dsp = s.dsp := rfl

theorem rd64_setTaiOffset : rd64 (setTaiOffset s v) .TIME_TAI_OFFSET_LO .TIME_TAI_OFFSET_HI = unsigned 64 v := by
  have hpair := rd64_wr64 s (lo := .TIME_TAI_OFFSET_LO) (hi := .TIME_TAI_OFFSET_HI) (unsigned 64 v) (by decide)
  rw [Nat.mod_eq_of_lt (unsigned_lt 64 v)] at hpair
  rw [← hpair, rd64, rd64, setTaiOffset, wrB, rd_wrF_ne _ _ (by decide), rd_wrF_ne _ _ (by decide)]

theorem flag_setTaiOffset : flag (setTaiOffset s v) TIME_STATUS.OFFSET_VALID = true := flag_wrB_same _ _ _ rfl

/-- A change of the offset keeps the registers that hold neither its words nor OFFSET_VALID. -/
theorem rd_setTaiOffset_ne {q : Reg} (hlo : q.key ≠ Reg.TIME_TAI_OFFSET_LO.key) (hhi : q.key ≠ Reg.TIME_TAI_OFFSET_HI.key)
    (hst : q.key ≠ Reg.TIME_STATUS.key) : rd (setTaiOffset s v) q = rd s q := by
  rw [setTaiOffset, wrB, rd_wrF_ne _ _ hst, rd_wr64_ne _ _ hlo hhi]

/-- A change of the offset keeps the other fields of TIME_STATUS. -/
theorem rdF_setTaiOffset_apart {f : Fld} (hr : f.reg = .TIME_STATUS) (hf : f.ok = true) (ha : TIME_STATUS.OFFSET_VALID.apart f = true) :
    rdF (setTaiOffset s v) f = rdF s f := by
  rw [setTaiOffset, wrB, rdF_wrF_apart _ _ hr rfl hf ha, rdF, rdF, hr, rd_wr64_ne _ _ (by decide) (by decide)]

end tai

/-! ### The states of the time unit (R29, R30) -/

section states

variable (s : State)

/-- STATE and SOURCE_ACTIVE written. -/
def writeTimeState (st src : Nat) : State := wrF (wrF s TIME_STATUS.STATE st) TIME_STATUS.SOURCE_ACTIVE src

/-- A change of state is a write of its two fields and a report of it; where nothing changes, nothing is done. -/
theorem setTimeState_cases (st src : Nat) :
    (rdF s TIME_STATUS.STATE + 4 * rdF s TIME_STATUS.SOURCE_ACTIVE = st + 4 * src ∧ setTimeState s st src = s)
    ∨ ReportsOnly (writeTimeState s st src) (setTimeState s st src) := by
  by_cases h : rdF s TIME_STATUS.STATE + 4 * rdF s TIME_STATUS.SOURCE_ACTIVE = st + 4 * src
  · exact .inl ⟨h, if_pos h⟩
  · refine .inr ?_
    rw [setTimeState, if_neg h]
    exact ((reportsOnly_writeLog _ _ _ _ _ _ _).trans (reportsOnly_postEvent _ _ _ _ _ _)).trans (reportsOnly_spend _)

@[simp] theorem setTimeState_time (st src : Nat) : (setTimeState s st src).time = s.time := by
  rcases setTimeState_cases s st src with ⟨-, h⟩ | h
  · rw [h]
  · exact h.time

@[simp] theorem setTimeState_mem (st src : Nat) : (setTimeState s st src).mem = s.mem := by
  rcases setTimeState_cases s st src with ⟨-, h⟩ | h
  · rw [h]
  · exact h.mem

@[simp] theorem setTimeState_dsp (st src : Nat) : (setTimeState s st src).dsp = s.dsp := by
  rcases setTimeState_cases s st src with ⟨-, h⟩ | h
  · rw [h]
  · exact h.dsp

theorem rdF_state_setTimeState {st : Nat} (src : Nat) (hst : st < 4) : rdF (setTimeState s st src) TIME_STATUS.STATE = st := by
  rcases setTimeState_cases s st src with ⟨hsame, h⟩ | h
  · have hlt : rdF s TIME_STATUS.STATE < 4 := rdF_lt s _
    rw [h]
    omega
  · rw [h.rdF_eq _ rfl, writeTimeState, rdF_wrF_apart (f := TIME_STATUS.SOURCE_ACTIVE) (g := TIME_STATUS.STATE) _ _ rfl rfl rfl rfl, rdF_wrF_same _ _ _ rfl]
    exact Nat.mod_eq_of_lt hst

/-- A change of state keeps the other fields of TIME_STATUS. -/
theorem rdF_setTimeState_apart (st src : Nat) {f : Fld} (hr : f.reg = .TIME_STATUS) (hf : f.ok = true)
    (ha : TIME_STATUS.STATE.apart f = true ∧ TIME_STATUS.SOURCE_ACTIVE.apart f = true) : rdF (setTimeState s st src) f = rdF s f := by
  rcases setTimeState_cases s st src with ⟨-, h⟩ | h
  · rw [h]
  · rw [h.rdF_eq _ (by rw [hr]; rfl), writeTimeState, rdF_wrF_apart _ _ hr rfl hf ha.2, rdF_wrF_apart _ _ hr rfl hf ha.1]

/-- A change of state keeps every other register but those of its report. -/
theorem rd_setTimeState_ne (st src : Nat) {q : Reg} (hq : q.key ≠ Reg.TIME_STATUS.key) (hrep : isReport q = false) :
    rd (setTimeState s st src) q = rd s q := by
  rcases setTimeState_cases s st src with ⟨-, h⟩ | h
  · rw [h]
  · rw [h.rd_eq _ hrep, writeTimeState, rd_wrF_ne _ _ hq, rd_wrF_ne _ _ hq]

/-- HOLDOVER is entered without the phase term, and with the timer where house sync does not take over (R30, R31). -/
theorem enterHoldover_time (house : Bool) : (enterHoldover s house).time =
    { s.time with
      inc := s.time.freq, uncBase := uncert s, uncSince := now s, uncSlow := house, holdEntry := now s
      holdTimer := if house then s.time.holdTimer else some (now s) } := by
  cases house <;> exact setTimeState_time _ _ _

@[simp] theorem enterHoldover_mem (house : Bool) : (enterHoldover s house).mem = s.mem := by
  cases house <;> exact setTimeState_mem _ _ _

theorem rdF_state_enterHoldover (house : Bool) : rdF (enterHoldover s house) TIME_STATUS.STATE = TS_HOLDOVER := by
  cases house <;> exact rdF_state_setTimeState _ _ (by decide)

@[simp] theorem houseTakesOver_time : (houseTakesOver s).time =
    { s.time with uncBase := uncert s, uncSince := now s, uncSlow := true, holdTimer := none } := setTimeState_time _ _ _

@[simp] theorem houseTakesOver_mem : (houseTakesOver s).mem = s.mem := setTimeState_mem _ _ _

/-! ### PTP is lost, and its master selected (Table 2.1, Table 2.2) -/

/-- PTP counts as not locked, and waits for a Sync. -/
def dropPtp : State := { s with time := { s.time with ptpLocked := false, syncGood := 0, lastSync := none, syncOpen := false } }

theorem ptpLost_locked (h : rdF s TIME_STATUS.STATE = TS_LOCKED ∧ rdF s TIME_STATUS.SOURCE_ACTIVE = SRC_PTP) :
    ptpLost s = enterHoldover (dropPtp s) (decide (rdF s TIME_CTRL.SRC = 3) && s.time.houseLocked) := if_pos h

theorem ptpLost_cases : (∃ house, ptpLost s = enterHoldover (dropPtp s) house) ∨ ptpLost s = houseTakesOver (dropPtp s) ∨ ptpLost s = dropPtp s := by
  by_cases h : rdF s TIME_STATUS.STATE = TS_LOCKED ∧ rdF s TIME_STATUS.SOURCE_ACTIVE = SRC_PTP
  · exact .inl ⟨_, ptpLost_locked s h⟩
  · have hlost : ptpLost s = if holdsAlone (dropPtp s) = true ∧ s.time.houseLocked = true then houseTakesOver (dropPtp s) else dropPtp s := if_neg h
    rw [hlost]
    split
    · exact .inr (.inl rfl)
    · exact .inr (.inr rfl)

/-- A loss of PTP drops the Sync heard last and keeps the masters heard. -/
theorem ptpLost_time : (ptpLost s).time.masters = s.time.masters ∧ (ptpLost s).time.lastSync = none ∧ (ptpLost s).time.ptpLocked = false := by
  rcases ptpLost_cases s with ⟨house, h⟩ | h | h
  · rw [h, enterHoldover_time]
    exact ⟨rfl, rfl, rfl⟩
  · rw [h, houseTakesOver_time]
    exact ⟨rfl, rfl, rfl⟩
  · rw [h]
    exact ⟨rfl, rfl, rfl⟩

@[simp] theorem ptpLost_mem : (ptpLost s).mem = s.mem := by
  rcases ptpLost_cases s with ⟨house, h⟩ | h | h <;> rw [h]
  · exact enterHoldover_mem _ _
  · exact houseTakesOver_mem _
  · rfl

/-- A change of the selected master changes no more than the count of its Syncs. -/
theorem selectMaster_other : ∃ m o g, selectMaster s = { s with time := { s.time with master := m, syncOpen := o, syncGood := g } } := by
  unfold selectMaster
  dsimp only
  split
  · exact ⟨_, _, _, rfl⟩
  · exact ⟨_, _, _, rfl⟩

/-- The masters whose announce receipt timeout has passed are heard no more. -/
def dropMasters : State := { s with time := { s.time with masters := s.time.masters.filter (fun m => !(announceDue (now s) m)) } }

/-- Whether the selected master's announce receipt timeout has passed. -/
def masterDue : Bool := s.time.masters.any (fun m => announceDue (now s) m && decide (some m.ident = s.time.master))

/-- The announce timeout drops masters, and then selects anew, after a loss where the selected one is due (Table 2.1). -/
theorem ptpAnnounceTimeout_eq : ptpAnnounceTimeout s =
    if (s.time.masters.filter (announceDue (now s))).isEmpty then dropMasters s
    else selectMaster (if masterDue s then ptpLost (dropMasters s) else dropMasters s) := by
  rw [masterDue, ← List.any_filter]
  rfl

/-- An announce timeout of the selected master is a loss of PTP. -/
theorem ptpAnnounceTimeout_lost (h : masterDue s = true) : ptpAnnounceTimeout s = selectMaster (ptpLost (dropMasters s)) := by
  have hsome : (s.time.masters.filter (announceDue (now s))).isEmpty = false := by
    obtain ⟨m, hm, hdue⟩ := List.any_eq_true.mp h
    rw [Bool.and_eq_true] at hdue
    exact List.isEmpty_eq_false_iff_exists_mem.mpr ⟨m, List.mem_filter.mpr ⟨hm, hdue.1⟩⟩
  rw [ptpAnnounceTimeout_eq, hsome, h]
  rfl

end states

/-! ### The servo (R24, R27) -/

section servo

variable (s : State)

theorem clampInc_bounds (v : Int) : INC_MIN ≤ clampInc v ∧ clampInc v ≤ INC_MAX := by
  rw [clampInc, INC_MIN, INC_MAX]
  omega

theorem clampInc_of_bounds {n : Nat} (h : INC_MIN ≤ n ∧ n ≤ INC_MAX) : clampInc n = n := by
  rw [INC_MIN, INC_MAX] at h
  rw [clampInc, INC_MIN, INC_MAX]
  omega

/-- House sync keeps TIME_INC where it is active. -/
theorem servo_house (err : Int) (h : rdF s TIME_STATUS.SOURCE_ACTIVE = SRC_HOUSE) : servo err s = s := if_pos h

/-- Elsewhere the servo sets a frequency estimate and TIME_INC, within the bounds, and alike in HOLDOVER. -/
theorem servo_time (err : Int) (h : rdF s TIME_STATUS.SOURCE_ACTIVE ≠ SRC_HOUSE) :
    ∃ f i, (servo err s).time = { s.time with freq := f, inc := i } ∧ (INC_MIN ≤ i ∧ i ≤ INC_MAX)
      ∧ (rdF s TIME_STATUS.STATE = TS_HOLDOVER → i = f) := by
  rw [servo, if_neg h]
  refine ⟨_, _, rfl, clampInc_bounds _, fun hhold => ?_⟩
  have hphase : ∀ x : Nat, (if err = 0 ∨ rdF (spend s) TIME_STATUS.STATE = TS_HOLDOVER then (0 : Int) else (x : Int)) = 0 := fun x => if_pos (.inr hhold)
  rw [hphase, Int.add_zero, Int.sub_zero, ite_self]
  exact clampInc_of_bounds (clampInc_bounds _)

/-- The servo moves no register, memory or picture. -/
theorem servo_other (err : Int) : (servo err s).regs = s.regs ∧ (servo err s).mem = s.mem ∧ (servo err s).dsp = s.dsp := by
  unfold servo
  split
  · exact ⟨rfl, rfl, rfl⟩
  · exact ⟨rfl, rfl, rfl⟩

end servo

/-! ### A Sync message (R25, R27, R458) -/

section sync

variable (s : State)

/-- The first Sync since discipline began sets the offset. -/
def firstOffset (origin : Int) : State :=
  if !s.time.offsetSet then { setTaiOffset s (origin + s.time.pathDelay - now s) with time := { s.time with offsetSet := true } } else s

/-- The phase error of a Sync received at `t`. -/
def syncError (t : Nat) (origin : Int) : Int := (t : Int) + taiOffset s - (origin + s.time.pathDelay)

/-- An error of 1 ms or more steps the offset. -/
def stepLarge (err : Int) : State := if 1000000 ≤ err.natAbs then stepOffset err s else s

/-- The Sync is kept as the last one, and the intervals are counted. -/
def recordSync (t : Nat) (origin : Int) (good : Nat) (offs : List Nat) (interval : Nat) : State :=
  { s with time := { s.time with lastSync := some t, syncOpen := true, lastOrigin := origin, syncGood := good, offsets := offs, syncInterval := interval } }

/-- The lock condition of 16 good intervals. -/
def lockPtp (good : Nat) : State :=
  if 16 ≤ good then
    let s := { s with time := { s.time with ptpLocked := true } }
    if rdF s TIME_STATUS.STATE = TS_LOCKED ∧ rdF s TIME_STATUS.SOURCE_ACTIVE = SRC_PTP then s
    else setTimeState (stopTimer s) TS_LOCKED SRC_PTP
  else s

/-- What a Sync does once the offset is right: it is recorded, steers the servo and asks for the delay, and PTP may lock. -/
def takeSync (left : Int) (t : Nat) (origin : Int) (good : Nat) (offs : List Nat) (interval : Nat) : State :=
  lockPtp (requestDelay (servo left (recordSync s t origin good offs interval))) good

/-- The offset as a Sync leaves it: set by the first, stepped by a large error. -/
def rightOffset (origin : Int) : State := stepLarge (firstOffset s origin) (syncError (firstOffset s origin) (now s) origin)

/-- A Sync that the time unit takes, stage by stage. -/
theorem ptpSync_eq {ident domain : Nat} (origin : Int) (hsel : ptpSelected s = true) (hdom : domain = rdF s TIME_CTRL.PTP_DOMAIN)
    (hmaster : s.time.master = some ident) :
    ∃ left good offs interval, ptpSync ident domain origin s =
      takeSync (rightOffset s origin) left (now s) origin good offs interval := by
  have htake : ¬ (ptpSelected s = false ∨ domain ≠ rdF s TIME_CTRL.PTP_DOMAIN ∨ s.time.master ≠ some ident) := by simp [hsel, hdom, hmaster]
  rw [ptpSync, if_neg htake]
  extract_lets t first setTai record s1 err s2 left measured good offs interval
  exact ⟨left, good, offs, interval, rfl⟩

/-! What the stages before the servo leave. -/

theorem firstOffset_of_set (origin : Int) (h : s.time.offsetSet = true) : firstOffset s origin = s := by
  rw [firstOffset, h]
  rfl

theorem firstOffset_time (origin : Int) : ∃ b, (firstOffset s origin).time = { s.time with offsetSet := b } := by
  unfold firstOffset
  split
  · exact ⟨true, rfl⟩
  · exact ⟨s.time.offsetSet, rfl⟩

theorem firstOffset_other (origin : Int) : (firstOffset s origin).mem = s.mem ∧ (firstOffset s origin).dsp = s.dsp := by
  unfold firstOffset
  split
  · exact ⟨rfl, rfl⟩
  · exact ⟨rfl, rfl⟩

theorem rdF_firstOffset_apart (origin : Int) {f : Fld} (hr : f.reg = .TIME_STATUS) (hf : f.ok = true)
    (ha : TIME_STATUS.OFFSET_VALID.apart f = true) : rdF (firstOffset s origin) f = rdF s f := by
  unfold firstOffset
  split
  · exact rdF_setTaiOffset_apart s (origin + s.time.pathDelay - now s) hr hf ha
  · rfl

/-- The offset, the count of steps and OFFSET_STEP as a step writes them. -/
def writeStep (err : Int) : State := raiseF (incF (setTaiOffset s (taiOffset s - err)) TIME_STEP_COUNT.STEPS) TIME_STATUS.OFFSET_STEP

/-- A step writes its registers and is logged. -/
theorem reportsOnly_stepOffset (err : Int) : ReportsOnly (writeStep s err) (stepOffset err s) := by
  unfold stepOffset writeStep
  exact reportsOnly_writeLog _ _ _ _ _ _ _

/-- A step leaves the record of the time unit, memory and pictures alone. -/
theorem stepOffset_other (err : Int) :
    (stepOffset err s).time = s.time ∧ (stepOffset err s).mem = s.mem ∧ (stepOffset err s).dsp = s.dsp := by
  have h := reportsOnly_stepOffset s err
  rw [h.time, h.mem, h.dsp]
  simp [writeStep]

theorem stepLarge_other (err : Int) :
    (stepLarge s err).time = s.time ∧ (stepLarge s err).mem = s.mem ∧ (stepLarge s err).dsp = s.dsp := by
  unfold stepLarge
  split
  · exact stepOffset_other s err
  · exact ⟨rfl, rfl, rfl⟩

/-- A step keeps the fields of TIME_STATUS that say neither that the offset is valid nor that it stepped. -/
theorem rdF_stepLarge_apart (err : Int) {f : Fld} (hr : f.reg = .TIME_STATUS) (hf : f.ok = true)
    (ha : TIME_STATUS.OFFSET_VALID.apart f = true ∧ TIME_STATUS.OFFSET_STEP.apart f = true) : rdF (stepLarge s err) f = rdF s f := by
  unfold stepLarge
  split
  · rw [(reportsOnly_stepOffset s err).rdF_eq f (by rw [hr]; rfl), writeStep, rdF_raiseF_apart _ _ hr rfl hf ha.2, rdF, hr,
      rd_incF_ne _ _ (by decide), ← hr, ← rdF, rdF_setTaiOffset_apart _ _ hr hf ha.1]
  · rfl

theorem rightOffset_time (origin : Int) : ∃ b, (rightOffset s origin).time = { s.time with offsetSet := b } := by
  rw [rightOffset, (stepLarge_other _ _).1]
  exact firstOffset_time s origin

theorem rightOffset_other (origin : Int) : (rightOffset s origin).mem = s.mem ∧ (rightOffset s origin).dsp = s.dsp := by
  obtain ⟨-, hmem, hdsp⟩ := stepLarge_other (firstOffset s origin) (syncError (firstOffset s origin) (now s) origin)
  obtain ⟨hm, hd⟩ := firstOffset_other s origin
  exact ⟨hmem.trans hm, hdsp.trans hd⟩

theorem rdF_rightOffset_apart (origin : Int) {f : Fld} (hr : f.reg = .TIME_STATUS) (hf : f.ok = true)
    (ha : TIME_STATUS.OFFSET_VALID.apart f = true ∧ TIME_STATUS.OFFSET_STEP.apart f = true) : rdF (rightOffset s origin) f = rdF s f := by
  rw [rightOffset, rdF_stepLarge_apart _ _ hr hf ha, rdF_firstOffset_apart _ _ hr hf ha.1]

/-- Once the offset has been set, a large error steps it. -/
theorem rightOffset_of_large {origin : Int} (hset : s.time.offsetSet = true) (hlarge : 1000000 ≤ (syncError s (now s) origin).natAbs) :
    rightOffset s origin = stepOffset (syncError s (now s) origin) s := by
  rw [rightOffset, firstOffset_of_set s origin hset, stepLarge, if_pos hlarge]

/-! The three marks of a step (R25). -/

theorem rdF_steps_stepOffset (err : Int) :
    rdF (stepOffset err s) TIME_STEP_COUNT.STEPS = min (rdF s TIME_STEP_COUNT.STEPS + 1) 0xFFFFFFFF := by
  have hset : rdF (setTaiOffset s (taiOffset s - err)) TIME_STEP_COUNT.STEPS = rdF s TIME_STEP_COUNT.STEPS := by
    rw [rdF, rd_setTaiOffset_ne _ _ (by decide) (by decide) (by decide), rdF]
  rw [(reportsOnly_stepOffset s err).rdF_eq _ rfl, writeStep, rdF, rd_raiseF_ne _ _ (by decide), ← rdF, rdF_incF_same _ _ _ rfl, hset]
  rfl

theorem flag_step_stepOffset (err : Int) : flag (stepOffset err s) TIME_STATUS.OFFSET_STEP = true := by
  rw [flag, (reportsOnly_stepOffset s err).rdF_eq _ rfl, ← flag]
  exact flag_raiseF_same _ _ rfl rfl

theorem rd64_stepOffset (err : Int) :
    rd64 (stepOffset err s) .TIME_TAI_OFFSET_LO .TIME_TAI_OFFSET_HI = unsigned 64 (taiOffset s - err) := by
  have hkeep : ∀ r : Reg, isReport r = false → r.key ≠ Reg.TIME_STATUS.key → r.key ≠ Reg.TIME_STEP_COUNT.key →
      rd (stepOffset err s) r = rd (setTaiOffset s (taiOffset s - err)) r := fun r hr hst hsc => by
    rw [(reportsOnly_stepOffset s err).rd_eq r hr, writeStep, rd_raiseF_ne _ _ hst, rd_incF_ne _ _ hsc]
  rw [← rd64_setTaiOffset s, rd64, rd64, hkeep _ rfl (by decide) (by decide), hkeep _ rfl (by decide) (by decide)]

/-! What the stages from the servo on leave. -/

theorem lockPtp_cases (good : Nat) :
    (∃ b, lockPtp s good = { s with time := { s.time with ptpLocked := b } })
    ∨ lockPtp s good = setTimeState { s with time := { s.time with ptpLocked := true, holdTimer := none } } TS_LOCKED SRC_PTP := by
  unfold lockPtp
  dsimp only
  split
  · split
    · exact .inl ⟨true, rfl⟩
    · exact .inr rfl
  · exact .inl ⟨s.time.ptpLocked, rfl⟩

theorem lockPtp_time (good : Nat) : ∃ b h, (lockPtp s good).time = { s.time with ptpLocked := b, holdTimer := h } := by
  rcases lockPtp_cases s good with ⟨b, h⟩ | h
  · exact ⟨b, s.time.holdTimer, by rw [h]⟩
  · exact ⟨true, none, by rw [h, setTimeState_time]⟩

theorem lockPtp_other (good : Nat) : (lockPtp s good).mem = s.mem ∧ (lockPtp s good).dsp = s.dsp := by
  rcases lockPtp_cases s good with ⟨b, h⟩ | h
  · rw [h]
    exact ⟨rfl, rfl⟩
  · rw [h, setTimeState_mem, setTimeState_dsp]
    exact ⟨rfl, rfl⟩

theorem rdF_lockPtp_apart (good : Nat) {f : Fld} (hr : f.reg = .TIME_STATUS) (hf : f.ok = true)
    (ha : TIME_STATUS.STATE.apart f = true ∧ TIME_STATUS.SOURCE_ACTIVE.apart f = true) : rdF (lockPtp s good) f = rdF s f := by
  rcases lockPtp_cases s good with ⟨b, h⟩ | h
  · rw [h]
    rfl
  · rw [h, rdF_setTimeState_apart _ _ _ hr hf ha]
    rfl

theorem rd_lockPtp_ne (good : Nat) {q : Reg} (hq : q.key ≠ Reg.TIME_STATUS.key) (hrep : isReport q = false) : rd (lockPtp s good) q = rd s q := by
  rcases lockPtp_cases s good with ⟨b, h⟩ | h
  · rw [h]
    rfl
  · rw [h, rd_setTimeState_ne _ _ _ hq hrep]
    rfl

section takes

variable (left : Int) (t : Nat) (origin : Int) (good : Nat) (offs : List Nat) (interval : Nat)

theorem takeSync_other : (takeSync s left t origin good offs interval).mem = s.mem ∧ (takeSync s left t origin good offs interval).dsp = s.dsp := by
  obtain ⟨-, hmem, hdsp⟩ := servo_other (recordSync s t origin good offs interval) left
  obtain ⟨hm, hd⟩ := lockPtp_other (requestDelay (servo left (recordSync s t origin good offs interval))) good
  exact ⟨hm.trans hmem, hd.trans hdsp⟩

theorem requestDelay_servo_regs : (requestDelay (servo left (recordSync s t origin good offs interval))).regs = s.regs :=
  (servo_other (recordSync s t origin good offs interval) left).1

theorem rdF_takeSync_apart {f : Fld} (hr : f.reg = .TIME_STATUS) (hf : f.ok = true)
    (ha : TIME_STATUS.STATE.apart f = true ∧ TIME_STATUS.SOURCE_ACTIVE.apart f = true) :
    rdF (takeSync s left t origin good offs interval) f = rdF s f := by
  rw [takeSync, rdF_lockPtp_apart _ _ hr hf ha, rdF_congr (requestDelay_servo_regs s left t origin good offs interval)]

theorem rd_takeSync_ne {q : Reg} (hq : q.key ≠ Reg.TIME_STATUS.key) (hrep : isReport q = false) :
    rd (takeSync s left t origin good offs interval) q = rd s q := by
  rw [takeSync, rd_lockPtp_ne _ _ hq hrep, rd_congr (requestDelay_servo_regs s left t origin good offs interval)]

/-- While house sync is active, a Sync is recorded and TIME_INC stays. -/
theorem takeSync_time_house (h : rdF s TIME_STATUS.SOURCE_ACTIVE = SRC_HOUSE) : ∃ b e, (takeSync s left t origin good offs interval).time =
    { (recordSync s t origin good offs interval).time with ptpLocked := b, holdTimer := e } := by
  obtain ⟨b, e, htime⟩ := lockPtp_time (requestDelay (servo left (recordSync s t origin good offs interval))) good
  have hservo : servo left (recordSync s t origin good offs interval) = recordSync s t origin good offs interval := servo_house _ _ h
  have hreq : (requestDelay (recordSync s t origin good offs interval)).time = (recordSync s t origin good offs interval).time := rfl
  rw [hservo] at htime
  exact ⟨b, e, by rw [takeSync, hservo, htime, hreq]⟩

/-- Elsewhere a Sync is recorded and sets the estimate and TIME_INC. -/
theorem takeSync_time (h : rdF s TIME_STATUS.SOURCE_ACTIVE ≠ SRC_HOUSE) : ∃ b e f i, (takeSync s left t origin good offs interval).time =
      { (recordSync s t origin good offs interval).time with ptpLocked := b, holdTimer := e, freq := f, inc := i }
    ∧ (INC_MIN ≤ i ∧ i ≤ INC_MAX) ∧ (rdF s TIME_STATUS.STATE = TS_HOLDOVER → i = f) := by
  obtain ⟨b, e, htime⟩ := lockPtp_time (requestDelay (servo left (recordSync s t origin good offs interval))) good
  obtain ⟨f, i, hservo, hbounds, hhold⟩ := servo_time (recordSync s t origin good offs interval) left h
  refine ⟨b, e, f, i, ?_, hbounds, hhold⟩
  have hreq : (requestDelay (servo left (recordSync s t origin good offs interval))).time = (servo left (recordSync s t origin good offs interval)).time := rfl
  rw [takeSync, htime, hreq, hservo]

end takes

end sync

/-! ### PTP messages -/

/-- The end of an event does not look at the record of the time unit but for the stamp. -/
theorem settle_regs_of_time (s : State) (u : TimeUnit) : (settle { s with time := u }).regs = (settle s).regs := rfl

section messages

variable {s : State} {t : Nat}

theorem runs_ptpSync {ident domain : Nat} {origin : Int} {P : State → Prop} (hrun : s.pwr.phase = .run) (hsel : ptpSelected s = true)
    (hdom : domain = rdF s TIME_CTRL.PTP_DOMAIN) (hmaster : s.time.master = some ident)
    (hP : ∀ left good offs interval,
      P (settle (takeSync (rightOffset (begin t s) origin) left (now (begin t s)) origin good offs interval))) :
    Runs (.ptpSync t ident domain origin) s P := by
  refine runs_of_act t (ptpSync ident domain origin) hrun rfl ?_
  obtain ⟨left, good, offs, interval, h⟩ := ptpSync_eq (begin t s) origin (by simpa using hsel) (by simpa using hdom) (by simpa using hmaster)
  rw [h]
  exact hP left good offs interval

/-- A Sync leaves memory and pictures alone. -/
theorem settle_takeSync_other (origin left : Int) (good : Nat) (offs : List Nat) (interval : Nat) :
    (settle (takeSync (rightOffset (begin t s) origin) left (now (begin t s)) origin good offs interval)).mem = s.mem
    ∧ (settle (takeSync (rightOffset (begin t s) origin) left (now (begin t s)) origin good offs interval)).dsp = s.dsp := by
  obtain ⟨hm, hd⟩ := takeSync_other (rightOffset (begin t s) origin) left (now (begin t s)) origin good offs interval
  obtain ⟨hmem, hdsp⟩ := rightOffset_other (begin t s) origin
  exact ⟨by rw [settle_mem, hm, hmem, begin_mem], by rw [settle_dsp, hd, hdsp, begin_dsp]⟩

theorem runs_sync {ident domain : Nat} {origin : Int} (hrun : s.pwr.phase = .run) (hsel : ptpSelected s = true)
    (hdom : domain = rdF s TIME_CTRL.PTP_DOMAIN) (hmaster : s.time.master = some ident) (hsrc : rdF s TIME_STATUS.SOURCE_ACTIVE ≠ SRC_HOUSE) :
    Runs (.ptpSync t ident domain origin) s (fun u => u.time.lastSync = some (now (begin t s)) ∧ u.time.lastOrigin = origin
      ∧ INC_MIN ≤ u.time.inc ∧ u.time.inc ≤ INC_MAX ∧ (rdF s TIME_STATUS.STATE = TS_HOLDOVER → u.time.inc = u.time.freq)
      ∧ u.time.masters = s.time.masters ∧ u.mem = s.mem ∧ u.dsp = s.dsp) := by
  refine runs_ptpSync hrun hsel hdom hmaster fun left good offs interval => ?_
  have hstatus : ∀ f : Fld, f.reg = .TIME_STATUS → f.ok = true → TIME_STATUS.OFFSET_VALID.apart f = true ∧ TIME_STATUS.OFFSET_STEP.apart f = true →
      rdF (rightOffset (begin t s) origin) f = rdF s f := fun f hr hf ha => by rw [rdF_rightOffset_apart _ _ hr hf ha, rdF_begin]
  obtain ⟨b, hoffset⟩ := rightOffset_time (begin t s) origin
  have hmasters : (rightOffset (begin t s) origin).time.masters = s.time.masters := by rw [hoffset, ← begin_masters t s]
  obtain ⟨l, e, f, i, htime, ⟨hmin, hmax⟩, hhold⟩ :=
    takeSync_time (rightOffset (begin t s) origin) left (now (begin t s)) origin good offs interval (by rwa [hstatus _ rfl rfl ⟨rfl, rfl⟩])
  rw [hstatus _ rfl rfl ⟨rfl, rfl⟩] at hhold
  refine ⟨?_, ?_, ?_, ?_, ?_, ?_, settle_takeSync_other origin left good offs interval⟩ <;> rw [settle_time, htime]
  · rfl
  · rfl
  · exact hmin
  · exact hmax
  · exact hhold
  · rw [← hmasters]
    rfl

theorem runs_sync_house {ident domain : Nat} {origin : Int} (hrun : s.pwr.phase = .run) (hsel : ptpSelected s = true)
    (hdom : domain = rdF s TIME_CTRL.PTP_DOMAIN) (hmaster : s.time.master = some ident) (hsrc : rdF s TIME_STATUS.SOURCE_ACTIVE = SRC_HOUSE) :
    Runs (.ptpSync t ident domain origin) s (fun u => u.time.lastSync = some (now (begin t s)) ∧ u.time.lastOrigin = origin
      ∧ u.time.inc = s.time.inc ∧ u.mem = s.mem ∧ u.dsp = s.dsp) := by
  refine runs_ptpSync hrun hsel hdom hmaster fun left good offs interval => ?_
  obtain ⟨b, hoffset⟩ := rightOffset_time (begin t s) origin
  have hinc : (rightOffset (begin t s) origin).time.inc = s.time.inc := by rw [hoffset, ← begin_inc t s]
  obtain ⟨l, e, htime⟩ := takeSync_time_house (rightOffset (begin t s) origin) left (now (begin t s)) origin good offs interval
    (by rwa [rdF_rightOffset_apart _ _ rfl rfl ⟨rfl, rfl⟩, rdF_begin])
  refine ⟨?_, ?_, ?_, settle_takeSync_other origin left good offs interval⟩ <;> rw [settle_time, htime]
  · rfl
  · rfl
  · rw [← hinc]
    rfl

/-- Settles O2: the stages of a Sync after the step keep the three marks that the step sets. -/
theorem ptpStep : Obligations.PtpStep := by
  unfold Obligations.PtpStep
  intro s t ident domain origin _ hrun hsel hdom hmaster hset hlarge
  refine runs_ptpSync hrun hsel hdom hmaster fun left good offs interval => ?_
  have herr : syncError (begin t s) (now (begin t s)) origin = (now (begin t s) : Int) + taiOffset s - (origin + s.time.pathDelay) := by
    rw [syncError, taiOffset_begin, begin_pathDelay]
  rw [rightOffset_of_large (begin t s) (by rwa [begin_offsetSet]) (by rwa [herr]), herr]
  refine ⟨?_, ?_, ?_⟩
  · rw [rdF_settle _ _ rfl, rdF, rd_takeSync_ne _ _ _ _ _ _ _ (by decide) rfl, ← rdF, rdF_steps_stepOffset, rdF_begin]
  · rw [flag_settle _ _ rfl, flag, rdF_takeSync_apart _ _ _ _ _ _ _ rfl rfl ⟨rfl, rfl⟩, ← flag, flag_step_stepOffset]
  · rw [rd64, rd_settle _ _ rfl, rd_settle _ _ rfl, rd_takeSync_ne _ _ _ _ _ _ _ (by decide) rfl, rd_takeSync_ne _ _ _ _ _ _ _ (by decide) rfl,
      ← rd64, rd64_stepOffset, taiOffset_begin]

/-- The master that an Announce message tells of. -/
def announced (t ident : Nat) (rank : List Nat) (logSync logAnnounce : Int) (ptpScale : Bool) : PtpMaster :=
  { ident, rank, logSync, logAnnounce, lastAnnounce := t, qualified := ptpScale && decide (-4 ≤ logSync ∧ logSync ≤ 1) }

/-- A master heard, in place of what was heard of it before. -/
def hearMaster (m : PtpMaster) (s : State) : State :=
  { s with time := { s.time with masters := m :: s.time.masters.filter (fun x => x.ident ≠ m.ident) } }

/-- An Announce message of the domain enters its master, and the best one is selected (R26). -/
theorem ptpAnnounce_eq {ident domain : Nat} {rank : List Nat} {logSync logAnnounce : Int} {ptpScale : Bool} (hsel : ptpSelected s = true)
    (hdom : domain = rdF s TIME_CTRL.PTP_DOMAIN) : ptpAnnounce ident rank domain logSync logAnnounce ptpScale s =
      selectMaster (hearMaster (announced (now s) ident rank logSync logAnnounce ptpScale) s) := by
  have htake : ¬ (ptpSelected s = false ∨ domain ≠ rdF s TIME_CTRL.PTP_DOMAIN) := by simp [hsel, hdom]
  rw [ptpAnnounce, if_neg htake]
  rfl

theorem runs_announce {ident domain : Nat} {rank : List Nat} {logSync logAnnounce : Int} {ptpScale : Bool} (hrun : s.pwr.phase = .run)
    (hsel : ptpSelected s = true) (hdom : domain = rdF s TIME_CTRL.PTP_DOMAIN) :
    Runs (.ptpAnnounce t ident rank domain logSync logAnnounce ptpScale) s (fun u => u.time.masters.any (fun (m : PtpMaster) =>
        decide (m.ident = ident ∧ m.rank = rank ∧ m.lastAnnounce = now (begin t s) ∧ m.qualified = (ptpScale && decide (-4 ≤ logSync ∧ logSync ≤ 1)))) = true
      ∧ u.regs = (settle (begin t s)).regs) := by
  refine runs_of_act t (ptpAnnounce ident rank domain logSync logAnnounce ptpScale) hrun rfl ?_
  rw [ptpAnnounce_eq (by simpa using hsel) (by simpa using hdom)]
  obtain ⟨m, o, g, h⟩ := selectMaster_other (hearMaster (announced (now (begin t s)) ident rank logSync logAnnounce ptpScale) (begin t s))
  rw [h]
  exact ⟨by simp [hearMaster, announced], settle_regs_of_time _ _⟩

/-- A measured path delay. -/
def setPathDelay (d : Int) (s : State) : State := { s with time := { s.time with pathDelay := d } }

/-- A response that the time unit ignores. -/
theorem ptpDelayResponse_ignored (ident : Nat) {domain : Nat} (egress : Nat) (peerRx peerTx : Int) (hdom : domain ≠ rdF s TIME_CTRL.PTP_DOMAIN) :
    ptpDelayResponse ident domain egress peerRx peerTx s = s := if_pos (.inr hdom)

/-- The delay of the default profile, by the Sync heard last. -/
theorem ptpDelayResponse_default {ident domain : Nat} (egress : Nat) (peerRx peerTx : Int) {l : Nat} (hsel : ptpSelected s = true)
    (hdom : domain = rdF s TIME_CTRL.PTP_DOMAIN) (hmaster : s.time.master = some ident) (hopen : s.time.syncOpen = true)
    (hprof : rdF s TIME_CTRL.PTP_PROFILE = 0) (hlast : s.time.lastSync = some l) :
    ptpDelayResponse ident domain egress peerRx peerTx s = setPathDelay (((l : Int) - s.time.lastOrigin + (peerRx - egress)) / 2) s := by
  have htake : ¬ (ptpSelected s = false ∨ domain ≠ rdF s TIME_CTRL.PTP_DOMAIN) := by simp [hsel, hdom]
  rw [ptpDelayResponse, if_neg htake, if_pos hprof, hlast, decide_eq_true ⟨hmaster, hopen⟩]
  rfl

/-- The delay of the other profile, by the peer. -/
theorem ptpDelayResponse_peer (ident : Nat) {domain : Nat} (egress : Nat) (peerRx peerTx : Int) (hsel : ptpSelected s = true)
    (hdom : domain = rdF s TIME_CTRL.PTP_DOMAIN) (hprof : rdF s TIME_CTRL.PTP_PROFILE ≠ 0) :
    ptpDelayResponse ident domain egress peerRx peerTx s = setPathDelay (((now s : Int) - egress - (peerTx - peerRx)) / 2) s := by
  have htake : ¬ (ptpSelected s = false ∨ domain ≠ rdF s TIME_CTRL.PTP_DOMAIN) := by simp [hsel, hdom]
  rw [ptpDelayResponse, if_neg htake, if_neg hprof]
  rfl

/-- A claim about a response that measures the delay. -/
theorem runs_delay {ident domain egress : Nat} {peerRx peerTx d : Int} (hrun : s.pwr.phase = .run)
    (h : ptpDelayResponse ident domain egress peerRx peerTx (begin t s) = setPathDelay d (begin t s)) :
    Runs (.ptpDelayResponse t ident domain egress peerRx peerTx) s (fun u => u.time.pathDelay = d ∧ u.regs = (settle (begin t s)).regs) := by
  refine runs_of_act t (ptpDelayResponse ident domain egress peerRx peerTx) hrun rfl ?_
  rw [h]
  exact ⟨rfl, settle_regs_of_time _ _⟩

end messages

/-- Settles O1, message by message. -/
theorem ptpMessages : Obligations.PtpMessages := by
  unfold Obligations.PtpMessages
  refine ⟨?sync, ?house, ?announce, ?delay, ?peer, ?other⟩
  case sync => exact fun s t ident domain origin _ hrun hsel hdom hmaster hsrc => runs_sync hrun hsel hdom hmaster hsrc
  case house => exact fun s t ident domain origin _ hrun hsel hdom hmaster hsrc => runs_sync_house hrun hsel hdom hmaster hsrc
  case announce => exact fun s t ident rank domain logSync logAnnounce ptpScale _ hrun hsel hdom => runs_announce hrun hsel hdom
  case delay =>
    intro s t ident domain egress peerRx peerTx l _ hrun hsel hdom hmaster hopen hprof hlast
    refine runs_delay hrun ?_
    rw [ptpDelayResponse_default egress peerRx peerTx (by simpa using hsel) (by simpa using hdom) (by simpa using hmaster) (by simpa using hopen)
      (by simpa using hprof) (by simpa using hlast), begin_lastOrigin]
  case peer =>
    intro s t ident domain egress peerRx peerTx _ hrun hsel hdom hprof
    exact runs_delay hrun (ptpDelayResponse_peer ident egress peerRx peerTx (by simpa using hsel) (by simpa using hdom) (by simpa using hprof))
  case other =>
    intro s t ident domain egress peerRx peerTx _ hrun hdom
    refine runs_of_act t (ptpDelayResponse ident domain egress peerRx peerTx) hrun rfl ?_
    rw [ptpDelayResponse_ignored ident egress peerRx peerTx (by simpa using hdom)]
    exact ⟨begin_pathDelay t s, rfl⟩

/-! ### Time states and the offset written (R25, R29, R30, R458) -/

/-- An unlocked write of a register leaves an RW or LK field as it was written. -/
theorem bitsOf_fieldWrite_of_unlocked {r : Reg} {f : FieldSpec} (old v : Nat) (hf : f ∈ r.fields) (hacc : f.acc = .rw ∨ f.acc = .lk)
    (hhi : f.hi < 32) : bitsOf (BitVec.ofNat 32 (fieldWrite false r.fields old v)).toNat f.hi f.lo = bitsOf v f.hi f.lo := by
  refine Nat.eq_of_testBit_eq fun j => ?_
  rw [testBit_bitsOf, testBit_bitsOf, BitVec.toNat_ofNat, Nat.testBit_mod_two_pow]
  by_cases hj : j < f.hi + 1 - f.lo
  · have hword : f.lo + j < 32 := by omega
    rw [testBit_fieldWrite_field _ _ _ _ (fieldsOk_fields r) hf (by omega) (by omega), decide_eq_true hword]
    rcases hacc with h | h <;> rw [h] <;> rfl
  · simp [hj]

section registers

variable {s : State} {t : Nat}

theorem masterDue_begin : masterDue (begin t s) =
    s.time.masters.any (fun m => announceDue (now (begin t s)) m && decide (some m.ident = s.time.master)) := by
  rw [masterDue, begin_masters, begin_master]

/-- A time state survives the end of a command that changes it last. -/
theorem rdF_state_settle (u : State) : rdF (settle u) TIME_STATUS.STATE = rdF u TIME_STATUS.STATE := rdF_settle _ _ rfl

/-- The announce timeout drops the masters that are due, and leaves memory alone. -/
theorem ptpAnnounceTimeout_other (s : State) :
    (ptpAnnounceTimeout s).time.masters = s.time.masters.filter (fun m => !(announceDue (now s) m)) ∧ (ptpAnnounceTimeout s).mem = s.mem := by
  have hselect : ∀ u : State, (selectMaster u).time.masters = u.time.masters ∧ (selectMaster u).mem = u.mem := fun u => by
    obtain ⟨m, o, g, h⟩ := selectMaster_other u
    rw [h]
    exact ⟨rfl, rfl⟩
  rw [ptpAnnounceTimeout_eq]
  split
  · exact ⟨rfl, rfl⟩
  · rw [(hselect _).1, (hselect _).2]
    split
    · exact ⟨(ptpLost_time _).1, ptpLost_mem _⟩
    · exact ⟨rfl, rfl⟩

theorem runs_announceTimeout (hrun : s.pwr.phase = .run) : Runs (.ptpAnnounceTimeout t) s (fun u =>
    u.time.masters = s.time.masters.filter (fun m => !(announceDue (now (begin t s)) m)) ∧ u.mem = s.mem) := by
  refine runs_of_act t ptpAnnounceTimeout hrun rfl ?_
  obtain ⟨hmasters, hmem⟩ := ptpAnnounceTimeout_other (begin t s)
  rw [settle_time, settle_mem, hmasters, hmem, begin_masters, begin_mem]
  exact ⟨rfl, rfl⟩

theorem runs_announceTimeout_lost (hrun : s.pwr.phase = .run)
    (hdue : s.time.masters.any (fun m => announceDue (now (begin t s)) m && decide (some m.ident = s.time.master)) = true) :
    Runs (.ptpAnnounceTimeout t) s (fun u => u.time.lastSync = none ∧ u.time.ptpLocked = false
      ∧ (rdF s TIME_STATUS.STATE = TS_LOCKED ∧ rdF s TIME_STATUS.SOURCE_ACTIVE = SRC_PTP → rdF u TIME_STATUS.STATE = TS_HOLDOVER)) := by
  refine runs_of_act t ptpAnnounceTimeout hrun rfl ?_
  rw [ptpAnnounceTimeout_lost (begin t s) (by rwa [masterDue_begin])]
  obtain ⟨m, o, g, h⟩ := selectMaster_other (ptpLost (dropMasters (begin t s)))
  obtain ⟨-, hlast, hlocked⟩ := ptpLost_time (dropMasters (begin t s))
  rw [h, rdF_state_settle]
  refine ⟨hlast, hlocked, fun hptp => ?_⟩
  rw [← rdF_begin t s, ← rdF_begin t s] at hptp
  have hlost := rdF_state_enterHoldover (dropPtp (dropMasters (begin t s))) (decide (rdF (begin t s) TIME_CTRL.SRC = 3) && (begin t s).time.houseLocked)
  exact (congrArg (rdF · TIME_STATUS.STATE) (ptpLost_locked (dropMasters (begin t s)) hptp)).trans hlost

theorem runs_syncLoss {l : Nat} (hrun : s.pwr.phase = .run) (hlast : s.time.lastSync = some l)
    (hdue : 2 * l + 9 * s.time.syncInterval ≤ 2 * now (begin t s)) (hstate : rdF s TIME_STATUS.STATE = TS_LOCKED)
    (hactive : rdF s TIME_STATUS.SOURCE_ACTIVE = SRC_PTP) (hsrc : rdF s TIME_CTRL.SRC = 1) :
    Runs (.ptpSyncLoss t) s (fun u => rdF u TIME_STATUS.STATE = TS_HOLDOVER ∧ u.time.holdTimer = some (now (begin t s)) ∧ u.time.inc = s.time.freq) := by
  refine runs_of_act t ptpSyncLoss hrun rfl ?_
  have hloss : ptpSyncLoss (begin t s) = enterHoldover (dropPtp (begin t s)) false := by
    have hwindow : ¬ 2 * now (begin t s) < 2 * l + 9 * (begin t s).time.syncInterval := by rw [begin_syncInterval]; omega
    have hother : decide (rdF (begin t s) TIME_CTRL.SRC = 3) = false := by rw [rdF_begin, hsrc]; rfl
    rw [ptpSyncLoss, begin_lastSync, hlast]
    dsimp only
    rw [if_neg hwindow, ptpLost_locked _ (by rw [rdF_begin, rdF_begin]; exact ⟨hstate, hactive⟩), hother, Bool.false_and]
  rw [hloss, rdF_state_settle, rdF_state_enterHoldover, settle_time, enterHoldover_time]
  exact ⟨rfl, rfl, begin_freq t s⟩

theorem runs_holdoverExpiry {h : Nat} (hrun : s.pwr.phase = .run) (htimer : s.time.holdTimer = some h)
    (hstate : rdF s TIME_STATUS.STATE = TS_HOLDOVER) (hdue : h + rdF s TIME_CTRL.HOLDOVER_MAX * 10 ^ 9 ≤ now (begin t s)) :
    Runs (.holdoverExpiry t) s (fun u => rdF u TIME_STATUS.STATE = TS_FREE ∧ u.time.holdTimer = none) := by
  refine runs_of_act t holdoverExpiry hrun rfl ?_
  have hexpiry : holdoverExpiry (begin t s) = setTimeState (stopTimer (begin t s)) TS_FREE SRC_NONE := by
    rw [holdoverExpiry, begin_holdTimer, htimer]
    exact if_pos (by rw [rdF_begin, rdF_begin]; exact ⟨hstate, hdue⟩)
  rw [hexpiry, rdF_state_settle, rdF_state_setTimeState _ _ (by decide), settle_time, setTimeState_time]
  exact ⟨rfl, rfl⟩

/-- A discipline that starts afresh is in FREE, and leaves the registers outside TIME_STATUS alone. -/
theorem rdF_restartDiscipline (s : State) : rdF (restartDiscipline s) TIME_STATUS.STATE = TS_FREE
    ∧ ∀ q : Reg, q.key ≠ Reg.TIME_STATUS.key → isReport q = false → rd (restartDiscipline s) q = rd s q := by
  unfold restartDiscipline
  exact ⟨rdF_state_setTimeState _ _ (by decide), fun q hq hrep => rd_setTimeState_ne _ _ _ hq hrep⟩

theorem onBar0_of_run (f : State → State) {u : State} (h : rdF u BOOT_STATUS.STAGE = 6) : onBar0 f u = f u := if_pos h

theorem runs_srcWrite {v : Word} (hrun : s.pwr.phase = .run) (hstage : rdF s BOOT_STATUS.STAGE = 6) (hlock : locked s = false)
    (hadm : admitted (Reg.fields .TIME_CTRL) v.toNat = true)
    (hmove : bitsOf v.toNat TIME_CTRL.SRC.hi TIME_CTRL.SRC.lo ≠ rdF s TIME_CTRL.SRC) :
    Runs (.timeSrcWrite t v) s (fun u => rdF u TIME_STATUS.STATE = TS_FREE ∧ rdF u TIME_CTRL.SRC = bitsOf v.toNat TIME_CTRL.SRC.hi TIME_CTRL.SRC.lo) := by
  refine runs_of_act t (onBar0 (writeTimeCtrl v.toNat)) hrun rfl ?_
  have hsrc : rdF (writeFields (begin t s) .TIME_CTRL v.toNat) TIME_CTRL.SRC = bitsOf v.toNat TIME_CTRL.SRC.hi TIME_CTRL.SRC.lo := by
    rw [writeFields_eq_wr _ rfl v.isLt (.inl (by rwa [locked_begin])), locked_begin, hlock, rdF]
    exact (congrArg (fun w : Word => bitsOf w.toNat 1 0) (rd_wr_same _ _ _)).trans
      (bitsOf_fieldWrite_of_unlocked (f := ⟨1, 0, .lk, []⟩) _ _ (by decide) (.inr rfl) (by decide))
  have hmoved : ¬ rdF (writeFields (begin t s) .TIME_CTRL v.toNat) TIME_CTRL.SRC = rdF (begin t s) TIME_CTRL.SRC := by rwa [hsrc, rdF_begin]
  have hwrite : writeTimeCtrl v.toNat (begin t s) = restartDiscipline (writeFields (begin t s) .TIME_CTRL v.toNat) := by
    rw [writeTimeCtrl, hadm]
    exact if_neg hmoved
  obtain ⟨hfree, hkeep⟩ := rdF_restartDiscipline (writeFields (begin t s) .TIME_CTRL v.toNat)
  rw [onBar0_of_run _ (by rwa [rdF_begin]), hwrite, rdF_state_settle, hfree, rdF_settle _ _ rfl, rdF, hkeep _ (by decide) rfl, ← rdF, hsrc]
  exact ⟨rfl, rfl⟩

theorem runs_taiLo {v : Word} (hrun : s.pwr.phase = .run) (hstage : rdF s BOOT_STATUS.STAGE = 6) :
    Runs (.taiOffsetLoWrite t v) s (fun u => u.time.heldLo = some v ∧ RegsKept s u []) := by
  refine runs_of_act t (onBar0 (writeTaiLo v.toNat)) hrun rfl ?_
  rw [onBar0_of_run _ (by rwa [rdF_begin])]
  refine ⟨?_, regsKept_settle_of_regs (begin_regs s t)⟩
  rw [settle_time, writeTaiLo, BitVec.ofNat_toNat, BitVec.setWidth_eq]

/-- The two words of the offset, as they are written and as they read. -/
theorem words_setTaiOffset (s : State) (lo hi : Word) : rd (setTaiOffset s (signed 64 (lo.toNat + hi.toNat % 2 ^ 32 * 2 ^ 32))) .TIME_TAI_OFFSET_LO = lo
    ∧ rd (setTaiOffset s (signed 64 (lo.toNat + hi.toNat % 2 ^ 32 * 2 ^ 32))) .TIME_TAI_OFFSET_HI = hi := by
  have hpair := rd64_setTaiOffset s (signed 64 (lo.toNat + hi.toNat % 2 ^ 32 * 2 ^ 32))
  rw [rd64, unsigned_signed] at hpair
  generalize rd (setTaiOffset s _) .TIME_TAI_OFFSET_LO = x at hpair ⊢
  generalize rd (setTaiOffset s _) .TIME_TAI_OFFSET_HI = y at hpair ⊢
  constructor <;> bv_omega

theorem runs_taiHi {v lo : Word} (hrun : s.pwr.phase = .run) (hstage : rdF s BOOT_STATUS.STAGE = 6) (hsel : ptpSelected s = false)
    (hheld : s.time.heldLo = some lo) :
    Runs (.taiOffsetHiWrite t v) s (fun u => rd u .TIME_TAI_OFFSET_LO = lo ∧ rd u .TIME_TAI_OFFSET_HI = v
      ∧ flag u TIME_STATUS.OFFSET_VALID = true ∧ u.time.heldLo = none) := by
  refine runs_of_act t (onBar0 (writeTaiHi v.toNat)) hrun rfl ?_
  have hwrite : writeTaiHi v.toNat (begin t s) =
      setTaiOffset { begin t s with time := { (begin t s).time with heldLo := none } } (signed 64 (lo.toNat + v.toNat % 2 ^ 32 * 2 ^ 32)) := by
    rw [writeTaiHi, begin_heldLo, hheld]
    exact if_neg (by rw [Bool.not_eq_true]; exact (ptpSelected_begin t s).trans hsel)
  obtain ⟨hlo, hhi⟩ := words_setTaiOffset { begin t s with time := { (begin t s).time with heldLo := none } } lo v
  rw [onBar0_of_run _ (by rwa [rdF_begin]), hwrite, rd_settle _ _ rfl, rd_settle _ _ rfl, flag_settle _ _ rfl, hlo, hhi, flag_setTaiOffset,
    settle_time, setTaiOffset_time]
  exact ⟨rfl, rfl, rfl, rfl⟩

end registers

/-- Settles O3, command by command. -/
theorem timeRegisters : Obligations.TimeRegisters := by
  unfold Obligations.TimeRegisters
  refine ⟨?announce, ?lost, ?sync, ?expiry, ?src, ?lo, ?hi⟩
  case announce => exact fun s t _ hrun => runs_announceTimeout hrun
  case lost => exact fun s t _ hrun hdue => runs_announceTimeout_lost hrun hdue
  case sync => exact fun s t l _ hrun hlast hdue hstate hactive hsrc => runs_syncLoss hrun hlast hdue hstate hactive hsrc
  case expiry => exact fun s t h _ hrun htimer hstate hdue => runs_holdoverExpiry hrun htimer hstate hdue
  case src => exact fun s t v _ hrun hstage hlock hadm hmove => runs_srcWrite hrun hstage hlock hadm hmove
  case lo => exact fun s t v _ hrun hstage => runs_taiLo hrun hstage
  case hi => exact fun s t v lo _ hrun hstage hsel hheld => runs_taiHi hrun hstage hsel hheld

end Sys2Proof.Machine
end

section
/-! Clusters, contexts and plans: what each operation on them sets and leaves as it was (R160 to R170, R385). -/

namespace Sys2Proof.Machine

/-! ### Contexts and plans -/

section places

variable (s : State)

@[simp] theorem getCtx_setCtx_same (c : Nat) (x : Ctx) : getCtx (setCtx s c x) c = x := Sparse.get_set_same _ _ _ _
@[simp] theorem getPlan_setPlan_same (h : Nat) (p : HeadPlan) : getPlan (setPlan s h p) h = p := Sparse.get_set_same _ _ _ _
theorem getPlan_setPlan_ne {h g : Nat} (p : HeadPlan) (hne : g ≠ h) : getPlan (setPlan s h p) g = getPlan s g := Sparse.get_set_ne _ _ _ _ hne

/-- Contexts read alike in states that hold the same ones; so do clusters and plans. -/
theorem getCtx_congr {s t : State} (h : t.rnd.ctxs = s.rnd.ctxs) (c : Nat) : getCtx t c = getCtx s c := by rw [getCtx, getCtx, h]
theorem getCluster_congr {s t : State} (h : t.rnd.clusters = s.rnd.clusters) (k : Nat) : getCluster t k = getCluster s k := by
  rw [getCluster, getCluster, h]
theorem getPlan_congr {s t : State} (hp : t.rnd.plans = s.rnd.plans) (h : Nat) : getPlan t h = getPlan s h := by rw [getPlan, getPlan, hp]

@[simp] theorem getCtx_begin (t c : Nat) : getCtx (begin t s) c = getCtx s c := getCtx_congr (by rw [begin_rnd]) c
@[simp] theorem getCluster_begin (t k : Nat) : getCluster (begin t s) k = getCluster s k := getCluster_congr (by rw [begin_rnd]) k
@[simp] theorem getPlan_begin (t h : Nat) : getPlan (begin t s) h = getPlan s h := getPlan_congr (by rw [begin_rnd]) h
@[simp] theorem getCtx_settle (c : Nat) : getCtx (settle s) c = getCtx s c := rfl
@[simp] theorem getCluster_settle (k : Nat) : getCluster (settle s) k = getCluster s k := rfl
@[simp] theorem setCtx_mem (c : Nat) (x : Ctx) : (setCtx s c x).mem = s.mem := rfl
@[simp] theorem getPlan_incF (f : Fld) (n h : Nat) : getPlan (incF s f n) h = getPlan s h := rfl
@[simp] theorem rdF_setPlan (f : Fld) (h : Nat) (p : HeadPlan) : rdF (setPlan s h p) f = rdF s f := rfl
@[simp] theorem getPlan_settle (h : Nat) : getPlan (settle s) h = getPlan s h := rfl

end places

/-! ### A cluster that changes (R385) -/

/-- A domain that is switched on moves PWR_DOMAIN and the record of the rails alone. -/
theorem switchOn_other (d : Nat) (s : State) : (∃ g p, switchOn d s = { s with regs := g, pwr := p })
    ∧ ∀ r : Reg, r.key ≠ Reg.PWR_DOMAIN.key → rd (switchOn d s) r = rd s r := by
  unfold switchOn
  split
  · exact ⟨⟨s.regs, s.pwr, rfl⟩, fun _ _ => rfl⟩
  split
  · exact ⟨⟨_, _, rfl⟩, fun r hr => rd_wr_ne _ _ hr⟩
  · exact ⟨⟨s.regs, _, rfl⟩, fun _ _ => rfl⟩

/-- The record of cluster `k` replaced, as it stands before its domain follows. -/
def putCluster (s : State) (k : Nat) (x : Cluster) : State := { s with rnd := { s.rnd with clusters := Sparse.set {} s.rnd.clusters k x } }

/-- A cluster that changes moves beside its record PWR_DOMAIN, the record of the rails and the idle time of its domain alone. -/
theorem setCluster_other (s : State) (k : Nat) (x : Cluster) :
    (∃ g p i, setCluster s k x = { s with regs := g, pwr := p, rnd := { s.rnd with clusters := Sparse.set {} s.rnd.clusters k x, idleSince := i } })
    ∧ ∀ r : Reg, r.key ≠ Reg.PWR_DOMAIN.key → rd (setCluster s k x) r = rd s r := by
  have hset : setCluster s k x = if domainBusy (putCluster s k x) (k / 12) then
      (if domainBusy s (k / 12) then putCluster s k x else switchOn (10 + k / 12) (putCluster s k x))
      else if domainBusy s (k / 12) then
        { putCluster s k x with rnd := { (putCluster s k x).rnd with idleSince := Sparse.set 0 s.rnd.idleSince (k / 12) (now s) } }
      else putCluster s k x := rfl
  rw [hset]
  split
  · split
    · exact ⟨⟨s.regs, s.pwr, s.rnd.idleSince, rfl⟩, fun _ _ => rfl⟩
    · obtain ⟨⟨g, p, hon⟩, hrd⟩ := switchOn_other (10 + k / 12) (putCluster s k x)
      exact ⟨⟨g, p, s.rnd.idleSince, hon⟩, hrd⟩
  · split
    · exact ⟨⟨s.regs, s.pwr, _, rfl⟩, fun _ _ => rfl⟩
    · exact ⟨⟨s.regs, s.pwr, s.rnd.idleSince, rfl⟩, fun _ _ => rfl⟩

section cluster

variable (s : State) (k : Nat) (x : Cluster)

theorem setCluster_clusters : (setCluster s k x).rnd.clusters = Sparse.set {} s.rnd.clusters k x := by
  obtain ⟨⟨g, p, i, h⟩, -⟩ := setCluster_other s k x; rw [h]
@[simp] theorem setCluster_plans : (setCluster s k x).rnd.plans = s.rnd.plans := by
  obtain ⟨⟨g, p, i, h⟩, -⟩ := setCluster_other s k x; rw [h]
@[simp] theorem setCluster_time : (setCluster s k x).time = s.time := by
  obtain ⟨⟨g, p, i, h⟩, -⟩ := setCluster_other s k x; rw [h]
@[simp] theorem setCluster_mem : (setCluster s k x).mem = s.mem := by
  obtain ⟨⟨g, p, i, h⟩, -⟩ := setCluster_other s k x; rw [h]
@[simp] theorem setCluster_dsp : (setCluster s k x).dsp = s.dsp := by
  obtain ⟨⟨g, p, i, h⟩, -⟩ := setCluster_other s k x; rw [h]

theorem rd_setCluster {r : Reg} (h : r.key ≠ Reg.PWR_DOMAIN.key) : rd (setCluster s k x) r = rd s r := (setCluster_other s k x).2 r h
theorem rdF_setCluster {f : Fld} (h : f.reg.key ≠ Reg.PWR_DOMAIN.key) : rdF (setCluster s k x) f = rdF s f := by rw [rdF, rd_setCluster s k x h, rdF]

@[simp] theorem getCluster_setCluster_same : getCluster (setCluster s k x) k = x := by
  rw [getCluster, setCluster_clusters, Sparse.get_set_same]
theorem getCluster_setCluster_ne {j : Nat} (h : j ≠ k) : getCluster (setCluster s k x) j = getCluster s j := by
  rw [getCluster, setCluster_clusters, Sparse.get_set_ne _ _ _ _ h, getCluster]

end cluster

end Sys2Proof.Machine
end

section
/-! The sharing of clusters: what the operations that start, stop and ask for work on a cluster leave as it was (R160 to R168). -/

namespace Sys2Proof.Machine

/-! ### What a change leaves of the plans -/

/-- What a plan says of its head's window: whether it is open, its S and its context. -/
def HeadPlan.window (p : HeadPlan) : Bool × Nat × Nat := (p.open_, p.s, p.ctx)

/-- The change keeps the display, the clock and every head's window. -/
structure KeepsWindows (s t : State) : Prop where
  dsp : t.dsp = s.dsp
  time : t.time = s.time
  window : ∀ h, (getPlan t h).window = (getPlan s h).window

/-- The change keeps every cluster's reservation too. -/
structure KeepsPlan (s t : State) : Prop extends KeepsWindows s t where
  resv : ∀ k, (getCluster t k).resv = (getCluster s k).resv

namespace KeepsWindows

variable {s t u : State}

theorem refl (s : State) : KeepsWindows s s := ⟨rfl, rfl, fun _ => rfl⟩
theorem trans (h : KeepsWindows s t) (k : KeepsWindows t u) : KeepsWindows s u :=
  ⟨k.dsp.trans h.dsp, k.time.trans h.time, fun i => (k.window i).trans (h.window i)⟩
theorem open_eq (h : KeepsWindows s t) (i : Nat) : (getPlan t i).open_ = (getPlan s i).open_ := congrArg Prod.fst (h.window i)
theorem ctx_eq (h : KeepsWindows s t) (i : Nat) : (getPlan t i).ctx = (getPlan s i).ctx := congrArg (·.2.2) (h.window i)

end KeepsWindows

theorem keepsWindows_setCluster (s : State) (k : Nat) (x : Cluster) : KeepsWindows s (setCluster s k x) :=
  ⟨setCluster_dsp s k x, setCluster_time s k x, fun h => by rw [getPlan_congr (setCluster_plans s k x)]⟩

namespace KeepsPlan

variable {s t u : State}

theorem refl (s : State) : KeepsPlan s s := ⟨.refl s, fun _ => rfl⟩
theorem trans (h : KeepsPlan s t) (k : KeepsPlan t u) : KeepsPlan s u := ⟨h.toKeepsWindows.trans k.toKeepsWindows, fun i => (k.resv i).trans (h.resv i)⟩

/-- A change of neither clusters nor plans. -/
theorem of_eq (hdsp : t.dsp = s.dsp) (htime : t.time = s.time) (hclusters : t.rnd.clusters = s.rnd.clusters) (hplans : t.rnd.plans = s.rnd.plans) :
    KeepsPlan s t := ⟨⟨hdsp, htime, fun h => by rw [getPlan_congr hplans]⟩, fun k => by rw [getCluster_congr hclusters]⟩

theorem forEach {α : Type} {f : α → State → State} (l : List α) (h : ∀ a s, KeepsPlan s (f a s)) (s : State) : KeepsPlan s (forEach l f s) :=
  forEach_keeps (KeepsPlan s) f l (fun a _ _ ht => ht.trans (h a _)) s (.refl s)

theorem ite {c : Prop} [Decidable c] (ht : KeepsPlan s t) (hu : KeepsPlan s u) : KeepsPlan s (if c then t else u) := by
  split
  · exact ht
  · exact hu

end KeepsPlan

/-! ### The registers that show a context -/

/-- A register among RND_CTXn_STATUS and SHD_CTXn_SCHED. -/
def showsCtx (r : Reg) : Bool := decide (0x80000 ≤ r.key ∧ r.key < 0x88000 ∧ (r.key % 64 = 8 ∨ r.key % 64 = 36))

/-- The states show alike, of every context, whether it waits for an ingest and the status of its last CS_SUBMIT. -/
structure ShowsAlike (s t : State) : Prop where
  ingest : ∀ c < 512, rdF t (SHD_CTX_SCHED.INGEST c) = rdF s (SHD_CTX_SCHED.INGEST c)
  status : ∀ c < 512, rdF t (RND_CTX_STATUS.LAST_STATUS c) = rdF s (RND_CTX_STATUS.LAST_STATUS c)

theorem showsCtx_sched {c : Nat} (h : c < 512) : showsCtx (.SHD_CTX_SCHED c) = true := decide_eq_true (by simp only [Reg.key]; omega)
theorem showsCtx_status {c : Nat} (h : c < 512) : showsCtx (.RND_CTX_STATUS c) = true := decide_eq_true (by simp only [Reg.key]; omega)

namespace ShowsAlike

variable {s t u : State}

theorem refl (s : State) : ShowsAlike s s := ⟨fun _ _ => rfl, fun _ _ => rfl⟩
theorem trans (h : ShowsAlike s t) (k : ShowsAlike t u) : ShowsAlike s u :=
  ⟨fun c hc => (k.ingest c hc).trans (h.ingest c hc), fun c hc => (k.status c hc).trans (h.status c hc)⟩

/-- Every register that shows a context is kept. -/
theorem of_rd (h : ∀ r, showsCtx r = true → rd t r = rd s r) : ShowsAlike s t :=
  ⟨fun _ hc => congrArg (fun w : Word => bitsOf w.toNat 2 2) (h _ (showsCtx_sched hc)), fun _ hc => congrArg (fun w : Word => bitsOf w.toNat 31 24) (h _ (showsCtx_status hc))⟩

theorem of_regs (h : t.regs = s.regs) : ShowsAlike s t := of_rd fun r _ => rd_congr h r

end ShowsAlike

theorem key_ne_of_showsCtx {r q : Reg} (hr : showsCtx r = false) (hq : showsCtx q = true) : q.key ≠ r.key := by
  intro hk
  rw [showsCtx, hk, ← showsCtx, hr] at hq
  exact absurd hq (by decide)

theorem showsAlike_wr (s : State) {r : Reg} (v : Word) (h : showsCtx r = false) : ShowsAlike s (wr s r v) :=
  .of_rd fun _ hq => rd_wr_ne s v (key_ne_of_showsCtx h hq)

theorem showsAlike_wrF (s : State) {f : Fld} (v : Nat) (h : showsCtx f.reg = false) : ShowsAlike s (wrF s f v) := showsAlike_wr s _ h

theorem showsAlike_incF (s : State) {f : Fld} (n : Nat) (h : showsCtx f.reg = false) : ShowsAlike s (incF s f n) :=
  .of_rd fun _ hq => rd_incF_ne s n (key_ne_of_showsCtx h hq)

/-- CLUSTERS shares its register with INGEST, and any context may have a slot number out of range here. -/
theorem showsAlike_syncClusters (s : State) (g : Nat) : ShowsAlike s (syncClusters g s) := by
  refine ⟨fun c hc => ?_, fun c hc => rdF_wrF_ne s _ ?_⟩
  · by_cases hg : c = g
    · subst hg
      exact rdF_wrF_apart s _ rfl rfl rfl rfl
    · exact rdF_wrF_ne s _ (by simp only [SHD_CTX_SCHED.INGEST, SHD_CTX_SCHED.CLUSTERS, Reg.key]; omega)
  · simp only [RND_CTX_STATUS.LAST_STATUS, SHD_CTX_SCHED.CLUSTERS, Reg.key]
    omega

theorem showsCtx_est {h : Nat} (hh : h < 12) : showsCtx (SHD_HD_EST.E_US h).reg = false :=
  decide_eq_false (by simp only [SHD_HD_EST.E_US, Reg.key]; omega)

/-! ### What the sharing of clusters moves -/

/-- `t` differs from `s` in what the sharing of clusters moves alone: messages, the clusters and the measurements of the plans, domains and
their idle times, and registers that show none of a context's ingest and last status. -/
structure SharesOnly (s t : State) : Prop where
  rest : ∃ o g p cs ps i, t = { s with out := o, regs := g, pwr := p, rnd := { s.rnd with clusters := cs, plans := ps, idleSince := i } }
  shown : ShowsAlike s t
  resv : ∀ k, (getCluster t k).resv = (getCluster s k).resv
  window : ∀ h, (getPlan t h).window = (getPlan s h).window

namespace SharesOnly

variable {s t u : State}

theorem refl (s : State) : SharesOnly s s := ⟨⟨_, _, _, _, _, _, rfl⟩, .refl s, fun _ => rfl, fun _ => rfl⟩

theorem trans (h : SharesOnly s t) (k : SharesOnly t u) : SharesOnly s u where
  rest := by
    obtain ⟨_, _, _, _, _, _, rfl⟩ := h.rest
    obtain ⟨_, _, _, _, _, _, rfl⟩ := k.rest
    exact ⟨_, _, _, _, _, _, rfl⟩
  shown := h.shown.trans k.shown
  resv i := (k.resv i).trans (h.resv i)
  window i := (k.window i).trans (h.window i)

theorem ctxs (h : SharesOnly s t) : t.rnd.ctxs = s.rnd.ctxs := by obtain ⟨_, _, _, _, _, _, rfl⟩ := h.rest; rfl
theorem regs (h : SharesOnly s t) : t.rnd.regs = s.rnd.regs := by obtain ⟨_, _, _, _, _, _, rfl⟩ := h.rest; rfl
theorem ingests (h : SharesOnly s t) : t.rnd.ingests = s.rnd.ingests := by obtain ⟨_, _, _, _, _, _, rfl⟩ := h.rest; rfl
theorem mem (h : SharesOnly s t) : t.mem = s.mem := by obtain ⟨_, _, _, _, _, _, rfl⟩ := h.rest; rfl
theorem getCtx_eq (h : SharesOnly s t) (c : Nat) : getCtx t c = getCtx s c := getCtx_congr h.ctxs c

theorem keepsPlan (h : SharesOnly s t) : KeepsPlan s t where
  dsp := by obtain ⟨_, _, _, _, _, _, rfl⟩ := h.rest; rfl
  time := by obtain ⟨_, _, _, _, _, _, rfl⟩ := h.rest; rfl
  window := h.window
  resv := h.resv

theorem forEach {α : Type} {f : α → State → State} (l : List α) (h : ∀ a ∈ l, ∀ s, SharesOnly s (f a s)) (s : State) :
    SharesOnly s (forEach l f s) :=
  forEach_keeps (SharesOnly s) f l (fun a ha _ ht => ht.trans (h a ha _)) s (.refl s)

theorem ite {c : Prop} [Decidable c] (ht : SharesOnly s t) (hu : SharesOnly s u) : SharesOnly s (if c then t else u) := by
  split
  · exact ht
  · exact hu

end SharesOnly

section shares

variable (s : State)

/-- A cluster that keeps its reservation. -/
theorem sharesOnly_setCluster {k : Nat} {x : Cluster} (hx : x.resv = (getCluster s k).resv) : SharesOnly s (setCluster s k x) where
  rest := by
    obtain ⟨⟨g, p, i, h⟩, -⟩ := setCluster_other s k x
    exact ⟨_, _, _, _, _, _, h⟩
  shown := .of_rd fun r hr => rd_setCluster s k x (key_ne_of_showsCtx (r := .PWR_DOMAIN) rfl hr)
  resv j := by
    by_cases hj : j = k
    · subst hj
      rw [getCluster_setCluster_same, hx]
    · rw [getCluster_setCluster_ne s k x hj]
  window h := by rw [getPlan_congr (setCluster_plans s k x)]

theorem sharesOnly_syncClusters (c : Nat) : SharesOnly s (syncClusters c s) :=
  ⟨⟨_, _, _, _, _, _, rfl⟩, showsAlike_syncClusters s c, fun _ => rfl, fun _ => rfl⟩

theorem window_setPlan {h : Nat} {p : HeadPlan} (hp : p.window = (getPlan s h).window) (g : Nat) :
    (getPlan (setPlan s h p) g).window = (getPlan s g).window := by
  by_cases hg : g = h
  · subst hg
    rw [getPlan_setPlan_same, hp]
  · rw [getPlan_setPlan_ne s p hg]

/-- A plan whose measurements change. -/
theorem sharesOnly_setPlan {h : Nat} {p : HeadPlan} (hp : p.window = (getPlan s h).window) : SharesOnly s (setPlan s h p) :=
  ⟨⟨_, _, _, _, _, _, rfl⟩, .of_regs rfl, fun _ => rfl, window_setPlan s hp⟩

theorem sharesOnly_wrF_est {h : Nat} (hh : h < 12) (v : Nat) : SharesOnly s (wrF s (SHD_HD_EST.E_US h) v) :=
  ⟨⟨_, _, _, _, _, _, rfl⟩, showsAlike_wrF s v (showsCtx_est hh), fun _ => rfl, fun _ => rfl⟩

theorem sharesOnly_send (m : HostMsg) : SharesOnly s (send s m) := ⟨⟨_, _, _, _, _, _, rfl⟩, .of_regs rfl, fun _ => rfl, fun _ => rfl⟩

theorem sharesOnly_noteStart (c : Nat) : SharesOnly s (noteStart c s) := by
  unfold noteStart
  exact .ite (.refl s) (.forEach _ (fun h _ s => .ite (sharesOnly_setPlan s (by rfl)) (.refl s)) s)

theorem sharesOnly_noteEnd (c : Nat) : SharesOnly s (noteEnd c s) := by
  unfold noteEnd
  refine .ite (.refl s) (.forEach _ (fun h hh s => ?_) s)
  dsimp only
  split
  next => exact (sharesOnly_setPlan s (by rfl)).trans (sharesOnly_wrF_est _ (List.mem_range.mp hh) _)
  next => exact .refl s

/-- What `startOn` and `stopOn` do beside their cluster: the counts that CLUSTERS shows, and a measurement that begins. -/
theorem sharesOnly_startOn {k : Nat} {x : Cluster} (c : Nat) (hx : x.resv = (getCluster s k).resv) : SharesOnly s (startOn k c x s) := by
  have hset : SharesOnly s (syncClusters c (setCluster s k { x with ctx := some c, preempt := none, npHold := false, midwave := false, next := none, jobAt := now s })) :=
    (sharesOnly_setCluster s (by exact hx)).trans (sharesOnly_syncClusters _ c)
  unfold startOn
  dsimp only
  refine SharesOnly.trans ?_ (sharesOnly_noteStart _ c)
  split
  next o _ => exact hset.trans (sharesOnly_syncClusters _ o)
  next => exact hset

theorem sharesOnly_stopOn {k : Nat} {x : Cluster} (hx : x.resv = (getCluster s k).resv) : SharesOnly s (stopOn k x s) := by
  have hset : SharesOnly s (setCluster s k { x with ctx := none, fill := false, preempt := none, npHold := false, midwave := false, next := none }) :=
    sharesOnly_setCluster s (by exact hx)
  unfold stopOn
  dsimp only
  split
  next o _ => exact hset.trans (sharesOnly_syncClusters _ o)
  next => exact hset

theorem sharesOnly_requestPreempt (k : Nat) (next : Option Nat) : SharesOnly s (requestPreempt k next s) := by
  unfold requestPreempt
  dsimp only
  split
  next => exact .refl s
  next => exact (sharesOnly_setCluster s (by rfl)).trans (sharesOnly_send _ _)

theorem sharesOnly_placeOn (ks : List Nat) : SharesOnly s (placeOn ks s) := by
  unfold placeOn
  refine .forEach _ (fun k _ s => ?_) s
  dsimp only
  split
  next => exact sharesOnly_startOn s _ (by rfl)
  next => exact .refl s

theorem sharesOnly_placeContext (c : Nat) : SharesOnly s (placeContext c s) := sharesOnly_placeOn s _

theorem sharesOnly_releaseClusters (c : Nat) : SharesOnly s (releaseClusters c s) := by
  have hleave : ∀ k s, SharesOnly s
      (let x := getCluster s k
       let y := { x with fill := false, grant := if x.grant = some c then none else x.grant }
       match successor s c k x with
       | some g => startOn k g y s
       | none => stopOn k y s) := by
    intro k s
    dsimp only
    split
    next g _ => exact sharesOnly_startOn s g (by rfl)
    next => exact sharesOnly_stopOn s (by rfl)
  exact (SharesOnly.forEach _ (fun k _ s => hleave k s) s).trans (.forEach _ (fun k _ s => sharesOnly_setCluster s (by rfl)) _)

theorem sharesOnly_takeBack (k : Nat) : SharesOnly s (takeBack k s) := by
  unfold takeBack
  split
  next g _ => exact sharesOnly_startOn s g (by rfl)
  next => exact .refl s

theorem sharesOnly_takeNextCtx (k : Nat) : SharesOnly s (takeNextCtx k s) := by
  unfold takeNextCtx
  dsimp only
  split
  next => exact sharesOnly_startOn s _ (by rfl)
  next => exact sharesOnly_stopOn s (by rfl)

end shares

/-! ### What they set of their cluster -/

section sets

variable (s : State) (k : Nat) (x : Cluster)

@[simp] theorem getCluster_incF (f : Fld) (n j : Nat) : getCluster (incF s f n) j = getCluster s j := rfl
@[simp] theorem getCluster_syncClusters (c j : Nat) : getCluster (syncClusters c s) j = getCluster s j := rfl
@[simp] theorem getCluster_send (m : HostMsg) (j : Nat) : getCluster (send s m) j = getCluster s j := rfl

@[simp] theorem noteStart_clusters (c : Nat) : (noteStart c s).rnd.clusters = s.rnd.clusters := by
  unfold noteStart
  split
  · rfl
  · refine forEach_keeps (fun t => t.rnd.clusters = s.rnd.clusters) _ _ (fun h _ t ht => ?_) s rfl
    dsimp only
    split
    · exact ht
    · exact ht

/-- The cluster runs `c` from now on, and no request to it is open. -/
theorem getCluster_startOn (c : Nat) : getCluster (startOn k c x s) k =
    { x with ctx := some c, preempt := none, npHold := false, midwave := false, next := none, jobAt := now s } := by
  unfold startOn
  dsimp only
  rw [getCluster_congr (noteStart_clusters _ c)]
  split
  · rw [getCluster_syncClusters, getCluster_syncClusters, getCluster_setCluster_same]
  · rw [getCluster_syncClusters, getCluster_setCluster_same]

/-- The cluster runs nothing, and no request to it is open. -/
theorem getCluster_stopOn : getCluster (stopOn k x s) k =
    { x with ctx := none, fill := false, preempt := none, npHold := false, midwave := false, next := none } := by
  unfold stopOn
  dsimp only
  split
  · rw [getCluster_syncClusters, getCluster_setCluster_same]
  · rw [getCluster_setCluster_same]

/-- Whichever context takes a preempted cluster, no request to it is open. -/
theorem takeNextCtx_free : (getCluster (takeNextCtx k s) k).preempt = none ∧ (getCluster (takeNextCtx k s) k).midwave = false := by
  unfold takeNextCtx
  dsimp only
  split
  · rw [getCluster_startOn]
    exact ⟨rfl, rfl⟩
  · rw [getCluster_stopOn]
    exact ⟨rfl, rfl⟩

end sets

end Sys2Proof.Machine
end

section
/-! Preemption of clusters (R162 to R164): the commands of a request, from its 10 µs to the resume. -/

namespace Sys2Proof.Machine

/-- The registers of the render engine, of the scheduler and of what lies above them are none of SHL_ALERT, its latch and PWR_DOMAIN. -/
theorem apart_of_le {r : Reg} (h : 0x80000 ≤ r.key) : isAlert r = false ∧ r.key ≠ Reg.PWR_DOMAIN.key := by
  have halert : Reg.SHL_ALERT.key = 0x20004 ∧ Reg.SHL_ALERT_LATCH.key = 0x2000C := ⟨rfl, rfl⟩
  have hpwr : Reg.PWR_DOMAIN.key = 0x308 := rfl
  exact ⟨decide_eq_false (by omega), by omega⟩

section saves

variable (s : State) (c i : Nat) (whole : Bool)

/-! ### Save records (R162, R163) -/

@[simp] theorem writeFor_rnd (fn a : Nat) (bs : List Byte) : (writeFor fn a bs s).rnd = s.rnd := by
  unfold writeFor
  split <;> rfl

@[simp] theorem writeSave_rnd : (writeSave c i whole s).rnd = s.rnd := writeFor_rnd _ _ _ _

/-- A save record does not depend on what the context holds. -/
theorem writeSave_setCtx_mem (d : Nat) (x : Ctx) : (writeSave c i whole (setCtx s d x)).mem = (writeSave c i whole s).mem := by
  unfold writeSave writeFor
  dsimp only
  split
  next h => rw [if_pos (by exact h)]; rfl
  next h => rw [if_neg (by exact h)]; rfl

/-- A stop at a boundary leaves contexts and clusters. -/
theorem saveStop_boundary_rnd : (saveStop c false s).rnd = s.rnd := by
  unfold saveStop
  dsimp only
  split
  · split
    · rfl
    · exact writeSave_rnd _ _ _ _
  · rfl

/-- Work stopped mid-wave waits at the lowest free place of the save area. -/
theorem saveStop_midwave {rest : List Nat} (hst : (getCtx s c).stream.isSome = true) (hp : savePlaces s c = i :: rest) :
    saveStop c true s = writeSave c i true (setCtx s c { getCtx s c with saves := (getCtx s c).saves ++ [i] }) := by
  unfold saveStop
  rw [hp]
  dsimp only
  rw [Option.isNone_eq_false_iff.mpr hst]
  rfl

@[simp] theorem savePlaces_begin (t : Nat) : savePlaces (begin t s) c = savePlaces s c := by simp [savePlaces]

end saves

/-! ### A preempted cluster -/

section preempt

variable {s : State} {k c r : Nat}

theorem preemptStop_eq (hctx : (getCluster s k).ctx = some c) (hreq : (getCluster s k).preempt = some r) :
    preemptStop k s = takeNextCtx k (saveStop c (getCluster s k).midwave s) := by
  unfold preemptStop
  dsimp only
  rw [hctx, hreq]

theorem preemptMidwave_eq (hctx : (getCluster s k).ctx = some c) (hreq : (getCluster s k).preempt = some r)
    (hwave : (getCluster s k).midwave = false) (hdue : r + 10000 ≤ now s) :
    preemptMidwave k s = incF (setCluster s k { getCluster s k with midwave := true }) (SHD_CTX_PREEMPT.COUNT c) := by
  unfold preemptMidwave
  dsimp only
  rw [hctx, hreq]
  exact if_neg (by simp only [hwave, not_or, Bool.false_eq_true, not_false_eq_true, and_true]; omega)

theorem resumeComplete_eq (hctx : (getCluster s k).ctx = some c) :
    resumeComplete k s = setCtx s c { getCtx s c with saves := (getCtx s c).saves.tail } := by
  unfold resumeComplete
  rw [hctx]

theorem npHoldExpiry_eq (hctx : (getCluster s k).ctx = some c) (hhold : (getCluster s k).npHold = true) (hdue : (getCluster s k).jobAt + 50000 ≤ now s) :
    npHoldExpiry k s = requestPreempt k (getCluster s k).next (incF (setCluster s k { getCluster s k with npHold := false }) (SHD_CTX_NP_OVERRUN.COUNT c)) := by
  unfold npHoldExpiry
  dsimp only
  rw [hctx]
  exact if_pos ⟨hhold, hdue⟩

/-- A request to a cluster that runs a context is open from now on, and is no longer held. -/
theorem requestPreempt_of_ctx (n : Option Nat) (hctx : (getCluster s k).ctx = some c) : requestPreempt k n s =
    send (setCluster s k { getCluster s k with preempt := some ((getCluster s k).preempt.getD (now s)), npHold := false, next := n }) (.preempt k) := by
  unfold requestPreempt
  dsimp only
  rw [hctx]

variable {t : Nat}

theorem runs_preemptMidwave (hrun : s.pwr.phase = .run) (hctx : (getCluster s k).ctx = some c)
    (hreq : (getCluster s k).preempt = some r) (hwave : (getCluster s k).midwave = false) (hdue : r + 10000 ≤ now (begin t s)) :
    Runs (.preemptMidwaveTimeout t k) s (fun u => (getCluster u k).midwave = true
      ∧ rdF u (SHD_CTX_PREEMPT.COUNT c) = min (rdF s (SHD_CTX_PREEMPT.COUNT c) + 1) (2 ^ 32 - 1) ∧ u.mem = s.mem) := by
  refine runs_of_act t (preemptMidwave k) hrun rfl ?_
  obtain ⟨halert, hpwr⟩ := apart_of_le (r := .SHD_CTX_PREEMPT c) (Nat.le_add_right_of_le (by decide))
  rw [preemptMidwave_eq (c := c) (r := r) (by simpa using hctx) (by simpa using hreq) (by simpa using hwave) hdue,
    rdF_settle _ _ halert, rdF_incF_same _ _ _ rfl, rdF_setCluster _ _ _ hpwr, rdF_begin]
  exact ⟨by simp, rfl, by simp⟩

theorem runs_preemptStop_boundary (hrun : s.pwr.phase = .run) (hctx : (getCluster s k).ctx = some c)
    (hreq : (getCluster s k).preempt = some r) (hwave : (getCluster s k).midwave = false) :
    Runs (.preemptStop t k) s (fun u => (getCluster u k).preempt = none ∧ (getCluster u k).midwave = false
      ∧ (getCtx u c).saves = (getCtx s c).saves) := by
  refine runs_of_act t (preemptStop k) hrun rfl ?_
  obtain ⟨hfree, hstopped⟩ := takeNextCtx_free (saveStop c false (begin t s)) k
  rw [preemptStop_eq (c := c) (r := r) (by simpa using hctx) (by simpa using hreq), getCluster_begin, hwave, getCluster_settle, getCtx_settle,
    (sharesOnly_takeNextCtx _ k).getCtx_eq, getCtx_congr (congrArg _ (saveStop_boundary_rnd (begin t s) c)), getCtx_begin]
  exact ⟨hfree, hstopped, rfl⟩

theorem runs_preemptStop_midwave {i : Nat} {rest : List Nat} (hrun : s.pwr.phase = .run) (hctx : (getCluster s k).ctx = some c)
    (hreq : (getCluster s k).preempt = some r) (hwave : (getCluster s k).midwave = true) (hst : (getCtx s c).stream.isSome = true)
    (hp : savePlaces s c = i :: rest) :
    Runs (.preemptStop t k) s (fun u => (getCluster u k).preempt = none ∧ (getCluster u k).midwave = false
      ∧ (getCtx u c).saves = (getCtx s c).saves ++ [i] ∧ u.mem = (writeSave c i true (begin t s)).mem) := by
  refine runs_of_act t (preemptStop k) hrun rfl ?_
  obtain ⟨hfree, hstopped⟩ := takeNextCtx_free (saveStop c true (begin t s)) k
  have hsave := saveStop_midwave (begin t s) c i (by simpa using hst) ((savePlaces_begin s c t).trans hp)
  have hshare := sharesOnly_takeNextCtx (saveStop c true (begin t s)) k
  rw [preemptStop_eq (c := c) (r := r) (by simpa using hctx) (by simpa using hreq), getCluster_begin, hwave, getCluster_settle]
  refine ⟨hfree, hstopped, ?_, ?_⟩
  · rw [getCtx_settle, hshare.getCtx_eq, hsave, getCtx_congr (congrArg _ (writeSave_rnd _ c i true)), getCtx_setCtx_same, getCtx_begin]
  · rw [settle_mem, hshare.mem, hsave, writeSave_setCtx_mem]

theorem runs_resumeComplete (hrun : s.pwr.phase = .run) (hctx : (getCluster s k).ctx = some c) :
    Runs (.resumeComplete t k) s (fun u => (getCtx u c).saves = (getCtx s c).saves.tail ∧ u.mem = s.mem) := by
  refine runs_of_act t (resumeComplete k) hrun rfl ?_
  rw [resumeComplete_eq (c := c) (by simpa using hctx), getCtx_settle, getCtx_setCtx_same, getCtx_begin, settle_mem, setCtx_mem, begin_mem]
  exact ⟨rfl, rfl⟩

theorem runs_npHoldExpiry (hrun : s.pwr.phase = .run) (hctx : (getCluster s k).ctx = some c) (hhold : (getCluster s k).npHold = true)
    (hdue : (getCluster s k).jobAt + 50000 ≤ now (begin t s)) :
    Runs (.npHoldExpiry t k) s (fun u => (getCluster u k).preempt.isSome = true ∧ (getCluster u k).npHold = false
      ∧ rdF u (SHD_CTX_NP_OVERRUN.COUNT c) = min (rdF s (SHD_CTX_NP_OVERRUN.COUNT c) + 1) (2 ^ 32 - 1)) := by
  refine runs_of_act t (npHoldExpiry k) hrun rfl ?_
  obtain ⟨halert, hpwr⟩ := apart_of_le (r := .SHD_CTX_NP_OVERRUN c) (Nat.le_add_right_of_le (by decide))
  rw [npHoldExpiry_eq (c := c) (by simpa using hctx) (by simpa using hhold) (by simpa using hdue),
    requestPreempt_of_ctx (c := c) _ (by simpa using hctx), getCluster_settle, getCluster_send, getCluster_setCluster_same,
    rdF_settle _ _ halert, rdF_congr (send_regs _ _), rdF_setCluster _ _ _ hpwr, rdF_incF_same _ _ _ rfl, rdF_setCluster _ _ _ hpwr,
    rdF_begin]
  exact ⟨rfl, rfl, rfl⟩

end preempt

/-- Settles O25, command by command. -/
theorem preemption : Obligations.Preemption := by
  unfold Obligations.Preemption
  refine ⟨?midwave, ?boundary, ?stopped, ?resume, ?hold⟩
  case midwave => exact fun s t k c r _ hrun _ hctx hreq hwave hdue => runs_preemptMidwave hrun hctx hreq hwave hdue
  case boundary => exact fun s t k c r _ hrun hctx hreq hwave => runs_preemptStop_boundary hrun hctx hreq hwave
  case stopped => exact fun s t k c r i rest _ hrun hctx hreq hwave hst hp => runs_preemptStop_midwave hrun hctx hreq hwave hst hp
  case resume => exact fun s t k c _ hrun hctx => runs_resumeComplete hrun hctx
  case hold => exact fun s t k c _ hrun _ hctx hhold hdue => runs_npHoldExpiry hrun hctx hhold hdue

end Sys2Proof.Machine
end

section
/-! Command streams: what their end, their stop and their going on leave as it was (R115 to R118, R164). -/

namespace Sys2Proof.Machine

/-! ### What lies outside the render engine -/

/-- `t` differs from `s` outside the render engine alone: messages, rings, the log, memory traffic and channels, and registers that show none
of a context's ingest and last status. -/
structure OutsideOnly (s t : State) : Prop where
  rest : ∃ f o a m g h l ch, t = { s with free := f, out := o, touched := a, meet := m, regs := g, host := h, shl := l, mem := { s.mem with channels := ch } }
  shown : ShowsAlike s t

namespace OutsideOnly

variable {s t u : State}

theorem refl (s : State) : OutsideOnly s s := ⟨⟨_, _, _, _, _, _, _, _, rfl⟩, .refl s⟩

theorem trans (h : OutsideOnly s t) (k : OutsideOnly t u) : OutsideOnly s u where
  rest := by
    obtain ⟨_, _, _, _, _, _, _, _, rfl⟩ := h.rest
    obtain ⟨_, _, _, _, _, _, _, _, rfl⟩ := k.rest
    exact ⟨_, _, _, _, _, _, _, _, rfl⟩
  shown := h.shown.trans k.shown

/-- A change that no register shows. -/
theorem of_regs (hrest : ∃ f o a m h l ch, t = { s with free := f, out := o, touched := a, meet := m, host := h, shl := l, mem := { s.mem with channels := ch } }) :
    OutsideOnly s t := by
  obtain ⟨_, _, _, _, _, _, _, rfl⟩ := hrest
  exact ⟨⟨_, _, _, _, _, _, _, _, rfl⟩, .of_regs rfl⟩

theorem ite {c : Prop} [Decidable c] (ht : OutsideOnly s t) (hu : OutsideOnly s u) : OutsideOnly s (if c then t else u) := by
  split
  · exact ht
  · exact hu

theorem forEach {α : Type} {f : α → State → State} (l : List α) (h : ∀ a ∈ l, ∀ s, OutsideOnly s (f a s)) (s : State) :
    OutsideOnly s (forEach l f s) :=
  forEach_keeps (OutsideOnly s) f l (fun a ha _ ht => ht.trans (h a ha _)) s (.refl s)

theorem rnd (h : OutsideOnly s t) : t.rnd = s.rnd := by obtain ⟨_, _, _, _, _, _, _, _, rfl⟩ := h.rest; rfl
theorem sameMem (h : OutsideOnly s t) : { t.mem with channels := [] } = { s.mem with channels := [] } := by
  obtain ⟨_, _, _, _, _, _, _, _, rfl⟩ := h.rest; rfl
theorem getCtx_eq (h : OutsideOnly s t) (c : Nat) : getCtx t c = getCtx s c := getCtx_congr (congrArg _ h.rnd) c

theorem keepsPlan (h : OutsideOnly s t) : KeepsPlan s t := by
  obtain ⟨_, _, _, _, _, _, _, _, rfl⟩ := h.rest
  exact .of_eq rfl rfl rfl rfl

end OutsideOnly

theorem isReport_of_showsCtx {r : Reg} (h : showsCtx r = true) : isReport r = false := by
  have hlog : Reg.SHL_LOG_HEAD.key = 0x20048 ∧ Reg.SHL_LOG_DROP.key = 0x2004C := ⟨rfl, rfl⟩
  have hkey := of_decide_eq_true h
  exact decide_eq_false (by omega)

/-- Log entries and events. -/
theorem ReportsOnly.outsideOnly {s t : State} (h : ReportsOnly s t) : OutsideOnly s t where
  rest := ⟨t.free, t.out, s.touched, t.meet, t.regs, t.host, t.shl, s.mem.channels,
    (congrArg (fun x : State => { x with free := t.free, out := t.out, meet := t.meet, regs := t.regs, host := t.host, shl := t.shl }) h.rest :)⟩
  shown := .of_rd fun r hr => h.rd_eq r (isReport_of_showsCtx hr)

theorem showsCtx_page (f : Nat) (p : PageReg) : showsCtx (.page f p) = false := by
  have hkey : 2 ^ 32 ≤ (Reg.page f p).key := by cases p <;> simp only [Reg.key] <;> omega
  exact decide_eq_false (by omega)

/-- The registers of INST_LATE_DROP lie apart from those that show a context, whatever number they are given. -/
theorem showsCtx_lateDrop (n : Nat) : showsCtx (.INST_LATE_DROP n) = false := by
  have hkey : (Reg.INST_LATE_DROP n).key = 0x50018 + 0x40 * n := rfl
  exact decide_eq_false (by omega)

/-! ### Completions (R97 to R101) -/

section completions

variable (s : State)

theorem outsideOnly_wrF (f : Fld) (v : Nat) (h : showsCtx f.reg = false) : OutsideOnly s (wrF s f v) := ⟨⟨_, _, _, _, _, _, _, _, rfl⟩, showsAlike_wrF s v h⟩
theorem outsideOnly_incF (f : Fld) (n : Nat) (h : showsCtx f.reg = false) : OutsideOnly s (incF s f n) := ⟨⟨_, _, _, _, _, _, _, _, rfl⟩, showsAlike_incF s n h⟩
theorem outsideOnly_send (m : HostMsg) : OutsideOnly s (send s m) := .of_regs ⟨_, _, _, _, _, _, _, rfl⟩
theorem outsideOnly_setSq (fn q : Nat) (x : SqState) : OutsideOnly s (setSq s fn q x) := .of_regs ⟨_, _, _, _, _, _, _, rfl⟩
theorem outsideOnly_setCq (fn c : Nat) (x : CqState) : OutsideOnly s (setCq s fn c x) := .of_regs ⟨_, _, _, _, _, _, _, rfl⟩

theorem outsideOnly_readOver (fn q id : Nat) : OutsideOnly s (readOver fn q id s) := by
  have hsend : ∀ (l : List (Nat × List (Nat × Nat × Nat))) (s : State), OutsideOnly s (l.foldl (fun s w => send s (.atsDone w.1)) s) := by
    intro l
    induction l with
    | nil => exact .refl
    | cons w l ih => exact fun s => (outsideOnly_send s _).trans (ih _)
  unfold readOver readsOver
  exact .ite (.refl s) (OutsideOnly.trans (.of_regs ⟨_, _, _, _, _, _, _, rfl⟩) (hsend _ _))

theorem outsideOnly_writeCompletion (fn q : Nat) (f : Flight) (status dtime : Nat) : OutsideOnly s (writeCompletion s fn q f status dtime) := by
  unfold writeCompletion
  refine .ite ?_ ((outsideOnly_incF s _ _ (showsCtx_lateDrop fn)).trans (outsideOnly_setCq _ _ _ _))
  have hput : ∀ e v x, OutsideOnly s (setCq (wrF (send s e) (CQ_PTR.TAIL fn f.cq) v) fn f.cq x) := fun e v x =>
    ((outsideOnly_send s e).trans (outsideOnly_wrF _ _ v (showsCtx_page fn _))).trans (outsideOnly_setCq _ _ _ _)
  exact .ite ((hput _ _ _).trans (reportsOnly_signal _ _ _).outsideOnly) (hput _ _ _)

theorem outsideOnly_flushFlights (fn q : Nat) (fs : List Flight) : ∀ s, OutsideOnly s (flushFlights s fn q fs).1 := by
  induction fs with
  | nil => exact .refl
  | cons f fs ih =>
    intro s
    unfold flushFlights
    split
    · exact .refl s
    next st t _ =>
      split
      · exact (outsideOnly_setCq s _ _ _).trans (ih _)
      split
      · exact (outsideOnly_writeCompletion s _ _ _ _ _).trans (ih _)
      · exact .refl s

/-- A completion moves nothing of the render engine. -/
theorem outsideOnly_complete (fn q id status : Nat) : OutsideOnly s (complete s fn q id status) := by
  unfold complete completeAt
  refine (outsideOnly_readOver s fn q id).trans (.ite ?_ (outsideOnly_incF _ _ _ (showsCtx_lateDrop fn)))
  exact (outsideOnly_setSq _ _ _ _).trans ((outsideOnly_flushFlights fn q _ _).trans (outsideOnly_setSq _ _ _ _))

end completions

/-! ### The end of a stream and its successor -/

section streams

variable (c : Nat) (s : State)

/-- The first waiting stream of the context, if there is one, is its stream from now on. -/
def takeQueued : State :=
  match (getCtx s c).stream, (getCtx s c).queue with
  | none, h :: rest => setCtx s c { getCtx s c with stream := some h, queue := rest }
  | _, _ => s

/-- Beside that, the start of the next stream shares clusters alone. -/
theorem sharesOnly_startNext : SharesOnly (takeQueued c s) (startNext c s) := by
  unfold startNext takeQueued
  dsimp only
  cases (getCtx s c).stream with
  | some st => exact .refl s
  | none =>
    cases (getCtx s c).queue with
    | nil => exact (sharesOnly_releaseClusters s c).trans (sharesOnly_noteEnd _ c)
    | cons h rest =>
      refine .forEach _ (fun k _ s => ?_) _
      exact .ite (sharesOnly_requestPreempt s _ _) (sharesOnly_setCluster s (by rfl))

/-- What no step of a stream's going on breaks, its going on keeps.  The stream ends where its context is quiet alone. -/
theorem csSettle_keeps (P : State → Prop) (hend : ∀ st e s, (getCtx s c).stream = some st → ctxQuiet (getCtx s c) = true → P s → P (endStream c st e s))
    (hstop : ∀ e ofs s, P s → P (stopStream c e ofs s)) (n : Nat) : ∀ s, P s → P (csSettle n c s) := by
  induction n with
  | zero => exact fun _ hs => hs
  | succ n ih =>
    intro s hs
    unfold csSettle
    dsimp only
    split
    · exact hs
    next st hst =>
      split
      · split
        next hquiet => exact ih _ (hend st _ s hst hquiet.1 hs)
        next => exact hs
      split
      · exact hs
      split
      · split
        · split
          · exact hs
          · exact ih _ (hstop _ _ s hs)
        next hpass =>
          split
          next hquiet => exact ih _ (hend st _ s hst (by simp [ctxQuiet, hpass, hquiet.1]) hs)
          next => exact hs
      split
      · exact ih _ (hstop _ _ s hs)
      · exact hs

theorem csGoOn_keeps (P : State → Prop) (hend : ∀ st e s, (getCtx s c).stream = some st → ctxQuiet (getCtx s c) = true → P s → P (endStream c st e s))
    (hstop : ∀ e ofs s, P s → P (stopStream c e ofs s)) (hsync : ∀ s, P s → P (syncCtx c s)) (hs : P s) : P (csGoOn c s) :=
  hsync _ (csSettle_keeps c P hend hstop _ s hs)

/-! ### A stream that stops (R118) -/

/-- What a stop leaves of a stream: the first status stays. -/
def Stream.stopped (e ofs : Nat) (st : Stream) : Stream := { if st.fail.isSome then st else { st with fail := some e, failOfs := ofs } with ingest := false }

@[simp] theorem Stream.stopped_id (e ofs : Nat) (st : Stream) : (st.stopped e ofs).id = st.id := by unfold Stream.stopped; split <;> rfl

theorem Stream.stopped_fail (e ofs : Nat) (st : Stream) : (st.stopped e ofs).fail.isSome = true := by
  unfold Stream.stopped
  split
  next h => exact h
  next => rfl

/-- What a stop leaves of an open pass: one in its tile phase stands. -/
def Ctx.keptPass (x : Ctx) : Option Pass :=
  let tiles : Bool := match x.pass with | some p => decide (p.phase = .tile) | none => false
  if tiles then x.pass else none

theorem stopStream_of_none (e ofs : Nat) (h : (getCtx s c).stream = none) : stopStream c e ofs s = s := by
  unfold stopStream
  dsimp only
  rw [h]

theorem stopStream_of_some (e ofs : Nat) {st : Stream} (h : (getCtx s c).stream = some st) : stopStream c e ofs s =
    setCtx (if st.ingest then dropIngest c s else s) c { getCtx s c with pass := (getCtx s c).keptPass, stream := some (st.stopped e ofs) } := by
  unfold stopStream
  dsimp only
  rw [h]
  rfl

/-- The status register of a context follows it, and nothing else does. -/
theorem syncCtx_other : ∃ g, syncCtx c s = { s with regs := g } := by
  unfold syncCtx wrF wr
  dsimp only
  split
  · exact ⟨_, rfl⟩
  · exact ⟨_, rfl⟩

@[simp] theorem syncCtx_rnd : (syncCtx c s).rnd = s.rnd := by obtain ⟨g, h⟩ := syncCtx_other c s; rw [h]
@[simp] theorem syncCtx_mem : (syncCtx c s).mem = s.mem := by obtain ⟨g, h⟩ := syncCtx_other c s; rw [h]

/-- An ingest that is given up leaves the list, and two registers show it. -/
theorem dropIngest_other : ∃ g, dropIngest c s = { s with regs := g, rnd := { s.rnd with ingests := s.rnd.ingests.filter (fun i => i.ctx ≠ c) } } := ⟨_, rfl⟩

/-- What the registers show of a stream's end. -/
theorem recordEnd_other (status ofs : Nat) : ∃ g, recordEnd c status ofs s = { s with regs := g } := ⟨_, rfl⟩

/-! ### Plans and reservations -/

theorem keepsPlan_setCtx (x : Ctx) : KeepsPlan s (setCtx s c x) := .of_eq rfl rfl rfl rfl

theorem keepsPlan_syncCtx : KeepsPlan s (syncCtx c s) := by
  obtain ⟨g, h⟩ := syncCtx_other c s
  rw [h]
  exact .of_eq rfl rfl rfl rfl

theorem keepsPlan_dropIngest : KeepsPlan s (dropIngest c s) := by
  obtain ⟨g, h⟩ := dropIngest_other c s
  rw [h]
  exact .of_eq rfl rfl rfl rfl

theorem keepsPlan_takeQueued : KeepsPlan s (takeQueued c s) := by
  unfold takeQueued
  split
  · exact keepsPlan_setCtx c s _
  · exact .refl s

theorem keepsPlan_startNext : KeepsPlan s (startNext c s) := (keepsPlan_takeQueued c s).trans (sharesOnly_startNext c s).keepsPlan

theorem keepsPlan_endStream (st : Stream) (e : Nat) : KeepsPlan s (endStream c st e s) := by
  have hrecord : ∀ (u : State) ofs, KeepsPlan u (recordEnd c e ofs u) := fun u ofs => by
    obtain ⟨g, h⟩ := recordEnd_other c u e ofs
    rw [h]
    exact .of_eq rfl rfl rfl rfl
  exact (((keepsPlan_setCtx c s _).trans (hrecord _ _)).trans (outsideOnly_complete _ _ _ _ _).keepsPlan).trans (keepsPlan_startNext c _)

theorem keepsPlan_stopStream (e ofs : Nat) : KeepsPlan s (stopStream c e ofs s) := by
  cases h : (getCtx s c).stream with
  | none =>
    rw [stopStream_of_none c s e ofs h]
    exact .refl s
  | some st =>
    rw [stopStream_of_some c s e ofs h]
    exact .trans (.ite (keepsPlan_dropIngest c s) (.refl s)) (keepsPlan_setCtx c _ _)

theorem keepsPlan_csGoOn : KeepsPlan s (csGoOn c s) :=
  csGoOn_keeps c s (KeepsPlan s) (fun st e t _ _ h => h.trans (keepsPlan_endStream c t st e)) (fun e ofs t h => h.trans (keepsPlan_stopStream c t e ofs))
    (fun t h => h.trans (keepsPlan_syncCtx c t)) (.refl s)

end streams

end Sys2Proof.Machine
end

section
/-! Binning that goes on: it leaves the plans of the heads and the reservations as they were (R129 to R135, R167). -/

namespace Sys2Proof.Machine

section binning

variable (c : Nat) (x : Ctx) (s : State)

theorem keepsPlan_writeMem (a : Nat) (bs : List Byte) : KeepsPlan s (writeMem s a bs) := .of_eq rfl rfl rfl rfl
theorem keepsPlan_incF (f : Fld) (n : Nat) : KeepsPlan s (incF s f n) := .of_eq rfl rfl rfl rfl

theorem keepsPlan_layTable (p : Pass) : KeepsPlan s (layTable c x p s) :=
  (KeepsPlan.forEach _ (fun _ s => keepsPlan_writeMem s _ _) s).trans (.forEach _ (fun _ s => keepsPlan_writeMem s _ _) _)

theorem keepsPlan_tableReady {t : State} (h : tableReady c s = some t) : KeepsPlan s t := by
  unfold tableReady at h
  dsimp only at h
  split at h
  · exact nomatch h
  split at h
  · cases h
    exact .refl s
  · obtain ⟨pods, -, rfl⟩ := Option.map_eq_some_iff.mp h
    exact (keepsPlan_setCtx c s _).trans (keepsPlan_layTable c _ _ _)

theorem keepsPlan_addEntry (tile entry : Nat) (p : Pass) (spare : List Nat) : KeepsPlan s (addEntry c x tile entry (p, spare, s)).2.2 := by
  unfold addEntry
  dsimp only
  split
  · refine KeepsPlan.trans ?_ ((keepsPlan_writeMem _ _ _).trans (keepsPlan_writeMem _ _ _))
    exact (keepsPlan_writeMem s _ _).trans (.ite (keepsPlan_writeMem _ _ _) (.refl _))
  · exact ((keepsPlan_writeMem s _ _).trans (keepsPlan_writeMem _ _ _)).trans (keepsPlan_writeMem _ _ _)

theorem keepsPlan_addEntries (entry : Nat → Nat) (tiles : List Nat) : ∀ ps : Pass × List Nat × State,
    KeepsPlan ps.2.2 (tiles.foldl (fun ps t => addEntry c x (t / 2) (entry t) ps) ps).2.2 := by
  induction tiles with
  | nil => exact fun ps => .refl _
  | cons t tiles ih => exact fun ps => (keepsPlan_addEntry c x ps.2.2 (t / 2) (entry t) ps.1 ps.2.1).trans (ih _)

theorem keepsPlan_binOne (g : Prim) {t : State} (h : binOne c g s = some t) : KeepsPlan s t := by
  unfold binOne at h
  dsimp only at h
  split at h
  · exact nomatch h
  split at h
  · exact nomatch h
  · cases h
    refine KeepsPlan.trans ?_ (keepsPlan_setCtx c _ _)
    exact ((keepsPlan_writeMem s _ _).trans (keepsPlan_writeMem _ _ _)).trans (keepsPlan_addEntries c _ _ _ (_, _, _))

theorem keepsPlan_writeSave (place : Nat) (whole : Bool) : KeepsPlan s (writeSave c place whole s) := by
  unfold writeSave writeFor
  exact KeepsPlan.trans (t := { s with free := s.free + 1 }) (.of_eq rfl rfl rfl rfl) (.ite (keepsPlan_writeMem _ _ _) (keepsPlan_incF _ _ _))

theorem keepsPlan_stall (rest : List Prim) : KeepsPlan s (stall c rest s) := by
  unfold stall
  dsimp only
  split
  · exact .refl s
  · have hsave : ∀ s, KeepsPlan s (saveEngines c s) := fun s => .forEach _ (fun _ _ => keepsPlan_writeSave _ _ _ _) s
    exact ((((keepsPlan_setCtx c s _).trans (hsave _)).trans (sharesOnly_releaseClusters _ c).keepsPlan).trans
      (reportsOnly_postEvent _ _ _ _ _ _).outsideOnly.keepsPlan).trans (keepsPlan_syncCtx c _)

theorem keepsPlan_binAll (prims : List Prim) : ∀ s, KeepsPlan s (binAll c prims s) := by
  induction prims with
  | nil => exact .refl
  | cons g rest ih =>
    intro s
    unfold binAll
    split
    next t h => exact (keepsPlan_binOne c s g h).trans (ih t)
    next => exact keepsPlan_stall c s _

theorem keepsPlan_binWaiting : KeepsPlan s (binWaiting c s) := by
  unfold binWaiting
  dsimp only
  split
  · exact .refl s
  split
  · exact .refl s
  split
  · exact keepsPlan_stall c s _
  next t h => exact (((keepsPlan_tableReady c s h).trans (keepsPlan_setCtx c t _)).trans (keepsPlan_binAll c _ _)).trans (keepsPlan_csGoOn c _)

theorem keepsPlan_ctxGoOn : KeepsPlan s (ctxGoOn c s) := (keepsPlan_binWaiting c s).trans (keepsPlan_csGoOn c _)

/-- All work that clusters took goes on, and no reservation or window changes. -/
theorem keepsPlan_goOnAll : KeepsPlan s (goOnAll s) :=
  ((sharesOnly_placeOn s _).keepsPlan.trans (.forEach _ (fun k s => .ite (sharesOnly_takeBack s k).keepsPlan (.refl s)) _)).trans
    (.forEach _ (fun c s => .ite (keepsPlan_ctxGoOn c s) (.refl s)) _)

end binning

end Sys2Proof.Machine
end

section
/-! The deadline scheduler and fill work (R161, R165 to R170): the windows and reservations that an evaluation leaves, the counts at L and
at S, and the cluster that takes fill work. -/

namespace Sys2Proof.Machine

/-- What the operation for an element establishes and those for the others keep holds of every element after a list of them. -/
theorem forEach_establishes {α : Type} (Q : α → State → Prop) (f : α → State → State) (hest : ∀ a s, Q a (f a s))
    (hkeep : ∀ a b s, b ≠ a → Q b s → Q b (f a s)) (l : List α) (s : State) : ∀ a ∈ l, Q a (forEach l f s) := by
  have key : ∀ (l : List α) s b, Q b s → Q b (forEach l f s) := fun l s b =>
    forEach_keeps (Q b) f l (fun a _ t ht => by
      by_cases h : b = a
      · exact h ▸ hest b t
      · exact hkeep a b t h ht) s
  induction l generalizing s with
  | nil => exact fun _ h => nomatch h
  | cons a l ih =>
    intro b hb
    rcases List.mem_cons.mp hb with rfl | hb
    · exact key l _ b (hest b s)
    · exact ih _ b hb

/-! ### The windows of an evaluation (R167, R170) -/

/-- The change keeps the display, the clock and the windows of the heads but `h`. -/
structure KeepsOtherWindows (h : Nat) (s t : State) : Prop where
  dsp : t.dsp = s.dsp
  time : t.time = s.time
  window : ∀ g, g ≠ h → (getPlan t g).window = (getPlan s g).window

namespace KeepsOtherWindows

variable {h : Nat} {s t u : State}

theorem trans (a : KeepsOtherWindows h s t) (b : KeepsOtherWindows h t u) : KeepsOtherWindows h s u :=
  ⟨b.dsp.trans a.dsp, b.time.trans a.time, fun g hg => (b.window g hg).trans (a.window g hg)⟩

end KeepsOtherWindows

theorem KeepsWindows.others {s t : State} (k : KeepsWindows s t) (h : Nat) : KeepsOtherWindows h s t := ⟨k.dsp, k.time, fun g _ => k.window g⟩

theorem keepsOtherWindows_setPlan (s : State) (h : Nat) (p : HeadPlan) : KeepsOtherWindows h s (setPlan s h p) :=
  ⟨rfl, rfl, fun _ hg => by rw [getPlan_setPlan_ne s p hg]⟩

theorem KeepsWindows.forEach {α : Type} {f : α → State → State} (l : List α) (h : ∀ a s, KeepsWindows s (f a s)) (s : State) :
    KeepsWindows s (forEach l f s) :=
  forEach_keeps (KeepsWindows s) f l (fun a _ _ ht => ht.trans (h a _)) s (.refl s)

/-- A window that is open ends later. -/
def EndsLater (h : Nat) (s : State) : Prop := (getPlan s h).open_ = false ∨ now s < (getPlan s h).s

theorem EndsLater.of_window {h : Nat} {s t : State} (hs : EndsLater h s) (htime : t.time = s.time) (hw : (getPlan t h).window = (getPlan s h).window) :
    EndsLater h t := by
  have hopen : (getPlan t h).open_ = (getPlan s h).open_ := congrArg Prod.fst hw
  have hend : (getPlan t h).s = (getPlan s h).s := congrArg (·.2.1) hw
  rwa [EndsLater, hopen, hend, now, htime]

section windows

variable (s : State)

/-- One cluster of the release: its reservation goes where more are reserved than its context's windows need. -/
def releaseOne (k : Nat) (s : State) : State :=
  match (getCluster s k).resv with
  | some c => if (reservedFor s c).length ≤ wantedBy s c then s else setCluster s k { getCluster s k with resv := none }
  | none => s

theorem releaseClosed_eq : releaseClosed s = forEach (List.range 24).reverse releaseOne s := rfl

theorem keepsWindows_releaseOne (k : Nat) : KeepsWindows s (releaseOne k s) := by
  unfold releaseOne
  split
  · split
    · exact .refl s
    · exact keepsWindows_setCluster s _ _
  · exact .refl s

theorem keepsWindows_releaseClosed : KeepsWindows s (releaseClosed s) := by
  rw [releaseClosed_eq]
  exact .forEach _ (fun k s => keepsWindows_releaseOne s k) s

theorem compositionDeadline_of_due {h : Nat} (hopen : (getPlan s h).open_ = true) (hdue : (getPlan s h).s ≤ now s) : compositionDeadline h s =
    releaseClosed (if !(ctxIdle s (getPlan s h).ctx) then incF (setPlan s h { getPlan s h with open_ := false }) (SHD_HD_MISS.COUNT h)
      else setPlan s h { getPlan s h with open_ := false }) :=
  if_neg (by simp only [hopen, Bool.true_eq_false, false_or]; omega)

theorem compositionDeadline_of_not_due {h : Nat} (hdue : (getPlan s h).open_ = false ∨ now s < (getPlan s h).s) : compositionDeadline h s = s := if_pos hdue

theorem keepsOtherWindows_compositionDeadline (h : Nat) : KeepsOtherWindows h s (compositionDeadline h s) := by
  by_cases hdue : (getPlan s h).open_ = false ∨ now s < (getPlan s h).s
  · rw [compositionDeadline_of_not_due s hdue]
    exact (KeepsWindows.refl s).others h
  · rw [compositionDeadline_of_due s (by simpa using fun h => hdue (.inl h)) (by omega)]
    have hclosed := keepsOtherWindows_setPlan s h { getPlan s h with open_ := false }
    refine KeepsOtherWindows.trans ?_ ((keepsWindows_releaseClosed _).others h)
    split
    · exact hclosed.trans ((keepsPlan_incF _ _ _).others h)
    · exact hclosed

/-- The plan of a head that has an S opens its window until S, or closes it. -/
theorem updatePlan_of_headS {h sAt : Nat} (hS : headS s h = some sAt) : ∃ p q : HeadPlan, updatePlan h s =
    if windowOpen (compositionDeadline h s) h p sAt then
      wrF (setPlan (compositionDeadline h s) h { q with open_ := true, s := sAt }) (SHD_HD_EST.E_US h) (min (estimate q / 1000) 65535)
    else setPlan (compositionDeadline h s) h { p with open_ := false } := by
  unfold updatePlan
  rw [hS]
  exact ⟨_, _, rfl⟩

/-- What the update of a plan comes to: the plan is set, and with an open window the estimate shown. -/
theorem updatePlan_cases (h : Nat) :
    (∃ p : HeadPlan, p.open_ = false ∧ (updatePlan h s = setPlan s h p ∨ updatePlan h s = setPlan (compositionDeadline h s) h p))
    ∨ ∃ p : HeadPlan, ∃ v, now (compositionDeadline h s) < p.s
      ∧ updatePlan h s = wrF (setPlan (compositionDeadline h s) h p) (SHD_HD_EST.E_US h) v := by
  cases hS : headS s h with
  | none => exact .inl ⟨_, rfl, .inl (by unfold updatePlan; rw [hS])⟩
  | some sAt =>
    obtain ⟨p, q, heq⟩ := updatePlan_of_headS s hS
    by_cases hopen : windowOpen (compositionDeadline h s) h p sAt = true
    · rw [if_pos hopen] at heq
      simp only [windowOpen, Bool.and_eq_true, decide_eq_true_eq] at hopen
      obtain ⟨⟨⟨-, hlater⟩, -⟩, -⟩ := hopen
      exact .inr ⟨_, _, hlater, heq⟩
    · rw [if_neg hopen] at heq
      exact .inl ⟨_, rfl, .inr heq⟩

theorem keepsOtherWindows_updatePlan (h : Nat) : KeepsOtherWindows h s (updatePlan h s) := by
  have hdead := keepsOtherWindows_compositionDeadline s h
  rcases updatePlan_cases s h with ⟨p, -, heq | heq⟩ | ⟨p, v, -, heq⟩ <;> rw [heq]
  · exact keepsOtherWindows_setPlan s h p
  · exact hdead.trans (keepsOtherWindows_setPlan _ h p)
  · exact (hdead.trans (keepsOtherWindows_setPlan _ h p)).trans ⟨rfl, rfl, fun _ _ => rfl⟩

theorem endsLater_updatePlan (h : Nat) : EndsLater h (updatePlan h s) := by
  rcases updatePlan_cases s h with ⟨p, hp, heq | heq⟩ | ⟨p, v, hp, heq⟩ <;> rw [heq]
  · exact .inl (by rw [getPlan_setPlan_same, hp])
  · exact .inl (by rw [getPlan_setPlan_same, hp])
  · refine .inr ?_
    have hplan : getPlan (wrF (setPlan (compositionDeadline h s) h p) (SHD_HD_EST.E_US h) v) h = p := getPlan_setPlan_same _ _ _
    rw [hplan]
    exact hp

/-- After the plans are updated every open window ends later. -/
theorem endsLater_updatePlans : ∀ h ∈ List.range 12, EndsLater h (forEach (List.range 12) updatePlan s) :=
  forEach_establishes EndsLater updatePlan (fun h s => endsLater_updatePlan s h)
    (fun h g s hg hlater => hlater.of_window (keepsOtherWindows_updatePlan s h).time ((keepsOtherWindows_updatePlan s h).window g hg)) _ s

theorem updatePlans_other : (forEach (List.range 12) updatePlan s).dsp = s.dsp ∧ (forEach (List.range 12) updatePlan s).time = s.time :=
  forEach_keeps (fun t => t.dsp = s.dsp ∧ t.time = s.time) updatePlan _
    (fun h _ t ht => ⟨(keepsOtherWindows_updatePlan t h).dsp.trans ht.1, (keepsOtherWindows_updatePlan t h).time.trans ht.2⟩) s ⟨rfl, rfl⟩

/-! ### Reservations (R167 to R169) -/

theorem keepsPlan_schedPreempt (k : Nat) (next : Option Nat) : KeepsPlan s (schedPreempt k next s) := by
  unfold schedPreempt
  dsimp only
  split
  · exact .refl s
  · exact .ite (.ite (sharesOnly_setCluster s (by rfl)).keepsPlan ((keepsPlan_incF s _ _).trans (sharesOnly_requestPreempt _ _ _).keepsPlan))
      (sharesOnly_requestPreempt s _ _).keepsPlan

theorem keepsWindows_reserveCluster (c k : Nat) : KeepsWindows s (reserveCluster c k s) := by
  unfold reserveCluster
  dsimp only
  have hset := keepsWindows_setCluster s k { getCluster s k with resv := some c }
  refine hset.trans ?_
  split
  · split
    · exact (sharesOnly_noteStart _ c).keepsPlan.toKeepsWindows
    split
    · exact ((sharesOnly_stopOn _ (by rfl)).trans (sharesOnly_placeContext _ c)).keepsPlan.toKeepsWindows
    · exact (keepsPlan_schedPreempt _ k _).toKeepsWindows
  · exact (sharesOnly_placeContext _ c).keepsPlan.toKeepsWindows

theorem keepsWindows_reserveHead (h : Nat) : KeepsWindows s (reserveHead h s) := by
  unfold reserveHead
  dsimp only
  split
  · exact .refl s
  · exact .forEach _ (fun k s => keepsWindows_reserveCluster s _ k) s

/-- The context has an open window. -/
def HasWindow (s : State) (c : Nat) : Prop := ∃ h ∈ List.range 12, (getPlan s h).open_ = true ∧ (getPlan s h).ctx = c

theorem HasWindow.of_keeps {s t : State} {c : Nat} (hs : HasWindow s c) (k : KeepsWindows s t) : HasWindow t c := by
  obtain ⟨h, hh, hopen, hctx⟩ := hs
  exact ⟨h, hh, (k.open_eq h).trans hopen, (k.ctx_eq h).trans hctx⟩

/-- A context that may keep a reservation has an open window. -/
theorem hasWindow_of_wantedBy {c : Nat} (h : 0 < wantedBy s c) : HasWindow s c := by
  obtain ⟨i, hi⟩ := List.exists_mem_of_ne_nil ((List.range 12).filter (fun h => (getPlan s h).open_ && decide ((getPlan s h).ctx = c)))
    (fun hnil => by rw [wantedBy, hnil] at h; exact absurd h (Nat.lt_irrefl 0))
  obtain ⟨hmem, hopen⟩ := List.mem_filter.mp hi
  rw [Bool.and_eq_true, decide_eq_true_eq] at hopen
  exact ⟨i, hmem, hopen⟩

/-- A cluster is reserved for a context with an open window, if it is reserved. -/
def ReservedInWindow (k : Nat) (s : State) : Prop := k < 24 → ∀ c, (getCluster s k).resv = some c → HasWindow s c

theorem reservedInWindow_releaseOne (k : Nat) : ReservedInWindow k (releaseOne k s) := by
  intro hk c hc
  cases hresv : (getCluster s k).resv with
  | none =>
    have heq : releaseOne k s = s := by unfold releaseOne; rw [hresv]
    rw [heq, hresv] at hc
    exact nomatch hc
  | some d =>
    have heq : releaseOne k s = if (reservedFor s d).length ≤ wantedBy s d then s else setCluster s k { getCluster s k with resv := none } := by
      unfold releaseOne; rw [hresv]
    rw [heq] at hc ⊢
    split at hc
    next hle =>
      rw [if_pos hle]
      obtain rfl : d = c := Option.some.inj (hresv.symm.trans hc)
      have hmem : k ∈ reservedFor s d := List.mem_filter.mpr ⟨List.mem_range.mpr hk, decide_eq_true hresv⟩
      exact hasWindow_of_wantedBy s (Nat.lt_of_lt_of_le (List.length_pos_of_mem hmem) hle)
    next => rw [getCluster_setCluster_same] at hc; exact nomatch hc

theorem ReservedInWindow.releaseOne {s : State} {k j : Nat} (hj : j ≠ k) (h : ReservedInWindow j s) : ReservedInWindow j (releaseOne k s) := by
  have hsame : getCluster (Machine.releaseOne k s) j = getCluster s j := by
    unfold Machine.releaseOne
    split
    · split
      · rfl
      · exact getCluster_setCluster_ne s k _ hj
    · rfl
  exact fun hlt c hc => (h hlt c (by rwa [hsame] at hc)).of_keeps (keepsWindows_releaseOne s k)

/-- After the release every reservation is for the context of an open window. -/
theorem reservedInWindow_releaseClosed {k : Nat} (hk : k < 24) : ReservedInWindow k (releaseClosed s) := by
  rw [releaseClosed_eq]
  exact forEach_establishes ReservedInWindow releaseOne (fun k s => reservedInWindow_releaseOne s k) (fun _ _ _ hj h => h.releaseOne hj) _ s k
    (List.mem_reverse.mpr (List.mem_range.mpr hk))

theorem ReservedInWindow.of_keepsPlan {u v : State} {k : Nat} (h : ReservedInWindow k u) (hkeep : KeepsPlan u v) : ReservedInWindow k v :=
  fun hlt c hc => (h hlt c ((hkeep.resv k).symm.trans hc)).of_keeps hkeep.toKeepsWindows

theorem keepsPlan_settle : KeepsPlan s (settle s) := .of_eq rfl rfl rfl rfl

theorem ReservedInWindow.all_eq {u : State} {k : Nat} (h : ReservedInWindow k u) (hk : k < 24) :
    (getCluster u k).resv.all (fun c => (List.range 12).any (fun h => (getPlan u h).open_ && decide ((getPlan u h).ctx = c))) = true := by
  cases hresv : (getCluster u k).resv with
  | none => rfl
  | some c =>
    obtain ⟨i, hi, hopen, hctx⟩ := h hk c hresv
    exact List.any_eq_true.mpr ⟨i, hi, by rw [hopen, hctx, decide_eq_true rfl]; rfl⟩

theorem all_endsLater {u : State} (h : ∀ i ∈ List.range 12, EndsLater i u) :
    (List.range 12).all (fun h => !(getPlan u h).open_ || decide (now u < (getPlan u h).s)) = true := by
  refine List.all_eq_true.mpr fun i hi => ?_
  rcases h i hi with hclosed | hlater
  · rw [hclosed]
    rfl
  · rw [decide_eq_true hlater, Bool.or_true]

/-! ### The evaluation (R167) -/

/-- The reservations of an evaluation, once its plans stand. -/
def reserveAll (s : State) : State :=
  forEach (openHeads (forEach (openHeads s) reserveHead s)) (fun h s => placeContext (getPlan s h).ctx s) (forEach (openHeads s) reserveHead s)

theorem deadlineTick_eq : deadlineTick s = goOnAll (releaseClosed (reserveAll (forEach (List.range 12) updatePlan s))) := rfl

theorem keepsWindows_reserveAll : KeepsWindows s (reserveAll s) :=
  (KeepsWindows.forEach _ (fun h s => keepsWindows_reserveHead s h) s).trans
    (.forEach _ (fun _ s => (sharesOnly_placeContext s _).keepsPlan.toKeepsWindows) _)

/-- From the plans that an evaluation updates to its end the windows stay. -/
theorem keepsWindows_deadlineTick : KeepsWindows (forEach (List.range 12) updatePlan s) (deadlineTick s) := by
  rw [deadlineTick_eq]
  exact ((keepsWindows_reserveAll _).trans (keepsWindows_releaseClosed _)).trans (keepsPlan_goOnAll _).toKeepsWindows

theorem reservedInWindow_deadlineTick {k : Nat} (hk : k < 24) : ReservedInWindow k (deadlineTick s) := by
  rw [deadlineTick_eq]
  exact (reservedInWindow_releaseClosed _ hk).of_keepsPlan (keepsPlan_goOnAll _)

theorem endsLater_deadlineTick : ∀ h ∈ List.range 12, EndsLater h (deadlineTick s) := fun h hh =>
  (endsLater_updatePlans s h hh).of_window (keepsWindows_deadlineTick s).time ((keepsWindows_deadlineTick s).window h)

theorem deadlineTick_other : (deadlineTick s).dsp = s.dsp ∧ (deadlineTick s).time = s.time :=
  ⟨(keepsWindows_deadlineTick s).dsp.trans (updatePlans_other s).1, (keepsWindows_deadlineTick s).time.trans (updatePlans_other s).2⟩

end windows

section commands

variable {s : State} {t : Nat}

theorem runs_deadlineTick {k : Nat} (hrun : s.pwr.phase = .run) (hk : k < 24) :
    Runs (.deadlineTick t) s (fun u =>
      (getCluster u k).resv.all (fun c => (List.range 12).any (fun h => (getPlan u h).open_ && decide ((getPlan u h).ctx = c))) = true
      ∧ (List.range 12).all (fun h => !(getPlan u h).open_ || decide (now (begin t s) < (getPlan u h).s)) = true ∧ u.dsp = s.dsp) := by
  refine runs_of_act t deadlineTick hrun rfl ?_
  obtain ⟨hdsp, htime⟩ := deadlineTick_other (begin t s)
  have hend := keepsPlan_settle (deadlineTick (begin t s))
  have hresv := (reservedInWindow_deadlineTick (begin t s) hk).of_keepsPlan hend
  have hlater : ∀ i ∈ List.range 12, EndsLater i (settle (deadlineTick (begin t s))) := fun i hi =>
    (endsLater_deadlineTick (begin t s) i hi).of_window hend.time (hend.window i)
  have hnow : now (settle (deadlineTick (begin t s))) = now (begin t s) := by rw [now, hend.time, htime, now]
  exact ⟨hresv.all_eq hk, hnow ▸ all_endsLater hlater, hend.dsp.trans (hdsp.trans (begin_dsp s t))⟩

/-- L is reached while fewer clusters than the window needs are freed: the late start counts, once. -/
theorem latestStartReached_of_late {h : Nat} (hopen : (getPlan s h).open_ = true) (hlate : (getPlan s h).late = false)
    (hdue : latestStart (getPlan s h) (getPlan s h).s ≤ now s)
    (hfew : ((reservedFor s (getPlan s h).ctx).filter (fun k => decide ((getCluster s k).ctx = none ∨ (getCluster s k).ctx = some (getPlan s h).ctx))).length
      < min (getPlan s h).need (maxClusters s (getPlan s h).ctx)) :
    latestStartReached h s = incF (setPlan s h { getPlan s h with late := true }) (SHD_HD_LATE.COUNT h) :=
  if_pos ⟨hopen, hlate, hdue, hfew⟩

@[simp] theorem reservedFor_begin (c : Nat) : reservedFor (begin t s) c = reservedFor s c := by simp [reservedFor]
@[simp] theorem maxClusters_begin (c : Nat) : maxClusters (begin t s) c = maxClusters s c := by simp [maxClusters]
@[simp] theorem ctxIdle_begin (c : Nat) : ctxIdle (begin t s) c = ctxIdle s c := by simp [ctxIdle]

theorem runs_latestStartReached {h : Nat} (hrun : s.pwr.phase = .run) (hopen : (getPlan s h).open_ = true) (hlate : (getPlan s h).late = false)
    (hdue : latestStart (getPlan s h) (getPlan s h).s ≤ now (begin t s))
    (hfew : ((reservedFor s (getPlan s h).ctx).filter (fun k => decide ((getCluster s k).ctx = none ∨ (getCluster s k).ctx = some (getPlan s h).ctx))).length
      < min (getPlan s h).need (maxClusters s (getPlan s h).ctx)) :
    Runs (.latestStartReached t h) s (fun u => rdF u (SHD_HD_LATE.COUNT h) = min (rdF s (SHD_HD_LATE.COUNT h) + 1) (2 ^ 32 - 1)
      ∧ (getPlan u h).late = true) := by
  refine runs_of_act t (latestStartReached h) hrun rfl ?_
  obtain ⟨halert, -⟩ := apart_of_le (r := .SHD_HD_LATE h) (Nat.le_add_right_of_le (by decide))
  rw [latestStartReached_of_late (by simpa using hopen) (by simpa using hlate) (by simpa using hdue) (by simpa using hfew), getPlan_settle,
    getPlan_incF, getPlan_setPlan_same, rdF_settle _ _ halert, rdF_incF_same _ _ _ rfl, rdF_setPlan, rdF_begin]
  exact ⟨rfl, rfl⟩

theorem rdF_releaseClosed (s : State) {f : Fld} (hf : f.reg.key ≠ Reg.PWR_DOMAIN.key) : rdF (releaseClosed s) f = rdF s f := by
  rw [releaseClosed_eq]
  refine forEach_keeps (fun u => rdF u f = rdF s f) releaseOne _ (fun k _ u hu => ?_) s rfl
  unfold releaseOne
  split
  · split
    · exact hu
    · exact (rdF_setCluster u k _ hf).trans hu
  · exact hu

theorem runs_compositionDeadline {h : Nat} (hrun : s.pwr.phase = .run) (hopen : (getPlan s h).open_ = true) (hdue : (getPlan s h).s ≤ now (begin t s)) :
    Runs (.compositionDeadline t h) s (fun u => (getPlan u h).open_ = false ∧ rdF u (SHD_HD_MISS.COUNT h) =
      (if ctxIdle s (getPlan s h).ctx = false then min (rdF s (SHD_HD_MISS.COUNT h) + 1) (2 ^ 32 - 1) else rdF s (SHD_HD_MISS.COUNT h))) := by
  refine runs_of_act t (compositionDeadline h) hrun rfl ?_
  obtain ⟨halert, hpwr⟩ := apart_of_le (r := .SHD_HD_MISS h) (Nat.le_add_right_of_le (by decide))
  rw [compositionDeadline_of_due _ (by simpa using hopen) (by simpa using hdue), getPlan_settle, (keepsWindows_releaseClosed _).open_eq,
    rdF_settle _ _ halert, rdF_releaseClosed _ hpwr, ctxIdle_begin, getPlan_begin]
  cases ctxIdle s (getPlan s h).ctx with
  | true =>
    rw [if_neg (by decide), if_neg (by decide), getPlan_setPlan_same, rdF_setPlan, rdF_begin]
    exact ⟨rfl, rfl⟩
  | false =>
    rw [if_pos rfl, if_pos Bool.not_false, getPlan_incF, getPlan_setPlan_same, rdF_incF_same _ _ _ rfl, rdF_setPlan, rdF_begin]
    exact ⟨rfl, rfl⟩

end commands

/-! ### Fill work (R161) -/

/-- The choice among contexts in a list is one of them. -/
theorem foldl_choice_mem (better : Nat → Nat → Bool) (l : List Nat) : ∀ (b : Option Nat) {c : Nat},
    l.foldl (fun b c => match b with | none => some c | some b => if better c b then some c else some b) b = some c → b = some c ∨ c ∈ l := by
  induction l with
  | nil => exact fun b c h => .inl h
  | cons a l ih =>
    intro b c h
    rw [List.foldl_cons] at h
    rcases ih _ h with hb | hl
    · cases b with
      | none => exact .inr (by cases hb; exact List.mem_cons_self)
      | some b =>
        dsimp only at hb
        split at hb
        · cases hb
          exact .inr List.mem_cons_self
        · exact .inl hb
    · exact .inr (List.mem_cons_of_mem _ hl)

section fill

variable {s : State} {k c : Nat}

/-- The context that an idle cluster takes has a workgroup ready for it. -/
theorem fillReady_of_fillChoice (h : fillChoice s k = some c) : fillReady s c = true := by
  unfold fillChoice at h
  rcases foldl_choice_mem _ _ _ h with hnone | hmem
  · exact nomatch hnone
  · rcases List.mem_append.mp hmem with hmem | hmem <;>
      exact (Bool.and_eq_true_iff.mp (List.mem_filter.mp (List.mem_filter.mp hmem).1).2).1

theorem groups_of_fillReady (h : fillReady s c = true) : (getCtx s c).groups ≠ 0 := by
  obtain ⟨hunits, -⟩ := of_decide_eq_true h
  intro hzero
  rw [fillUnits, hzero, Nat.zero_min, ite_self] at hunits
  exact absurd hunits (Nat.not_lt_zero _)

/-- No draw waits: binning has nothing to go on with. -/
theorem binWaiting_of_not_held (h : binHeld (getCtx s c) = false) : binWaiting c s = s := by
  unfold binWaiting
  dsimp only
  cases hp : (getCtx s c).pass with
  | none => rfl
  | some p =>
    simp only [binHeld, hp, decide_eq_false_iff_not, not_or, not_and] at h
    obtain ⟨-, -, hheld⟩ := h
    refine if_pos ?_
    by_cases hphase : p.phase = .binning
    · obtain ⟨hwaiting, htable⟩ := hheld hphase
      exact .inr (.inr ⟨by simpa using hwaiting, htable⟩)
    · exact .inl hphase

/-- A context with workgroups to complete keeps them, its clusters and the memory when its stream goes on. -/
theorem csGoOn_of_groups (h : (getCtx s c).groups ≠ 0) : (csGoOn c s).rnd.clusters = s.rnd.clusters ∧ (csGoOn c s).mem = s.mem := by
  have hgo := csGoOn_keeps c s (fun u => (getCtx u c).groups ≠ 0 ∧ u.rnd.clusters = s.rnd.clusters ∧ u.mem = s.mem)
    (fun st e u _ hquiet hu => absurd (of_decide_eq_true (Bool.and_eq_true_iff.mp hquiet).2) hu.1) (fun e ofs u hu => ?stop)
    (fun u hu => by rwa [getCtx_congr (congrArg _ (syncCtx_rnd c u)), syncCtx_rnd, syncCtx_mem]) ⟨h, rfl, rfl⟩
  case stop =>
    cases hst : (getCtx u c).stream with
    | none => rwa [stopStream_of_none c u e ofs hst]
    | some st =>
      rw [stopStream_of_some c u e ofs hst, getCtx_setCtx_same]
      obtain ⟨g, hdrop⟩ := dropIngest_other c u
      refine ⟨hu.1, ?_⟩
      split
      · rw [hdrop]
        exact hu.2
      · exact hu.2
  exact hgo.2

theorem asyncFill_of_idle (hidle : clusterIdle s k = true) (hresv : (getCluster s k).resv = none) (huse : usable s k = true)
    (hreq : (getCluster s k).preempt = none) (hc : fillChoice s k = some c) : asyncFill k s =
      ctxGoOn c (startOn k c { getCluster s k with fill := decide ((getCluster s k).grant ≠ some c) }
        { s with rnd := { s.rnd with fillRr := (c + 1) % 512 } }) := by
  have hfree : ¬ (clusterIdle s k = false ∨ (getCluster s k).resv.isSome = true ∨ usable s k = false ∨ (getCluster s k).preempt.isSome = true) := by
    simp [hidle, hresv, huse, hreq]
  unfold asyncFill
  dsimp only
  rw [if_neg hfree, hc]

/-- The idle cluster runs the context that the choice names, whose stream stands while its workgroups are outstanding. -/
theorem asyncFill_takes (hidle : clusterIdle s k = true) (hresv : (getCluster s k).resv = none) (huse : usable s k = true)
    (hreq : (getCluster s k).preempt = none) (hc : fillChoice s k = some c) (hheld : binHeld (getCtx s c) = false) :
    (getCluster (asyncFill k s) k).ctx = some c ∧ (asyncFill k s).mem = s.mem := by
  rw [asyncFill_of_idle hidle hresv huse hreq hc]
  have hshare := sharesOnly_startOn { s with rnd := { s.rnd with fillRr := (c + 1) % 512 } } (k := k)
    (x := { getCluster s k with fill := decide ((getCluster s k).grant ≠ some c) }) c rfl
  have hstart := getCluster_startOn { s with rnd := { s.rnd with fillRr := (c + 1) % 512 } } k
    { getCluster s k with fill := decide ((getCluster s k).grant ≠ some c) } c
  generalize startOn k c _ _ = u at hshare hstart ⊢
  have hctx : getCtx u c = getCtx s c := hshare.getCtx_eq c
  obtain ⟨hclusters, hmem⟩ := csGoOn_of_groups (s := u) (c := c) (by rw [hctx]; exact groups_of_fillReady (fillReady_of_fillChoice hc))
  rw [ctxGoOn, binWaiting_of_not_held (by rwa [hctx]), getCluster_congr hclusters, hmem, hstart, hshare.mem]
  exact ⟨rfl, rfl⟩

/-- A command that begins moves the clock, the messages and the record of accesses alone. -/
theorem begin_other (t : Nat) (s : State) : ∃ u, begin t s = { s with out := [], touched := [], time := u } := by
  unfold begin advance
  split
  · exact ⟨_, rfl⟩
  · exact ⟨s.time, rfl⟩

theorem clusterIdle_begin (t : Nat) : clusterIdle (begin t s) k = clusterIdle s k := by obtain ⟨u, h⟩ := begin_other t s; rw [h]; rfl
theorem usable_begin (t : Nat) : usable (begin t s) k = usable s k := by obtain ⟨u, h⟩ := begin_other t s; rw [h]; rfl
theorem fillChoice_begin (t : Nat) : fillChoice (begin t s) k = fillChoice s k := by obtain ⟨u, h⟩ := begin_other t s; rw [h]; rfl

theorem runs_asyncFill {t : Nat} (hrun : s.pwr.phase = .run) (hidle : clusterIdle s k = true) (hresv : (getCluster s k).resv = none)
    (huse : usable s k = true) (hreq : (getCluster s k).preempt = none) (hc : fillChoice s k = some c) (hheld : binHeld (getCtx s c) = false) :
    Runs (.asyncFill t k) s (fun u => (getCluster u k).ctx = some c ∧ u.mem = s.mem) := by
  refine runs_of_act t (asyncFill k) hrun rfl ?_
  obtain ⟨hctx, hmem⟩ := asyncFill_takes (s := begin t s) ((clusterIdle_begin t).trans hidle) (by rwa [getCluster_begin])
    ((usable_begin t).trans huse) (by rwa [getCluster_begin]) ((fillChoice_begin t).trans hc) (by rwa [getCtx_begin])
  rw [getCluster_settle, settle_mem, hmem, begin_mem]
  exact ⟨hctx, rfl⟩

end fill

/-- Settles O26, command by command. -/
theorem deadlineScheduler : Obligations.DeadlineScheduler := by
  unfold Obligations.DeadlineScheduler
  refine ⟨?tick, ?late, ?deadline, ?fill⟩
  case tick => exact fun s t k _ hrun hk => runs_deadlineTick hrun hk
  case late => exact fun s t h _ hrun hopen hlate hdue hfew => runs_latestStartReached hrun hopen hlate hdue hfew
  case deadline => exact fun s t h _ hrun hopen hdue => runs_compositionDeadline hrun hopen hdue
  case fill => exact fun s t k c _ hrun hidle hresv huse hreq hc hheld => runs_asyncFill hrun hidle hresv huse hreq hc hheld

end Sys2Proof.Machine
end

section
/-! The traffic of a command's engines in memory without errors: the channels that it wakes (R361, R373, R374). -/

namespace Sys2Proof.Machine

section wakes

variable (s : State)

/-- A register below those of the render engine shows no context. -/
theorem showsCtx_of_lt {r : Reg} (h : r.key < 0x80000) : showsCtx r = false := decide_eq_false (by omega)

theorem outsideOnly_faultLog (f : FaultRep) (cls count : Nat) : OutsideOnly s (faultLog f cls count s) := (reportsOnly_writeLog s _ _ _ _ _ _).outsideOnly

theorem outsideOnly_faultEvents (f : FaultRep) (cls count : Nat) : OutsideOnly s (faultEvents f cls count s) := by
  have hpost : ∀ (s : State) fn payload, OutsideOnly s (postEvent s fn EV_FAULT f.inst (unitField f) payload) := fun s _ _ =>
    (reportsOnly_postEvent s _ _ _ _ _).outsideOnly
  unfold faultEvents
  exact .ite (hpost s _ _) ((hpost s _ _).trans (hpost _ _ _))

theorem outsideOnly_enterSafe (id : Nat) : OutsideOnly s (enterSafe id s) := by
  refine .ite (.refl s) (OutsideOnly.trans ?_ (reportsOnly_writeLog _ _ _ _ _ _ _).outsideOnly)
  exact (outsideOnly_wrF s _ _ rfl).trans (outsideOnly_wrF _ _ _ rfl)

theorem outsideOnly_countFault (f : FaultRep) : OutsideOnly s (countFault f s) := by
  have hcount : OutsideOnly s (incF s SHL_TRANSIENT_TOTAL.COUNT) := outsideOnly_incF s _ _ rfl
  exact .ite (.refl s) (.ite (hcount.trans (.of_regs ⟨_, _, _, _, _, _, _, rfl⟩)) hcount)

theorem outsideOnly_failTest (f : FaultRep) : OutsideOnly s (failTest f s) := .ite (.of_regs ⟨_, _, _, _, _, _, _, rfl⟩) (.refl s)

/-- A fault is reported outside the render engine. -/
theorem outsideOnly_reportFault (f : FaultRep) : OutsideOnly s (reportFault f s) := by
  unfold reportFault
  refine (outsideOnly_failTest s f).trans (.ite (outsideOnly_faultLog _ _ _ _) (.ite (outsideOnly_faultLog _ _ _ _) ?_))
  refine ((outsideOnly_countFault _ f).trans (outsideOnly_faultLog _ _ _ _)).trans (.ite (.of_regs ⟨_, _, _, _, _, _, _, rfl⟩) ?_)
  refine (outsideOnly_faultEvents _ _ _ _).trans (.ite (outsideOnly_enterSafe _ _) (.ite ?_ (.refl _)))
  exact ((outsideOnly_faultLog _ _ _ _).trans (outsideOnly_faultEvents _ _ _ _)).trans (outsideOnly_enterSafe _ _)

theorem outsideOnly_setChannel (c : Nat) (x : MemChannel) : OutsideOnly s (setChannel s c x) := .of_regs ⟨_, _, _, _, _, _, _, rfl⟩
theorem outsideOnly_spend : OutsideOnly s (spend s) := .of_regs ⟨_, _, _, _, _, _, _, rfl⟩

theorem outsideOnly_wr (r : Reg) (v : Word) (h : showsCtx r = false) : OutsideOnly s (wr s r v) := ⟨⟨_, _, _, _, _, _, _, _, rfl⟩, showsAlike_wr s v h⟩

section channel

variable {c : Nat} (hc : c < 4)
include hc

/-- The registers of the four channels lie below those of the render engine. -/
theorem showsCtx_channel : showsCtx (.MEM_CH_STATUS c) = false ∧ showsCtx (.MEM_CH_RETRAINED c) = false
    ∧ showsCtx (.MEM_CH_LAST_LO c) = false ∧ showsCtx (.MEM_CH_LAST_HI c) = false := by
  have hkey : (Reg.MEM_CH_STATUS c).key = 0x60100 + 0x20 * c ∧ (Reg.MEM_CH_RETRAINED c).key = 0x60104 + 0x20 * c
    ∧ (Reg.MEM_CH_LAST_LO c).key = 0x6010C + 0x20 * c ∧ (Reg.MEM_CH_LAST_HI c).key = 0x60110 + 0x20 * c := ⟨rfl, rfl, rfl, rfl⟩
  exact ⟨showsCtx_of_lt (by omega), showsCtx_of_lt (by omega), showsCtx_of_lt (by omega), showsCtx_of_lt (by omega)⟩

theorem outsideOnly_retrained : OutsideOnly s (retrained c s) := by
  obtain ⟨hstatus, hcount, hlo, hhi⟩ := showsCtx_channel hc
  unfold retrained wr64
  refine OutsideOnly.trans ?_ (outsideOnly_setChannel _ c _)
  refine OutsideOnly.trans ?_ (outsideOnly_wr _ _ _ hhi)
  exact ((outsideOnly_wrF s _ _ hstatus).trans (outsideOnly_incF _ _ _ hcount)).trans (outsideOnly_wr _ _ _ hlo)

/-- A channel wakes, and the steps of its retraining that fell due are taken. -/
theorem outsideOnly_wakeChannel : OutsideOnly s (wakeChannel c s) := by
  obtain ⟨hstatus, -, -, -⟩ := showsCtx_channel hc
  have hactive : OutsideOnly s (wrF s (MEM_CH_STATUS.STATE c) CH_ACTIVE) := outsideOnly_wrF s _ _ hstatus
  have hfailed : ∀ v (s : State), OutsideOnly s (trainStep c false (wrF (spend s) (MEM_CH_STATUS.STEPS_DUE c) v)) := fun v s => by
    rw [trainStep, if_pos rfl]
    exact ((outsideOnly_spend s).trans (outsideOnly_wrF _ _ v hstatus)).trans (outsideOnly_reportFault _ _)
  unfold wakeChannel
  dsimp only
  split
  · exact .refl s
  · refine hactive.trans (.ite (.refl _) (.ite ?_ (hfailed _ _)))
    exact (outsideOnly_spend _).trans (outsideOnly_retrained _ hc)

end channel

theorem outsideOnly_wakeTouched : OutsideOnly s (wakeTouched s) := by
  refine OutsideOnly.trans (t := { s with touched := [] }) (.of_regs ⟨_, _, _, _, _, _, _, rfl⟩) (.forEach _ (fun c hc s => ?_) _)
  exact (outsideOnly_wakeChannel s (List.mem_range.mp (List.mem_filter.mp hc).1)).trans (outsideOnly_setChannel _ c _)

/-- In memory without errors a command's engines leave its effect and the channels woken. -/
theorem engineWork_of_clean (f : State → State) (h : memClean s = true) : engineWork f s = wakeTouched (f s) := if_pos h

end wakes

end Sys2Proof.Machine
end

section
/-! Shader ingest (R152 to R155): which ingest starts, what one that reaches its result leaves, and how the stream that waited for it goes on. -/

namespace Sys2Proof.Machine

/-! ### An ingest starts (R154) -/

section start

variable {s : State}

/-- The rotating pointer reaches whoever waits. -/
theorem exists_next_waiting {i : Ingest} (hi : i ∈ s.rnd.ingests) (hinst : i.inst ≤ 256) :
    ∃ n, ((List.range 257).map (fun j => (s.rnd.ingestRr + j) % 257)).find? (fun n => s.rnd.ingests.any (fun i => decide (i.inst = n))) = some n := by
  refine Option.isSome_iff_exists.mp (List.find?_isSome.mpr ⟨i.inst, List.mem_map.mpr ?_, List.any_eq_true.mpr ⟨i, hi, decide_eq_true rfl⟩⟩)
  exact ⟨(i.inst + 257 - s.rnd.ingestRr % 257) % 257, List.mem_range.mpr (Nat.mod_lt _ (by decide)), by omega⟩

/-- Where none runs and one waits, one that waits starts now. -/
theorem ingestStart_ingests (hwait : ∀ i ∈ s.rnd.ingests, i.startedAt = none ∧ i.inst ≤ 256) (hne : s.rnd.ingests ≠ []) :
    ∃ i ∈ s.rnd.ingests, (ingestStart s).rnd.ingests = { i with startedAt := some (now s) } :: s.rnd.ingests.erase i := by
  obtain ⟨i₀, hi₀⟩ := List.exists_mem_of_ne_nil _ hne
  obtain ⟨n, hn⟩ := exists_next_waiting hi₀ (hwait i₀ hi₀).2
  obtain ⟨j, hj, hjn⟩ := List.any_eq_true.mp (List.find?_some (p := fun n => s.rnd.ingests.any (fun i => decide (i.inst = n))) hn)
  obtain ⟨i, hi⟩ := Option.isSome_iff_exists.mp (List.find?_isSome (p := fun i : Ingest => decide (i.inst = n)).mpr ⟨j, hj, hjn⟩)
  have hnone : ¬ s.rnd.ingests.any (fun i => i.startedAt.isSome) = true := fun hsome => by
    obtain ⟨k, hk, hstarted⟩ := List.any_eq_true.mp hsome
    rw [(hwait k hk).1] at hstarted
    exact nomatch hstarted
  refine ⟨i, List.mem_of_find?_eq_some hi, ?_⟩
  unfold ingestStart
  rw [if_neg hnone, hn]
  dsimp only
  rw [hi]
  dsimp only
  split <;> rfl

theorem runs_ingestStart {t : Nat} (hrun : s.pwr.phase = .run)
    (hwait : s.rnd.ingests.all (fun (i : Ingest) => i.startedAt.isNone && decide (i.inst ≤ 256)) = true) (hne : s.rnd.ingests ≠ []) :
    Runs (.ingestStart t) s (fun u => u.rnd.ingests.any (fun (i : Ingest) => decide (i.startedAt = some (now (begin t s)))) = true
      ∧ u.rnd.ingests.length = s.rnd.ingests.length) := by
  refine runs_of_act t ingestStart hrun rfl ?_
  have hall : ∀ i ∈ (begin t s).rnd.ingests, i.startedAt = none ∧ i.inst ≤ 256 := fun i hi => by
    rw [begin_rnd] at hi
    simpa using List.all_eq_true.mp hwait i hi
  obtain ⟨i, hi, heq⟩ := ingestStart_ingests hall (by rwa [begin_rnd])
  rw [settle_rnd, heq, begin_rnd, List.any_cons, decide_eq_true rfl, List.length_cons, List.length_erase_of_mem (by rwa [begin_rnd] at hi)]
  exact ⟨rfl, Nat.sub_add_cancel (List.length_pos_of_mem (by rwa [begin_rnd] at hi))⟩

end start

/-! ### What the checks of a record read -/

section reads

variable {s t : State} {n : Nat}

theorem inSlice_congr (h : rd t (.INST_SLICE n) = rd s (.INST_SLICE n)) (a len : Nat) : inSlice t n a len = inSlice s n a len := by
  have hbase : rdF t (INST_SLICE.BASE n) = rdF s (INST_SLICE.BASE n) := congrArg (fun w : Word => bitsOf w.toNat 13 0) h
  have hsize : rdF t (INST_SLICE.SIZE n) = rdF s (INST_SLICE.SIZE n) := congrArg (fun w : Word => bitsOf w.toNat 30 16) h
  rw [inSlice, inSlice, hbase, hsize]

/-- Memory reads alike in states that hold the same. -/
theorem readMem_congr (h : t.mem = s.mem) (a k : Nat) : readMem t a k = readMem s a k := by rw [readMem, readMem, h]
theorem readNum_congr (h : t.mem = s.mem) (a k : Nat) : readNum t a k = readNum s a k := by rw [readNum, readNum, readMem_congr h]
theorem pipelineRecord_congr (h : t.mem = s.mem) (a : Nat) : pipelineRecord t a = pipelineRecord s a := by
  rw [pipelineRecord, pipelineRecord, readNum_congr h]
theorem pipelineBytes_congr (h : t.mem = s.mem) (a : Nat) : pipelineBytes t a = pipelineBytes s a := by
  rw [pipelineBytes, pipelineBytes, readMem_congr h, readMem_congr h]
theorem moduleBytes_congr (h : t.mem = s.mem) (r : Page) (k : Nat) : moduleBytes t r k = moduleBytes s r k := by
  rw [moduleBytes, moduleBytes, readMem_congr h]
theorem modulesOf_congr (h : t.mem = s.mem) (r : Page) : modulesOf t r = modulesOf s r := by
  have hlist : moduleList t r = moduleList s r := funext fun k => List.map_congr_left fun _ _ => readNum_congr h _ _
  rw [modulesOf, modulesOf, hlist]
theorem cacheKey_congr (h : t.mem = s.mem) (a : Nat) (r : Page) : cacheKey t a r = cacheKey s a r := by
  rw [cacheKey, cacheKey, pipelineBytes_congr h, moduleBytes_congr h, moduleBytes_congr h]
theorem translation_congr (h : t.mem = s.mem) (hboot : t.boot = s.boot) (a : Nat) (r : Page) : translation t a r = translation s a r := by
  rw [translation, translation, pipelineBytes_congr h, modulesOf_congr h, firmwareVersion, firmwareVersion, hboot]

/-- The checks of a record read memory, the slice and the firmware version alone (R150, R153). -/
theorem ingestFinding_congr (h : t.mem = s.mem) (hboot : t.boot = s.boot) (hslice : rd t (.INST_SLICE n) = rd s (.INST_SLICE n)) (a : Nat) (r : Page) :
    ingestFinding t n a r = ingestFinding s n a r := by
  have hinside : modulesInside t n r = modulesInside s n r := by rw [modulesInside, modulesInside, inSlice_congr hslice, inSlice_congr hslice]
  unfold ingestFinding
  rw [inSlice_congr hslice, hinside, inSlice_congr hslice, modulesOf_congr h, translation_congr h hboot]

/-- Whether room is made depends on the cache alone. -/
theorem makeRoom_isSome_congr (size fuel : Nat) : ∀ {s t : State}, t.rnd.cache = s.rnd.cache → (makeRoom fuel size t).isSome = (makeRoom fuel size s).isSome := by
  induction fuel with
  | zero => exact fun _ => rfl
  | succ fuel ih =>
    intro s t h
    have hused : cacheUsed t = cacheUsed s := by rw [cacheUsed, cacheUsed, h]
    have hlru : lruEntry t = lruEntry s := by rw [lruEntry, lruEntry, h]
    unfold makeRoom
    rw [hused, hlru]
    split
    · rfl
    cases lruEntry s with
    | none => rfl
    | some e => exact ih (congrArg (·.erase e) h)

theorem cacheTranslation_isSome_congr (h : t.mem = s.mem) (hboot : t.boot = s.boot) (hcache : t.rnd.cache = s.rnd.cache) (i : Ingest) (r : Page) :
    (cacheTranslation t i r).isSome = (cacheTranslation s i r).isSome := by
  unfold cacheTranslation
  rw [hcache, cacheKey_congr h, translation_congr h hboot]
  dsimp only
  split
  · rfl
  · rw [Option.isSome_map, Option.isSome_map]
    exact makeRoom_isSome_congr _ _ hcache

end reads

/-! ### What a stream's going on leaves of its context (R118, R152) -/

section going

/-- The state after a stream's end before the next one starts. -/
def closeStream (c : Nat) (st : Stream) (e : Nat) (s : State) : State :=
  complete (recordEnd c e (if e = ST_OK then 0xFFFFFFFF else st.failOfs) (setCtx s c { getCtx s c with stream := none })) st.fn st.q st.id e

theorem endStream_eq (c : Nat) (st : Stream) (e : Nat) (s : State) : endStream c st e s = startNext c (closeStream c st e s) := rfl

section

variable (c : Nat) (st : Stream) (e : Nat) (s : State)

theorem closeStream_rnd : (closeStream c st e s).rnd = (setCtx s c { getCtx s c with stream := none }).rnd := (outsideOnly_complete _ _ _ _ _).rnd

theorem getCtx_closeStream : getCtx (closeStream c st e s) c = { getCtx s c with stream := none } := by
  rw [getCtx_congr (congrArg _ (closeStream_rnd c st e s)), getCtx_setCtx_same]

/-- What the registers show of a stream's end is none of INGEST. -/
theorem ingest_recordEnd (ofs : Nat) : rdF (recordEnd c e ofs s) (SHD_CTX_SCHED.INGEST c) = rdF s (SHD_CTX_SCHED.INGEST c) := by
  have hkey : (Reg.SHD_CTX_SCHED c).key = 0x80024 + 0x40 * c ∧ (Reg.RND_CTX_STATUS c).key = 0x80008 + 0x40 * c
    ∧ (Reg.RND_CTX_FAILOFS c).key = 0x8000C + 0x40 * c := ⟨rfl, rfl, rfl⟩
  unfold recordEnd
  rw [rdF_wr_ne _ _ (show (Reg.SHD_CTX_SCHED c).key ≠ (Reg.RND_CTX_FAILOFS c).key by omega),
    rdF_wrF_ne _ _ (show (Reg.SHD_CTX_SCHED c).key ≠ (Reg.RND_CTX_STATUS c).key by omega)]

theorem status_recordEnd (ofs : Nat) : rdF (recordEnd c e ofs s) (RND_CTX_STATUS.LAST_STATUS c) = e % 256 := by
  have hkey : (Reg.RND_CTX_STATUS c).key = 0x80008 + 0x40 * c ∧ (Reg.RND_CTX_FAILOFS c).key = 0x8000C + 0x40 * c := ⟨rfl, rfl⟩
  unfold recordEnd
  rw [rdF_wr_ne _ _ (show (Reg.RND_CTX_STATUS c).key ≠ (Reg.RND_CTX_FAILOFS c).key by omega), rdF_wrF_same _ _ _ rfl]
  rfl

theorem ingest_syncCtx : rdF (syncCtx c s) (SHD_CTX_SCHED.INGEST c) = rdF s (SHD_CTX_SCHED.INGEST c) := by
  have hkey : (Reg.SHD_CTX_SCHED c).key = 0x80024 + 0x40 * c ∧ (Reg.RND_CTX_STATUS c).key = 0x80008 + 0x40 * c := ⟨rfl, rfl⟩
  have hne : (Reg.SHD_CTX_SCHED c).key ≠ (Reg.RND_CTX_STATUS c).key := by omega
  unfold syncCtx
  dsimp only
  split
  · rw [rdF_wrF_ne _ _ hne, rdF_wrF_ne _ _ hne, rdF_wrF_ne _ _ hne]
  · rw [rdF_wrF_ne _ _ hne, rdF_wrF_ne _ _ hne]

theorem status_syncCtx : rdF (syncCtx c s) (RND_CTX_STATUS.LAST_STATUS c) = rdF s (RND_CTX_STATUS.LAST_STATUS c) := by
  have hstate : ∀ (s : State) v, rdF (wrF s (RND_CTX_STATUS.STATE c) v) (RND_CTX_STATUS.LAST_STATUS c) = rdF s (RND_CTX_STATUS.LAST_STATUS c) :=
    fun s v => rdF_wrF_apart (f := RND_CTX_STATUS.STATE c) (g := RND_CTX_STATUS.LAST_STATUS c) s v rfl rfl rfl rfl
  have hchunks : ∀ (s : State) v, rdF (wrF s (RND_CTX_STATUS.CHUNKS c) v) (RND_CTX_STATUS.LAST_STATUS c) = rdF s (RND_CTX_STATUS.LAST_STATUS c) :=
    fun s v => rdF_wrF_apart (f := RND_CTX_STATUS.CHUNKS c) (g := RND_CTX_STATUS.LAST_STATUS c) s v rfl rfl rfl rfl
  have hsplits : ∀ (s : State) v, rdF (wrF s (RND_CTX_STATUS.SPLITS c) v) (RND_CTX_STATUS.LAST_STATUS c) = rdF s (RND_CTX_STATUS.LAST_STATUS c) :=
    fun s v => rdF_wrF_apart (f := RND_CTX_STATUS.SPLITS c) (g := RND_CTX_STATUS.LAST_STATUS c) s v rfl rfl rfl rfl
  unfold syncCtx
  dsimp only
  split
  · rw [hsplits, hchunks, hstate]
  · rw [hchunks, hstate]

theorem ingest_dropIngest : flag (dropIngest c s) (SHD_CTX_SCHED.INGEST c) = false := by
  have hkey : (Reg.SHD_CTX_SCHED c).key = 0x80024 + 0x40 * c ∧ Reg.SHD_INGEST_QUEUE.key = 0x8A000 := ⟨rfl, rfl⟩
  unfold dropIngest syncIngest
  rw [flag_wrF_ne _ _ (show (Reg.SHD_CTX_SCHED c).key ≠ Reg.SHD_INGEST_QUEUE.key by omega), flag_wrB_same _ _ _ rfl]

theorem takeQueued_other : (∃ x, takeQueued c s = setCtx s c x ∧ x.pipeline = (getCtx s c).pipeline) ∨ takeQueued c s = s := by
  unfold takeQueued
  split
  · exact .inl ⟨_, rfl, rfl⟩
  · exact .inr rfl

end

/-- `u` has gone on from `s` with context `c`, whose ingest is over: no ingest of the context is listed or shown, and memory, registrations
and the bound pipeline are those of `s`. -/
structure GoesOn (c : Nat) (s u : State) : Prop where
  mem : { u.mem with channels := [] } = { s.mem with channels := [] }
  regs : u.rnd.regs = s.rnd.regs
  ingests : u.rnd.ingests = s.rnd.ingests
  gone : u.rnd.ingests.filter (fun i => i.ctx ≠ c) = u.rnd.ingests
  waits : flag u (SHD_CTX_SCHED.INGEST c) = false
  pipeline : (getCtx u c).pipeline = (getCtx s c).pipeline

namespace GoesOn

variable {c : Nat} {s u : State}

theorem refl (hgone : s.rnd.ingests.filter (fun i => i.ctx ≠ c) = s.rnd.ingests) (hwaits : flag s (SHD_CTX_SCHED.INGEST c) = false) : GoesOn c s s :=
  ⟨rfl, rfl, rfl, hgone, hwaits, rfl⟩

theorem setCtx (h : GoesOn c s u) {x : Ctx} (hx : x.pipeline = (getCtx u c).pipeline) : GoesOn c s (setCtx u c x) where
  mem := h.mem
  regs := h.regs
  ingests := h.ingests
  gone := h.gone
  waits := h.waits
  pipeline := by rw [getCtx_setCtx_same, hx, h.pipeline]

theorem sharesOnly {v : State} (hc : c < 512) (h : GoesOn c s u) (k : SharesOnly u v) : GoesOn c s v where
  mem := by rw [k.mem, h.mem]
  regs := k.regs.trans h.regs
  ingests := k.ingests.trans h.ingests
  gone := by rw [k.ingests, h.gone]
  waits := by rw [flag, k.shown.ingest c hc, ← flag, h.waits]
  pipeline := by rw [k.getCtx_eq, h.pipeline]

theorem outsideOnly {v : State} (hc : c < 512) (h : GoesOn c s u) (k : OutsideOnly u v) : GoesOn c s v where
  mem := k.sameMem.trans h.mem
  regs := by rw [k.rnd, h.regs]
  ingests := by rw [k.rnd, h.ingests]
  gone := by rw [k.rnd, h.gone]
  waits := by rw [flag, k.shown.ingest c hc, ← flag, h.waits]
  pipeline := by rw [k.getCtx_eq, h.pipeline]

/-- A change of registers that INGEST is none of. -/
theorem of_regs {g : Sparse Word} (h : GoesOn c s u) (hw : rdF { u with regs := g } (SHD_CTX_SCHED.INGEST c) = rdF u (SHD_CTX_SCHED.INGEST c)) :
    GoesOn c s { u with regs := g } where
  mem := h.mem
  regs := h.regs
  ingests := h.ingests
  gone := h.gone
  waits := by rw [flag, hw, ← flag, h.waits]
  pipeline := h.pipeline

theorem syncCtx (h : GoesOn c s u) : GoesOn c s (syncCtx c u) := by
  have hw := ingest_syncCtx c u
  obtain ⟨g, heq⟩ := syncCtx_other c u
  rw [heq] at hw ⊢
  exact h.of_regs hw

theorem endStream (hc : c < 512) (h : GoesOn c s u) (st : Stream) (e : Nat) : GoesOn c s (endStream c st e u) := by
  have hrecord : ∀ {v} ofs, GoesOn c s v → GoesOn c s (recordEnd c e ofs v) := fun {v} ofs hv => by
    have hw := ingest_recordEnd c e v ofs
    obtain ⟨g, heq⟩ := recordEnd_other c v e ofs
    rw [heq] at hw ⊢
    exact hv.of_regs hw
  have hnone : GoesOn c s (Machine.setCtx u c { getCtx u c with stream := none }) := h.setCtx (by rfl)
  have hclose : GoesOn c s (closeStream c st e u) := (hrecord (if e = ST_OK then 0xFFFFFFFF else st.failOfs) hnone).outsideOnly hc (outsideOnly_complete _ st.fn st.q st.id e)
  have hqueued : GoesOn c s (takeQueued c (closeStream c st e u)) := by
    rcases takeQueued_other c (closeStream c st e u) with ⟨x, heq, hx⟩ | heq <;> rw [heq]
    · exact hclose.setCtx hx
    · exact hclose
  rw [endStream_eq]
  exact hqueued.sharesOnly hc (sharesOnly_startNext c _)

theorem dropIngest (h : GoesOn c s u) : GoesOn c s (dropIngest c u) := by
  have hw := ingest_dropIngest c u
  obtain ⟨g, heq⟩ := dropIngest_other c u
  rw [heq, h.gone] at hw ⊢
  exact ⟨h.mem, h.regs, h.ingests, h.gone, hw, h.pipeline⟩

theorem stopStream (h : GoesOn c s u) (e ofs : Nat) : GoesOn c s (stopStream c e ofs u) := by
  cases hst : (getCtx u c).stream with
  | none => rwa [stopStream_of_none c u e ofs hst]
  | some st =>
    rw [stopStream_of_some c u e ofs hst]
    split
    · exact (h.dropIngest).setCtx rfl
    · exact h.setCtx rfl

theorem csGoOn (hc : c < 512) (h : GoesOn c s u) : GoesOn c s (csGoOn c u) :=
  csGoOn_keeps c u (GoesOn c s) (fun st e _ _ _ hv => hv.endStream hc st e) (fun e ofs _ hv => hv.stopStream e ofs) (fun _ hv => hv.syncCtx) h

end GoesOn

/-- The stream `st` of the context, where it still runs and has not been stopped, stands at offset `o`, and none like it waits. -/
structure StandsAt (st : Stream) (o : Nat) (x : Ctx) : Prop where
  stream : ∀ y, x.stream = some y → y.id ≠ st.id ∨ y.fail.isSome = true ∨ y.ofs = o
  queue : ∀ y ∈ x.queue, y.id ≠ st.id

section stands

variable {c o : Nat} {st : Stream} {u : State}

theorem standsAt_endStream (h : StandsAt st o (getCtx u c)) (st' : Stream) (e : Nat) : StandsAt st o (getCtx (endStream c st' e u) c) := by
  have hclose := getCtx_closeStream c st' e u
  rw [endStream_eq, (sharesOnly_startNext c _).getCtx_eq]
  unfold takeQueued
  rw [hclose]
  dsimp only
  cases hq : (getCtx u c).queue with
  | nil =>
    dsimp only
    rw [hclose]
    exact ⟨nofun, h.queue⟩
  | cons a rest =>
    dsimp only
    rw [getCtx_setCtx_same]
    refine ⟨fun y hy => .inl ?_, fun y hy => h.queue y (by rw [hq]; exact List.mem_cons_of_mem _ hy)⟩
    cases hy
    exact h.queue a (by rw [hq]; exact List.mem_cons_self)

theorem standsAt_stopStream (h : StandsAt st o (getCtx u c)) (e ofs : Nat) : StandsAt st o (getCtx (stopStream c e ofs u) c) := by
  cases hst : (getCtx u c).stream with
  | none => rwa [stopStream_of_none c u e ofs hst]
  | some x =>
    rw [stopStream_of_some c u e ofs hst, getCtx_setCtx_same]
    exact ⟨fun y hy => .inr (.inl (by cases hy; exact x.stopped_fail e ofs)), h.queue⟩

theorem standsAt_csGoOn (h : StandsAt st o (getCtx u c)) : StandsAt st o (getCtx (csGoOn c u) c) :=
  csGoOn_keeps c u (fun v => StandsAt st o (getCtx v c)) (fun st' e _ _ _ hv => standsAt_endStream hv st' e) (fun e ofs _ hv => standsAt_stopStream hv e ofs)
    (fun v hv => by rwa [getCtx_congr (congrArg _ (syncCtx_rnd c v))]) h

theorem StandsAt.passed {dw : Nat} (h : StandsAt st (st.ofs + 4 * dw) (getCtx u c)) : Passed u c st dw = true := by
  unfold Passed
  split
  next y hy =>
    rcases h.stream y hy with hid | hfail | hofs
    · rw [decide_eq_true hid]
      rfl
    · rw [hfail, Bool.or_true]
      rfl
    · rw [decide_eq_true hofs, Bool.or_true]
  next => rfl

end stands

end going

end Sys2Proof.Machine
end

section
/-! A shader ingest reaches its result (R152 to R155): what it leaves of the record, the registrations and the stream. -/

namespace Sys2Proof.Machine

/-! ### What the result starts from -/

section drop

variable (c t : Nat) (s : State)

/-- What the checks of a record read and the cache stand through the end of an ingest. -/
structure ChecksAlike (n : Nat) (s d : State) : Prop where
  mem : d.mem = s.mem
  boot : d.boot = s.boot
  slice : rd d (.INST_SLICE n) = rd s (.INST_SLICE n)
  cache : d.rnd.cache = s.rnd.cache

theorem checksAlike_dropIngest (n : Nat) : ChecksAlike n s (dropIngest c (begin t s)) := by
  have hkey : (Reg.INST_SLICE n).key = 0x50008 + 0x40 * n ∧ (Reg.SHD_CTX_SCHED c).key = 0x80024 + 0x40 * c ∧ Reg.SHD_INGEST_QUEUE.key = 0x8A000 :=
    ⟨rfl, rfl, rfl⟩
  have hslice : rd (dropIngest c (begin t s)) (.INST_SLICE n) = rd s (.INST_SLICE n) := by
    unfold dropIngest syncIngest
    rw [rd_wrF_ne _ _ (show (Reg.INST_SLICE n).key ≠ Reg.SHD_INGEST_QUEUE.key by omega),
      wrB, rd_wrF_ne _ _ (show (Reg.INST_SLICE n).key ≠ (Reg.SHD_CTX_SCHED c).key by omega)]
    exact rd_begin t s _
  obtain ⟨g, h⟩ := dropIngest_other c (begin t s)
  obtain ⟨u, hu⟩ := begin_other t s
  refine ⟨?_, ?_, hslice, ?_⟩ <;> rw [h, hu]

theorem now_dropIngest : now (dropIngest c s) = now s := by obtain ⟨g, h⟩ := dropIngest_other c s; rw [h]; rfl
theorem dropIngest_regs : (dropIngest c s).rnd.regs = s.rnd.regs := by obtain ⟨g, h⟩ := dropIngest_other c s; rw [h]
theorem dropIngest_clusters : (dropIngest c s).rnd.clusters = s.rnd.clusters := by obtain ⟨g, h⟩ := dropIngest_other c s; rw [h]
theorem dropIngest_ctxs : (dropIngest c s).rnd.ctxs = s.rnd.ctxs := by obtain ⟨g, h⟩ := dropIngest_other c s; rw [h]
theorem dropIngest_ingests : (dropIngest c s).rnd.ingests = s.rnd.ingests.filter (fun i => i.ctx ≠ c) := by obtain ⟨g, h⟩ := dropIngest_other c s; rw [h]

theorem dropIngest_gone : (dropIngest c s).rnd.ingests.filter (fun i => i.ctx ≠ c) = (dropIngest c s).rnd.ingests := by
  rw [dropIngest_ingests, List.filter_filter]
  exact congrArg (List.filter · _) (funext fun _ => Bool.and_self _)

end drop

/-- The record's result depends on memory and the time alone (R152). -/
theorem writeRecord_mem_congr {s d : State} (h : d.mem = s.mem) (hnow : now d = now s) (i : Ingest) (start : Nat) (f : Nat × Nat × Nat) (cached : Bool) :
    (writeRecord d i start f cached).mem = (writeRecord s i start f cached).mem := by
  unfold writeRecord writeMem putMem
  dsimp only
  rw [hnow, readNum_congr h, h]

theorem writeMem_other (s : State) (a : Nat) (bs : List Byte) : ∃ m l, writeMem s a bs = { s with mem := m, touched := l } := ⟨_, _, rfl⟩

theorem writeRecord_other (s : State) (i : Ingest) (start : Nat) (f : Nat × Nat × Nat) (cached : Bool) :
    ∃ m l, writeRecord s i start f cached = { s with mem := m, touched := l } := by
  unfold writeRecord
  exact writeMem_other _ _ _

theorem writeRecord_rnd (s : State) (i : Ingest) (start : Nat) (f : Nat × Nat × Nat) (cached : Bool) : (writeRecord s i start f cached).rnd = s.rnd := by
  obtain ⟨m, l, h⟩ := writeRecord_other s i start f cached
  rw [h]

/-- The stream of the context waits no longer. -/
def wakeStream (c : Nat) (s : State) : State :=
  setCtx s c { getCtx s c with stream := (getCtx s c).stream.map (fun t => { t with ingest := false }) }

theorem wakeStream_clusters (c : Nat) (s : State) : (wakeStream c s).rnd.clusters = s.rnd.clusters := rfl

theorem getCtx_wakeStream (c : Nat) (s : State) : getCtx (wakeStream c s) c =
    { getCtx s c with stream := (getCtx s c).stream.map (fun t => { t with ingest := false }) } := getCtx_setCtx_same s c _

/-! ### Room in the cache (R155) -/

/-- The cache made `t` of `s`: evicted translations went with their registrations, and no context, ingest or register of a context changed. -/
structure CacheOnly (s t : State) : Prop where
  rest : ∃ g m k r, t = { s with regs := g, meet := m, rnd := { s.rnd with cache := k, regs := r } }
  shown : ShowsAlike s t

namespace CacheOnly

variable {s t u : State}

theorem refl (s : State) : CacheOnly s s := ⟨⟨_, _, _, _, rfl⟩, .refl s⟩

theorem trans (h : CacheOnly s t) (k : CacheOnly t u) : CacheOnly s u where
  rest := by
    obtain ⟨_, _, _, _, rfl⟩ := h.rest
    obtain ⟨_, _, _, _, rfl⟩ := k.rest
    exact ⟨_, _, _, _, rfl⟩
  shown := h.shown.trans k.shown

theorem ingests (h : CacheOnly s t) : t.rnd.ingests = s.rnd.ingests := by obtain ⟨_, _, _, _, rfl⟩ := h.rest; rfl
theorem ctxs (h : CacheOnly s t) : t.rnd.ctxs = s.rnd.ctxs := by obtain ⟨_, _, _, _, rfl⟩ := h.rest; rfl

end CacheOnly

section cache

variable (s : State)

theorem cacheOnly_entries (k : List CacheEntry) (r : List Registration) : CacheOnly s { s with rnd := { s.rnd with cache := k, regs := r } } :=
  ⟨⟨_, _, _, _, rfl⟩, .of_regs rfl⟩

theorem cacheOnly_evicted : CacheOnly s (incF s SHD_CACHE_EVICT.COUNT) := ⟨⟨_, _, _, _, rfl⟩, showsAlike_incF s _ rfl⟩

theorem cacheOnly_syncCache : CacheOnly s (syncCache s) := ⟨⟨_, _, _, _, rfl⟩, showsAlike_wrF s _ rfl⟩

end cache

theorem cacheOnly_makeRoom (size fuel : Nat) : ∀ {s t : State}, makeRoom fuel size s = some t → CacheOnly s t := by
  induction fuel with
  | zero => exact fun h => nomatch h
  | succ fuel ih =>
    intro s t h
    unfold makeRoom at h
    split at h
    · cases h
      exact .refl s
    split at h
    · exact nomatch h
    · exact ((cacheOnly_evicted s).trans (cacheOnly_entries _ _ _)).trans (ih h)

theorem cacheOnly_cacheTranslation {s t : State} {i : Ingest} {r : Page} {hit : Bool} {tr : Translation}
    (h : cacheTranslation s i r = some (hit, tr, t)) : CacheOnly s t := by
  unfold cacheTranslation at h
  dsimp only at h
  split at h
  · cases h
    exact .refl s
  · obtain ⟨v, hv, heq⟩ := Option.map_eq_some_iff.mp h
    cases heq
    exact ((cacheOnly_makeRoom _ _ hv).trans (cacheOnly_entries v _ v.rnd.regs)).trans (cacheOnly_syncCache _)

/-! ### A record that is refused (R152) -/

section refused

variable {i : Ingest} {st : Stream} {d : State} {r : Page} {f : Nat × Nat × Nat} {start : Nat}

theorem ingestResult_refused (hslice : inSlice d i.inst i.addr 256 = true) : ∃ ofs, ingestResult i start r f none d =
    csGoOn i.ctx (stopStream i.ctx (reasonStatus f.1) ofs (wakeStream i.ctx (writeRecord d i start f false))) := by
  unfold ingestResult
  rw [if_pos hslice]
  exact ⟨_, rfl⟩

theorem goesOn_refused (hc : i.ctx < 512) (hslice : inSlice d i.inst i.addr 256 = true)
    (hgone : d.rnd.ingests.filter (fun x => x.ctx ≠ i.ctx) = d.rnd.ingests) (hwaits : flag d (SHD_CTX_SCHED.INGEST i.ctx) = false) :
    GoesOn i.ctx (writeRecord d i start f false) (ingestResult i start r f none d) := by
  obtain ⟨ofs, h⟩ := ingestResult_refused (r := r) (f := f) (start := start) hslice
  have hwritten : GoesOn i.ctx (writeRecord d i start f false) (writeRecord d i start f false) := by
    obtain ⟨m, l, heq⟩ := writeRecord_other d i start f false
    rw [heq]
    exact .refl hgone hwaits
  have hwoken : GoesOn i.ctx (writeRecord d i start f false) (wakeStream i.ctx (writeRecord d i start f false)) := hwritten.setCtx (by rfl)
  rw [h]
  exact (hwoken.stopStream _ ofs).csGoOn hc

end refused

end Sys2Proof.Machine
end

section
/-! The status that a refused record leaves, and the stream that goes on behind BIND_PIPELINE (R118, R152, R154). -/

namespace Sys2Proof.Machine

/-! ### A stream that has stopped with all its work done ends (R118) -/

theorem resetHeld_congr {s t : State} {st st' : Stream} (h : t.rnd.clusters = s.rnd.clusters) (hid : st'.id = st.id) (c : Nat) :
    resetHeld t c st' = resetHeld s c st := by
  have hcluster : getCluster t = getCluster s := funext (getCluster_congr h)
  rw [resetHeld, resetHeld, hcluster, hid]

section stopped

variable {c e : Nat} {st : Stream} {s : State}

theorem takeQueued_of_empty (hq : (getCtx s c).queue = []) : takeQueued c s = s := by
  unfold takeQueued
  rw [hq]
  split
  next h => exact nomatch h
  next => rfl

theorem status_endStream (hc : c < 512) : rdF (endStream c st e s) (RND_CTX_STATUS.LAST_STATUS c) = e % 256 := by
  have hstart := (sharesOnly_startNext c (closeStream c st e s)).shown.status c hc
  have hqueued : rdF (takeQueued c (closeStream c st e s)) (RND_CTX_STATUS.LAST_STATUS c) = rdF (closeStream c st e s) (RND_CTX_STATUS.LAST_STATUS c) := by
    rcases takeQueued_other c (closeStream c st e s) with ⟨x, h, -⟩ | h <;> rw [h]
    rfl
  have hclose : rdF (closeStream c st e s) (RND_CTX_STATUS.LAST_STATUS c) = e % 256 := by
    unfold closeStream
    rw [(outsideOnly_complete _ st.fn st.q st.id e).shown.status c hc, status_recordEnd]
  rw [endStream_eq, hstart, hqueued, hclose]

theorem stream_endStream (hq : (getCtx s c).queue = []) : (getCtx (endStream c st e s) c).stream = none := by
  have hclose := getCtx_closeStream c st e s
  rw [endStream_eq, (sharesOnly_startNext c _).getCtx_eq, takeQueued_of_empty (by rw [hclose]; exact hq), hclose]

theorem csSettle_of_none (h : (getCtx s c).stream = none) (n : Nat) : csSettle n c s = s := by
  cases n with
  | zero => rfl
  | succ n =>
    unfold csSettle
    dsimp only
    rw [h]

theorem csGoOn_stopped (hst : (getCtx s c).stream = some st) (hfail : st.fail = some e) (hquiet : ctxQuiet (getCtx s c) = true)
    (hreset : resetHeld s c st = false) (hq : (getCtx s c).queue = []) : csGoOn c s = syncCtx c (endStream c st e s) := by
  unfold csGoOn csSettle
  dsimp only
  rw [hst]
  dsimp only
  rw [hfail]
  dsimp only
  rw [if_pos ⟨hquiet, hreset⟩, csSettle_of_none (stream_endStream hq)]

/-- A stream that stops where no other work of its context is left has ended, and its status shows. -/
theorem status_stopStream_idle (hc : c < 512) (ofs : Nat) (hst : (getCtx s c).stream = some st) (hwait : st.ingest = false) (hfail : st.fail = none)
    (hpass : (getCtx s c).pass = none) (hgroups : (getCtx s c).groups = 0) (hq : (getCtx s c).queue = []) (hreset : resetHeld s c st = false) :
    rdF (csGoOn c (stopStream c e ofs s)) (RND_CTX_STATUS.LAST_STATUS c) = e % 256 := by
  have hkept : (getCtx s c).keptPass = none := by rw [Ctx.keptPass, hpass]; rfl
  have hstopped : (st.stopped e ofs).fail = some e := by rw [Stream.stopped, hfail]; rfl
  have hquiet : ∀ x : Ctx, x.pass = none → x.groups = 0 → ctxQuiet x = true := fun x hp hg => by rw [ctxQuiet, hp, hg]; rfl
  have hheld : resetHeld s c (st.stopped e ofs) = false := (resetHeld_congr rfl (st.stopped_id e ofs) c).trans hreset
  rw [stopStream_of_some c s e ofs hst, hkept, hwait, if_neg Bool.false_ne_true,
    csGoOn_stopped (st := st.stopped e ofs) (by rw [getCtx_setCtx_same]) hstopped (by rw [getCtx_setCtx_same]; exact hquiet _ rfl hgroups)
      (by exact hheld) (by rw [getCtx_setCtx_same]; exact hq),
    status_syncCtx, status_endStream hc]

end stopped

theorem reasonStatus_lt (n : Nat) : reasonStatus n < 256 := by
  unfold reasonStatus
  repeat' split
  all_goals decide

/-- The stop at a refused record of a context without other work shows the status of its reason (R118, R152). -/
theorem status_refused {i : Ingest} {st : Stream} {d : State} {r : Page} {f : Nat × Nat × Nat} {start : Nat} (hc : i.ctx < 512)
    (hslice : inSlice d i.inst i.addr 256 = true) (hst : (getCtx d i.ctx).stream = some st) (hfail : st.fail = none)
    (hpass : (getCtx d i.ctx).pass = none) (hgroups : (getCtx d i.ctx).groups = 0) (hq : (getCtx d i.ctx).queue = [])
    (hreset : resetHeld d i.ctx st = false) :
    rdF (ingestResult i start r f none d) (RND_CTX_STATUS.LAST_STATUS i.ctx) = reasonStatus f.1 := by
  obtain ⟨ofs, h⟩ := ingestResult_refused (r := r) (f := f) (start := start) hslice
  have hrnd := writeRecord_rnd d i start f false
  have hctx := getCtx_wakeStream i.ctx (writeRecord d i start f false)
  rw [getCtx_congr (congrArg _ hrnd), hst] at hctx
  have hclusters : (wakeStream i.ctx (writeRecord d i start f false)).rnd.clusters = d.rnd.clusters := by
    rw [wakeStream_clusters, hrnd]
  have hheld : resetHeld (wakeStream i.ctx (writeRecord d i start f false)) i.ctx { st with ingest := false } = false :=
    (resetHeld_congr hclusters rfl i.ctx).trans hreset
  rw [h, status_stopStream_idle (st := { st with ingest := false }) hc ofs (by rw [hctx]; rfl) rfl hfail (by rw [hctx]; exact hpass)
    (by rw [hctx]; exact hgroups) (by rw [hctx]; exact hq) hheld]
  exact Nat.mod_eq_of_lt (reasonStatus_lt _)

/-! ### A record that is bound (R152, R154) -/

section bound

variable {i : Ingest} {st : Stream} {r : Page} {f : Nat × Nat × Nat} {start : Nat} {hit : Bool} {tr : Translation} {c : Nat}

/-- The registration that an ingest enters. -/
def Ingest.enters (i : Ingest) (g : Registration) : Prop := g.inst = i.inst ∧ g.addr = i.addr ∧ g.buildSeq = i.buildSeq

theorem ingestResult_bound (v : State) : ∃ g w, i.enters g ∧ w.rnd = v.rnd ∧ w.regs = v.regs ∧
    ingestResult i start r f (some (hit, tr)) v = passBind i.ctx (bindReg i.ctx g (register g (wakeStream i.ctx w))) := by
  unfold ingestResult
  split
  · obtain ⟨m, l, hw⟩ := writeRecord_other v i start f hit
    exact ⟨_, writeRecord v i start f hit, ⟨rfl, rfl, rfl⟩, writeRecord_rnd v i start f hit, by rw [hw], rfl⟩
  · exact ⟨_, v, ⟨rfl, rfl, rfl⟩, rfl, rfl, rfl⟩

theorem register_other (g : Registration) (s : State) : ∃ k, register g s = { s with rnd := { s.rnd with regs := k ++ [g] } } := ⟨_, rfl⟩

/-- A bind marks the registration and its cache entry as used, and the context has its pipeline. -/
theorem bindReg_other (g : Registration) (s : State) : ∃ n k x, bindReg c g s = setCtx { s with rnd := { s.rnd with
      regs := s.rnd.regs.map (fun x => if x.inst = g.inst ∧ x.addr = g.addr then { x with lastUse := n } else x), binds := n, cache := k } } c x
    ∧ x.pipeline = some g.addr ∧ x.stream = (getCtx s c).stream ∧ x.queue = (getCtx s c).queue := ⟨_, _, _, rfl, rfl, rfl, rfl⟩

/-- The state in which the record's pipeline is registered and bound, and the stream stands at its BIND_PIPELINE. -/
structure Bound (i : Ingest) (v b : State) : Prop where
  ingests : b.rnd.ingests = v.rnd.ingests
  shown : b.regs = v.regs
  pipeline : (getCtx b i.ctx).pipeline = some i.addr
  stream : (getCtx b i.ctx).stream = (getCtx v i.ctx).stream.map (fun t => { t with ingest := false })
  queue : (getCtx b i.ctx).queue = (getCtx v i.ctx).queue
  entered : b.rnd.regs.any (fun g => decide (g.inst = i.inst ∧ g.addr = i.addr ∧ g.buildSeq = i.buildSeq)) = true

theorem bound_bindReg {g : Registration} (hg : i.enters g) {v w : State} (hrnd : w.rnd = v.rnd) (hregs : w.regs = v.regs) :
    Bound i v (bindReg i.ctx g (register g (wakeStream i.ctx w))) := by
  have hctx := getCtx_wakeStream i.ctx w
  rw [getCtx_congr (congrArg _ hrnd)] at hctx
  obtain ⟨k, hk⟩ := register_other g (wakeStream i.ctx w)
  obtain ⟨n, cache, x, hx, hpipeline, hstream, hqueue⟩ := bindReg_other (c := i.ctx) g (register g (wakeStream i.ctx w))
  have hreg : getCtx (register g (wakeStream i.ctx w)) i.ctx = getCtx (wakeStream i.ctx w) i.ctx := by rw [hk]; rfl
  have hent : g ∈ (register g (wakeStream i.ctx w)).rnd.regs := by rw [hk]; exact List.mem_append_right _ List.mem_cons_self
  obtain ⟨hinst, haddr, hseq⟩ := hg
  rw [hreg, hctx] at hstream hqueue
  rw [hx]
  exact {
    ingests := by rw [hk]; exact congrArg (·.ingests) hrnd
    shown := by rw [hk]; exact hregs
    pipeline := by rw [getCtx_setCtx_same, hpipeline, haddr]
    stream := by rw [getCtx_setCtx_same, hstream]
    queue := by rw [getCtx_setCtx_same, hqueue]
    entered := List.any_eq_true.mpr ⟨{ g with lastUse := n }, List.mem_map.mpr ⟨g, hent, if_pos ⟨rfl, rfl⟩⟩, decide_eq_true ⟨hinst, haddr, hseq⟩⟩ }

/-- The stream behind its BIND_PIPELINE, of three dwords, before its clusters are placed. -/
def pastBind (c : Nat) (s : State) : State :=
  setCtx s c { getCtx s c with stream := (getCtx s c).stream.map (fun t => { t with ofs := t.ofs + 12, last := t.ofs }) }

theorem passBind_eq (c : Nat) (s : State) : passBind c s = csGoOn c (placeContext c (pastBind c s)) := rfl

theorem goesOn_passBind {s b : State} (hc : c < 512) (h : GoesOn c s b) : GoesOn c s (passBind c b) := by
  have hpast : GoesOn c s (pastBind c b) := h.setCtx (by rfl)
  rw [passBind_eq]
  exact (hpast.sharesOnly hc (sharesOnly_placeContext _ c)).csGoOn hc

theorem standsAt_passBind {b : State} {y : Stream} (hy : (getCtx b c).stream = some y) (hofs : y.ofs = st.ofs) (hq : ∀ x ∈ (getCtx b c).queue, x.id ≠ st.id) :
    StandsAt st (st.ofs + 4 * 3) (getCtx (passBind c b) c) := by
  have hpast : StandsAt st (st.ofs + 4 * 3) (getCtx (pastBind c b) c) := by
    rw [pastBind, getCtx_setCtx_same, hy]
    refine ⟨fun z hz => .inr (.inr ?_), hq⟩
    cases hz
    exact congrArg (· + 12) hofs
  rw [passBind_eq]
  refine standsAt_csGoOn ?_
  rwa [(sharesOnly_placeContext (pastBind c b) c).getCtx_eq]

end bound

end Sys2Proof.Machine
end

section
/-! The end of a shader ingest as the command shows it (R152 to R155), and O24. -/

namespace Sys2Proof.Machine

section outcome

variable {s : State} {t : Nat} {i : Ingest} {st : Stream} {f : Nat × Nat × Nat}

/-- The state of the command once the ingest has left the list. -/
def leaves (t : Nat) (i : Ingest) (s : State) : State := dropIngest i.ctx (begin t s)

theorem checksAlike_leaves : ChecksAlike i.inst s (leaves t i s) := checksAlike_dropIngest i.ctx t s i.inst

theorem leaves_ingests : (leaves t i s).rnd.ingests = s.rnd.ingests.filter (fun x => x.ctx ≠ i.ctx) := by
  rw [leaves, dropIngest_ingests, begin_rnd]

theorem leaves_gone : (leaves t i s).rnd.ingests.filter (fun x => x.ctx ≠ i.ctx) = (leaves t i s).rnd.ingests := dropIngest_gone _ _

theorem leaves_waits : flag (leaves t i s) (SHD_CTX_SCHED.INGEST i.ctx) = false := ingest_dropIngest _ _

theorem leaves_regs : (leaves t i s).rnd.regs = s.rnd.regs := by rw [leaves, dropIngest_regs, begin_rnd]

theorem getCtx_leaves : getCtx (leaves t i s) i.ctx = getCtx s i.ctx := by
  rw [leaves, getCtx_congr (dropIngest_ctxs i.ctx (begin t s)), getCtx_begin]

theorem resetHeld_leaves : resetHeld (leaves t i s) i.ctx st = resetHeld s i.ctx st :=
  resetHeld_congr (by rw [leaves, dropIngest_clusters, begin_rnd]) rfl _

theorem inSlice_leaves (h : inSlice s i.inst i.addr 256 = true) : inSlice (leaves t i s) i.inst i.addr 256 = true :=
  (inSlice_congr checksAlike_leaves.slice _ _).trans h

theorem writeRecord_leaves_mem (start : Nat) : (writeRecord (leaves t i s) i start f false).mem = (writeRecord (begin t s) i start f false).mem := by
  have hmem : (leaves t i s).mem = (begin t s).mem := by rw [checksAlike_leaves.mem, begin_mem]
  exact writeRecord_mem_congr hmem (now_dropIngest i.ctx (begin t s)) _ _ _ _

/-- An ingest that runs is refused for what its checks find, finds no room in the cache, or is bound (R152 to R155). -/
theorem ingestComplete_outcome (hfind : s.rnd.ingests.find? (fun i => i.startedAt.isSome) = some i)
    (hf : ingestFinding s i.inst i.addr (pipelineRecord s i.addr) = f) :
    (f.1 ≠ 0 ∧ ingestComplete (begin t s) = ingestResult i (i.startedAt.getD 0) (pipelineRecord s i.addr) f none (leaves t i s))
    ∨ (f.1 = 0 ∧ (cacheTranslation s i (pipelineRecord s i.addr)).isSome = false ∧
      ingestComplete (begin t s) = ingestResult i (i.startedAt.getD 0) (pipelineRecord s i.addr) (0x0E, 0xFF, 0xFFFFFFFF) none (leaves t i s))
    ∨ (f.1 = 0 ∧ ∃ v b, CacheOnly (leaves t i s) v ∧ Bound i v b ∧ ingestComplete (begin t s) = passBind i.ctx b) := by
  obtain ⟨hmem, hboot, hslice, hcache⟩ := checksAlike_leaves (s := s) (t := t) (i := i)
  have hroom := cacheTranslation_isSome_congr hmem hboot hcache i (pipelineRecord s i.addr)
  have heq : ingestComplete (begin t s) =
      if f.1 ≠ 0 then ingestResult i (i.startedAt.getD 0) (pipelineRecord s i.addr) f none (leaves t i s)
      else match cacheTranslation (leaves t i s) i (pipelineRecord s i.addr) with
        | some (hit, tr, v) => ingestResult i (i.startedAt.getD 0) (pipelineRecord s i.addr) f (some (hit, tr)) v
        | none => ingestResult i (i.startedAt.getD 0) (pipelineRecord s i.addr) (0x0E, 0xFF, 0xFFFFFFFF) none (leaves t i s) := by
    rw [← hf, ← ingestFinding_congr hmem hboot hslice, ← pipelineRecord_congr hmem]
    unfold ingestComplete
    rw [begin_rnd, hfind]
    rfl
  rw [heq]
  by_cases hgood : f.1 = 0
  · rw [if_neg (not_not_intro hgood)]
    cases hcached : cacheTranslation (leaves t i s) i (pipelineRecord s i.addr) with
    | none => exact .inr (.inl ⟨hgood, by rw [← hroom, hcached]; rfl, rfl⟩)
    | some x =>
      obtain ⟨hit, tr, v⟩ := x
      obtain ⟨g, w, hg, hrnd, hregs, hres⟩ := ingestResult_bound (i := i) (r := pipelineRecord s i.addr) (f := f)
        (start := i.startedAt.getD 0) (hit := hit) (tr := tr) v
      exact .inr (.inr ⟨hgood, v, _, cacheOnly_cacheTranslation hcached, bound_bindReg hg hrnd hregs, hres⟩)
  · exact .inl ⟨hgood, if_pos hgood⟩

/-- The context goes on from a bound record as from one whose ingest is over. -/
theorem goesOn_bound {v b : State} (hc : i.ctx < 512) (hv : CacheOnly (leaves t i s) v) (hb : Bound i v b) : GoesOn i.ctx b (passBind i.ctx b) := by
  have hingests : b.rnd.ingests = (leaves t i s).rnd.ingests := hb.ingests.trans hv.ingests
  have hwaits : flag b (SHD_CTX_SCHED.INGEST i.ctx) = false := by
    rw [flag, (ShowsAlike.of_regs hb.shown).ingest _ hc, hv.shown.ingest _ hc, ← flag, leaves_waits]
  exact goesOn_passBind hc (.refl (by rw [hingests, leaves_gone]) hwaits)

theorem goesOn_leaves_refused {r : Page} {start : Nat} (hc : i.ctx < 512) (hslice : inSlice s i.inst i.addr 256 = true) :
    GoesOn i.ctx (writeRecord (leaves t i s) i start f false) (ingestResult i start r f none (leaves t i s)) :=
  goesOn_refused hc (inSlice_leaves hslice) leaves_gone leaves_waits

/-! ### The command -/

theorem outsideOnly_settle (s : State) : OutsideOnly s (settle s) := by
  refine ⟨⟨_, _, _, _, _, _, _, _, rfl⟩, .of_rd fun r hr => rd_settle s r ?_⟩
  exact (apart_of_le (of_decide_eq_true hr).1).1

/-- What a command with this effect leaves where memory holds no errors. -/
def woken (s : State) : State := settle (wakeTouched s)

theorem outsideOnly_woken (s : State) : OutsideOnly s (woken s) := (outsideOnly_wakeTouched s).trans (outsideOnly_settle _)

theorem runs_ingestComplete {P : State → Prop} (hrun : s.pwr.phase = .run) (hclean : memClean s = true) (hP : P (woken (ingestComplete (begin t s)))) :
    Runs (.ingestComplete t) s P := by
  have hbegin : memClean (begin t s) = true := by rw [memClean, begin_mem]; exact hclean
  refine runs_of_act t (engineWork ingestComplete) hrun rfl ?_
  rwa [engineWork_of_clean _ _ hbegin]

theorem GoesOn.record_mem {u : State} {start : Nat} (h : GoesOn i.ctx (writeRecord (leaves t i s) i start f false) u) :
    sameMem u.mem (writeRecord (begin t s) i start f false).mem = true :=
  decide_eq_true (h.mem.trans (congrArg (fun m : Memory => { m with channels := [] }) (writeRecord_leaves_mem start)))

theorem GoesOn.record_rest {u : State} {start : Nat} (h : GoesOn i.ctx (writeRecord (leaves t i s) i start f false) u) :
    u.rnd.ingests = s.rnd.ingests.filter (fun x => x.ctx ≠ i.ctx) ∧ u.rnd.regs = s.rnd.regs
      ∧ (getCtx u i.ctx).pipeline = (getCtx s i.ctx).pipeline := by
  have hrnd := writeRecord_rnd (leaves t i s) i start f false
  refine ⟨?_, ?_, ?_⟩
  · rw [h.ingests, hrnd, leaves_ingests]
  · rw [h.regs, hrnd, leaves_regs]
  · rw [h.pipeline, getCtx_congr (congrArg _ hrnd), getCtx_leaves]

section ends

variable (hrun : s.pwr.phase = .run) (hclean : memClean s = true) (hfind : s.rnd.ingests.find? (fun i => i.startedAt.isSome) = some i)
  (hc : i.ctx < 512) (hslice : inSlice s i.inst i.addr 256 = true) (hst : (getCtx s i.ctx).stream = some st) (hfail : st.fail = none)
include hrun hclean hfind hc hslice hst

/-- Every ingest that ends leaves the list and the register; a good one is bound, a refused one changes the record alone. -/
theorem runs_ingestComplete_ends (hqueue : (getCtx s i.ctx).queue.all (fun x => decide (x.id ≠ st.id)) = true)
    (hf : ingestFinding s i.inst i.addr (pipelineRecord s i.addr) = f) :
    Runs (.ingestComplete t) s (fun u => flag u (SHD_CTX_SCHED.INGEST i.ctx) = false
      ∧ u.rnd.ingests = s.rnd.ingests.filter (fun (x : Ingest) => decide (x.ctx ≠ i.ctx))
      ∧ (f.1 = 0 → (cacheTranslation s i (pipelineRecord s i.addr)).isSome = true → (getCtx u i.ctx).pipeline = some i.addr
        ∧ Passed u i.ctx st 3 = true
        ∧ u.rnd.regs.any (fun (r : Registration) => decide (r.inst = i.inst ∧ r.addr = i.addr ∧ r.buildSeq = i.buildSeq)) = true)
      ∧ (f.1 ≠ 0 → (getCtx u i.ctx).pipeline = (getCtx s i.ctx).pipeline
        ∧ sameMem u.mem (writeRecord (begin t s) i (i.startedAt.getD 0) f false).mem = true)) := by
  refine runs_ingestComplete hrun hclean ?_
  have hwoken := outsideOnly_woken (ingestComplete (begin t s))
  rcases ingestComplete_outcome (t := t) hfind hf with ⟨hbad, heq⟩ | ⟨hgood, hfull, heq⟩ | ⟨hgood, v, b, hv, hb, heq⟩ <;> rw [heq] at hwoken ⊢
  case inl =>
    have hgo := (goesOn_leaves_refused hc hslice).outsideOnly hc hwoken
    obtain ⟨hingests, -, hpipeline⟩ := hgo.record_rest
    exact ⟨hgo.waits, hingests, fun h => absurd h hbad, fun _ => ⟨hpipeline, hgo.record_mem⟩⟩
  case inr.inl =>
    have hgo := (goesOn_leaves_refused hc hslice).outsideOnly hc hwoken
    obtain ⟨hingests, -, -⟩ := hgo.record_rest
    exact ⟨hgo.waits, hingests, fun _ hroom => absurd hroom (Bool.eq_false_iff.mp hfull), fun h => absurd hgood h⟩
  case inr.inr =>
    have hgo := (goesOn_bound hc hv hb).outsideOnly hc hwoken
    have hctx : getCtx v i.ctx = getCtx s i.ctx := by rw [getCtx_congr hv.ctxs, getCtx_leaves]
    have hstands : StandsAt st (st.ofs + 4 * 3) (getCtx (woken (passBind i.ctx b)) i.ctx) := by
      rw [hwoken.getCtx_eq]
      refine standsAt_passBind (y := { st with ingest := false }) (by rw [hb.stream, hctx, hst]; rfl) rfl fun x hx => ?_
      rw [hb.queue, hctx] at hx
      exact of_decide_eq_true (List.all_eq_true.mp hqueue x hx)
    refine ⟨hgo.waits, ?_, fun _ _ => ⟨hgo.pipeline.trans hb.pipeline, hstands.passed, ?_⟩, fun h => absurd hgood h⟩
    · rw [hgo.ingests, hb.ingests, hv.ingests, leaves_ingests]
    · rw [hgo.regs]
      exact hb.entered

include hfail in
/-- A refused record keeps registrations and pipeline; a stream without other work ends with the status of the reason. -/
theorem runs_ingestComplete_refused (hf : ingestFinding s i.inst i.addr (pipelineRecord s i.addr) = f) (hbad : f.1 ≠ 0) :
    Runs (.ingestComplete t) s (fun u => (getCtx u i.ctx).pipeline = (getCtx s i.ctx).pipeline ∧ u.rnd.regs = s.rnd.regs
      ∧ sameMem u.mem (writeRecord (begin t s) i (i.startedAt.getD 0) f false).mem = true
      ∧ ((getCtx s i.ctx).pass = none → (getCtx s i.ctx).groups = 0 → (getCtx s i.ctx).queue = [] → resetHeld s i.ctx st = false →
        rdF u (RND_CTX_STATUS.LAST_STATUS i.ctx) = reasonStatus f.1)) := by
  refine runs_ingestComplete hrun hclean ?_
  have hwoken := outsideOnly_woken (ingestComplete (begin t s))
  rcases ingestComplete_outcome (t := t) hfind hf with ⟨-, heq⟩ | ⟨hgood, -⟩ | ⟨hgood, -⟩
  case inl =>
    rw [heq] at hwoken ⊢
    have hgo := (goesOn_leaves_refused hc hslice).outsideOnly hc hwoken
    obtain ⟨-, hregs, hpipeline⟩ := hgo.record_rest
    refine ⟨hpipeline, hregs, hgo.record_mem, fun hpass hgroups hq hreset => ?_⟩
    rw [hwoken.shown.status _ hc]
    exact status_refused hc (inSlice_leaves hslice) (by rw [getCtx_leaves, hst]) hfail (by rw [getCtx_leaves, hpass])
      (by rw [getCtx_leaves, hgroups]) (by rw [getCtx_leaves, hq]) (by rw [resetHeld_leaves, hreset])
  all_goals exact absurd hgood hbad

end ends

end outcome

/-- Settles O24: the ingest that waits starts, and one that runs has one of three outcomes, each of which the stream's going on leaves standing. -/
theorem shaderIngest : Obligations.ShaderIngest := by
  unfold Obligations.ShaderIngest
  refine ⟨?starts, ?ends, ?refused⟩
  case starts => exact fun s t _ hrun hwait hne => runs_ingestStart hrun hwait hne
  case ends =>
    intro s t i st _ hrun hclean hfind hc _ hslice hst _ hqueue
    exact runs_ingestComplete_ends hrun hclean hfind hc hslice hst hqueue rfl
  case refused =>
    intro s t i st f _ hrun hclean hfind hc _ hslice hst hfail _ hf hbad
    exact runs_ingestComplete_refused hrun hclean hfind hc hslice hst hfail hf hbad

end Sys2Proof.Machine
end

section
/-! Completion points (R97 to R101): what a completion moves beside its rings, and which descriptors it leaves unfinished. -/

namespace Sys2Proof.Machine

/-! ### What a completion moves -/

/-- The registers among which a completion's lie: those of the ring setup pages, and every one that stands, as the count of late items of any
function does, 24 above a multiple of 64. -/
def isRing (r : Reg) : Bool := decide (2 ^ 32 ≤ r.key ∨ r.key % 64 = 24)

/-- `t` differs from `s` in what a completion moves alone: messages, the rings and their registers, and counts of late items. -/
structure RingsOnly (s t : State) : Prop where
  rest : { t with out := s.out, meet := s.meet, regs := s.regs, host := s.host } = s
  rd_eq : ∀ r, isRing r = false → rd t r = rd s r

namespace RingsOnly

variable {s t u : State}

theorem refl (s : State) : RingsOnly s s := ⟨rfl, fun _ _ => rfl⟩

theorem trans (h : RingsOnly s t) (k : RingsOnly t u) : RingsOnly s u where
  rest := (congrArg (fun x : State => { x with out := s.out, meet := s.meet, regs := s.regs, host := s.host }) k.rest).trans h.rest
  rd_eq r hr := (k.rd_eq r hr).trans (h.rd_eq r hr)

theorem mem (h : RingsOnly s t) : t.mem = s.mem := (congrArg State.mem h.rest :)
theorem dsp (h : RingsOnly s t) : t.dsp = s.dsp := (congrArg State.dsp h.rest :)

theorem rdF_eq (h : RingsOnly s t) (f : Fld) (hf : isRing f.reg = false) : rdF t f = rdF s f := by rw [rdF, h.rd_eq _ hf, rdF]

/-- A change that no register shows. -/
theorem of_regs (hrest : { t with out := s.out, meet := s.meet, regs := s.regs, host := s.host } = s) (hregs : t.regs = s.regs) :
    RingsOnly s t := ⟨hrest, fun r _ => rd_congr hregs r⟩

theorem ite {c : Prop} [Decidable c] (ht : RingsOnly s t) (hu : RingsOnly s u) : RingsOnly s (if c then t else u) := by
  split
  · exact ht
  · exact hu

end RingsOnly

theorem key_ne_of_isRing {r q : Reg} (hr : isRing r = true) (hq : isRing q = false) : q.key ≠ r.key := by
  intro hk
  rw [isRing, hk] at hq
  rw [isRing, hq] at hr
  exact absurd hr (by decide)

theorem isRing_page (f : Nat) (p : PageReg) : isRing (.page f p) = true := by
  have hkey : 2 ^ 32 ≤ (Reg.page f p).key := by cases p <;> simp only [Reg.key] <;> omega
  exact decide_eq_true (.inl hkey)

theorem isRing_lateDrop (n : Nat) : isRing (.INST_LATE_DROP n) = true := by
  have hkey : (Reg.INST_LATE_DROP n).key = 0x50018 + 0x40 * n := rfl
  exact decide_eq_true (.inr (by omega))

section rings

variable (s : State)

theorem ringsOnly_wrF (f : Fld) (v : Nat) (h : isRing f.reg = true) : RingsOnly s (wrF s f v) :=
  ⟨rfl, fun _ hr => rd_wrF_ne s v (key_ne_of_isRing h hr)⟩

theorem ringsOnly_lateDrop (fn : Nat) : RingsOnly s (incF s (INST_LATE_DROP.COUNT fn)) :=
  ⟨rfl, fun _ hr => rd_incF_ne s 1 (key_ne_of_isRing (isRing_lateDrop fn) hr)⟩

theorem ringsOnly_send (m : HostMsg) : RingsOnly s (send s m) := .of_regs rfl rfl
theorem ringsOnly_setSq (fn q : Nat) (x : SqState) : RingsOnly s (setSq s fn q x) := .of_regs rfl rfl
theorem ringsOnly_setCq (fn c : Nat) (x : CqState) : RingsOnly s (setCq s fn c x) := .of_regs rfl rfl

theorem ringsOnly_signal (fn v : Nat) : RingsOnly s (signal s fn v) := by
  unfold signal
  exact .ite (.ite (.refl s) (.of_regs rfl rfl)) (ringsOnly_send s _)

/-- A read that is over moves the invalidations that wait for reads, and the messages that answer them. -/
theorem readOver_other (fn q id : Nat) : ∃ o w, readOver fn q id s = { s with out := o, host := { s.host with atsWait := w } } := by
  have hsend : ∀ (l : List (Nat × List (Nat × Nat × Nat))) (s : State), ∃ o, l.foldl (fun s w => send s (.atsDone w.1)) s = { s with out := o } := by
    intro l
    induction l with
    | nil => exact fun s => ⟨s.out, rfl⟩
    | cons w l ih => exact fun s => ih (send s _)
  unfold readOver readsOver
  split
  · exact ⟨s.out, s.host.atsWait, rfl⟩
  · obtain ⟨o, ho⟩ := hsend _ _
    exact ⟨o, _, ho⟩

theorem ringsOnly_readOver (fn q id : Nat) : RingsOnly s (readOver fn q id s) := by
  obtain ⟨o, w, h⟩ := readOver_other s fn q id
  rw [h]
  exact .of_regs rfl rfl

theorem ringsOnly_writeCompletion (fn q : Nat) (f : Flight) (status dtime : Nat) : RingsOnly s (writeCompletion s fn q f status dtime) := by
  have hput : ∀ e v x, RingsOnly s (setCq (wrF (send s e) (CQ_PTR.TAIL fn f.cq) v) fn f.cq x) := fun e v x =>
    ((ringsOnly_send s e).trans (ringsOnly_wrF _ _ v (isRing_page fn _))).trans (ringsOnly_setCq _ _ _ _)
  unfold writeCompletion
  exact .ite (.ite ((hput _ _ _).trans (ringsOnly_signal _ _ _)) (hput _ _ _)) ((ringsOnly_lateDrop s fn).trans (ringsOnly_setCq _ _ _ _))

end rings

theorem ringsOnly_flushFlights (fn q : Nat) (fs : List Flight) : ∀ s, RingsOnly s (flushFlights s fn q fs).1 := by
  induction fs with
  | nil => exact .refl
  | cons f fs ih =>
    intro s
    unfold flushFlights
    split
    · exact .refl s
    next st t _ =>
      split
      · exact (ringsOnly_setCq s _ _ _).trans (ih _)
      split
      · exact (ringsOnly_writeCompletion s _ _ _ _ _).trans (ih _)
      · exact .refl s

/-- A completion moves rings and messages alone. -/
theorem ringsOnly_complete (s : State) (fn q id status : Nat) : RingsOnly s (complete s fn q id status) := by
  unfold complete completeAt
  refine (ringsOnly_readOver s fn q id).trans (.ite ?_ (ringsOnly_lateDrop _ fn))
  exact (ringsOnly_setSq _ _ _ _).trans ((ringsOnly_flushFlights fn q _ _).trans (ringsOnly_setSq _ _ _ _))

/-! ### What leaves the submission rings as they are -/

theorem sq_ite {s t u : State} {c : Prop} [Decidable c] (ht : t.host.sq = s.host.sq) (hu : u.host.sq = s.host.sq) :
    (if c then t else u).host.sq = s.host.sq := by
  split
  · exact ht
  · exact hu

section sq

variable (s : State)

@[simp] theorem signal_sq (fn v : Nat) : (signal s fn v).host.sq = s.host.sq := by
  unfold signal
  exact sq_ite (sq_ite rfl rfl) rfl

@[simp] theorem readOver_sq (fn q id : Nat) : (readOver fn q id s).host.sq = s.host.sq := by
  obtain ⟨o, w, h⟩ := readOver_other s fn q id
  rw [h]

@[simp] theorem writeCompletion_sq (fn q : Nat) (f : Flight) (status dtime : Nat) : (writeCompletion s fn q f status dtime).host.sq = s.host.sq := by
  unfold writeCompletion
  exact sq_ite (sq_ite (signal_sq _ _ _) rfl) rfl

end sq

/-- The completions written from the front of a ring leave every ring's record, and the flights that stay are among those before. -/
theorem flushFlights_sq (fn q : Nat) (fs : List Flight) :
    ∀ s, (flushFlights s fn q fs).1.host.sq = s.host.sq ∧ (flushFlights s fn q fs).2 ⊆ fs := by
  induction fs with
  | nil => exact fun _ => ⟨rfl, List.Subset.refl _⟩
  | cons f fs ih =>
    intro s
    unfold flushFlights
    split
    · exact ⟨rfl, List.Subset.refl _⟩
    next st t _ =>
      split
      · obtain ⟨hsq, hsub⟩ := ih (freeSlot s fn f.cq)
        exact ⟨hsq, List.subset_cons_of_subset f hsub⟩
      split
      · obtain ⟨hsq, hsub⟩ := ih (writeCompletion s fn q f st t)
        exact ⟨hsq.trans (writeCompletion_sq _ _ _ _ _ _), List.subset_cons_of_subset f hsub⟩
      · exact ⟨rfl, List.Subset.refl _⟩

/-! ### The descriptors that a completion leaves unfinished -/

section flights

variable {s t : State} {fn q id st fn' q' id' : Nat}

theorem getSq_congr (h : t.host.sq = s.host.sq) (fn q : Nat) : getSq t fn q = getSq s fn q := by rw [getSq, getSq, h]

theorem completed_congr (h : t.host.sq = s.host.sq) (fn q id : Nat) : Completed t fn q id = Completed s fn q id := by
  rw [Completed, Completed, getSq_congr h]

theorem getSq_setSq_same (x : SqState) (h : fn' * 64 + q' = fn * 64 + q) : getSq (setSq s fn q x) fn' q' = x := by
  rw [getSq, h]
  exact Sparse.get_set_same _ _ _ _

theorem getSq_setSq_ne (x : SqState) (h : fn' * 64 + q' ≠ fn * 64 + q) : getSq (setSq s fn q x) fn' q' = getSq s fn' q' :=
  Sparse.get_set_ne _ _ _ _ h

/-- The flights that a flush leaves were there before. -/
theorem flights_flushSq {f : Flight} (hf : f ∈ (getSq (flushSq s fn q) fn' q').flights) : f ∈ (getSq s fn' q').flights := by
  obtain ⟨hsq, hsub⟩ := flushFlights_sq fn q (getSq s fn q).flights s
  unfold flushSq at hf
  by_cases hk : fn' * 64 + q' = fn * 64 + q
  · rw [getSq_setSq_same _ hk] at hf
    rw [getSq, hk]
    exact hsub hf
  · rwa [getSq_setSq_ne _ hk, getSq_congr hsq] at hf

/-- A flight that a completion leaves has reached its completion point, or was there before and is not the one that completes. -/
theorem flights_complete {f : Flight} (hf : f ∈ (getSq (complete s fn q id st) fn' q').flights) :
    f.done.isSome = true ∨ (f ∈ (getSq s fn' q').flights ∧ (fn' * 64 + q' = fn * 64 + q → f.id ≠ id)) := by
  have hsame : fn' * 64 + q' = fn * 64 + q → getSq s fn' q' = getSq s fn q := fun hk => by rw [getSq, hk, getSq]
  unfold complete completeAt at hf
  dsimp only at hf
  rw [getSq_congr (readOver_sq s fn q id)] at hf
  split at hf
  next =>
    replace hf := flights_flushSq hf
    by_cases hk : fn' * 64 + q' = fn * 64 + q
    · rw [getSq_setSq_same _ hk] at hf
      obtain ⟨g, hg, rfl⟩ := List.mem_map.mp hf
      by_cases hid : g.id = id
      · exact .inl (by rw [if_pos hid]; rfl)
      · rw [if_neg hid, hsame hk]
        exact .inr ⟨hg, fun _ => hid⟩
    · rw [getSq_setSq_ne _ hk, getSq_congr (readOver_sq s fn q id)] at hf
      exact .inr ⟨hf, fun h => absurd h hk⟩
  next hnone =>
    rw [getSq_congr ((congrArg HostIf.sq (incF_host _ _ _)).trans (readOver_sq s fn q id))] at hf
    refine .inr ⟨hf, fun hk hid => hnone (List.any_eq_true.mpr ⟨f, ?_, decide_eq_true hid⟩)⟩
    rwa [← hsame hk]

theorem completed_iff : Completed s fn q id = true ↔ ∀ f ∈ (getSq s fn q).flights, f.id ≠ id ∨ f.done.isSome = true := by
  simp [Completed]

/-- A completion completes its descriptor. -/
theorem completed_complete (s : State) (fn q id st : Nat) : Completed (complete s fn q id st) fn q id = true :=
  completed_iff.mpr fun _ hf => (flights_complete hf).elim .inr fun h => .inl (h.2 rfl)

/-- A completion leaves what is completed so. -/
theorem completed_complete_of_completed (fn q id st : Nat) (h : Completed s fn' q' id' = true) : Completed (complete s fn q id st) fn' q' id' = true :=
  completed_iff.mpr fun f hf => (flights_complete hf).elim .inr fun k => completed_iff.mp h f k.1

end flights

end Sys2Proof.Machine
end

section
/-! The dispatch of a descriptor (R62, R92): what the scheduler moves, and what a descriptor whose checks pass comes down to. -/

namespace Sys2Proof.Machine

/-- The end of a visit moves the fabric alone. -/
theorem endVisit_other (s : State) (i : Nat) : ∃ b, endVisit i s = { s with fab := b } := by
  unfold endVisit
  dsimp only
  split
  · exact ⟨_, rfl⟩
  · exact ⟨_, rfl⟩

/-- The loop up to the next dispatch moves the fabric alone. -/
theorem schedule_other (fuel : Nat) : ∀ s, ∃ b, (schedule fuel s).1 = { s with fab := b } := by
  induction fuel with
  | zero => exact fun s => ⟨s.fab, rfl⟩
  | succ n ih =>
    intro s
    unfold schedule
    split
    next i _ =>
      split
      · exact ⟨s.fab, rfl⟩
      · obtain ⟨b, hb⟩ := endVisit_other s i
        obtain ⟨b', hb'⟩ := ih (endVisit i s)
        exact ⟨b', by rw [hb', hb]⟩
    · split
      · exact ⟨s.fab, rfl⟩
      · exact ih _

/-- The descriptor that the scheduler takes moves the fabric and the rings alone. -/
theorem takeNext_other {want : Nat → Bool} {s s1 : State} {k : Taken} (h : takeNext want s = some (s1, k)) :
    ∃ b r, s1 = { s with fab := b, host := r } := by
  obtain ⟨b, hb⟩ := schedule_other SCHED_FUEL s
  unfold takeNext at h
  generalize schedule SCHED_FUEL s = x at h hb
  obtain ⟨s', o⟩ := x
  cases o with
  | none => cases h
  | some y =>
    obtain ⟨fn, q, f⟩ := y
    dsimp only at h hb
    split at h
    · cases h
    · obtain ⟨rfl, -⟩ := Prod.mk.inj (Option.some.inj h)
      subst hb
      exact ⟨_, _, rfl⟩

/-- What follows a dispatch moves the fabric alone. -/
theorem afterDispatch_other (s : State) : ∃ b, afterDispatch s = { s with fab := b } := by
  unfold afterDispatch
  split
  · split
    · exact ⟨s.fab, rfl⟩
    · exact endVisit_other s _
  · exact ⟨s.fab, rfl⟩

/-- A descriptor whose checks pass is carried out in a state that the scheduler has moved in fabric and rings alone (R92). -/
theorem dispatch_of_dispatches {t op : Nat} {s : State} {check : State → Taken → Nat} {k : Taken} (run : Taken → State → State)
    (h : Dispatches t s (fun o => decide (o = op)) check k = true) :
    ∃ b r b', dispatch op check run (begin t s) = { run k { begin t s with fab := b, host := r } with fab := b' } := by
  unfold Dispatches at h
  unfold dispatch
  split at h
  next s1 k' htake =>
    obtain ⟨rfl, hok⟩ := of_decide_eq_true h
    obtain ⟨b, r, rfl⟩ := takeNext_other htake
    obtain ⟨b', hb'⟩ := afterDispatch_other (run k' { begin t s with fab := b, host := r })
    rw [htake]
    exact ⟨b, r, b', by simp only [hok, if_true, hb']⟩
  next => cases h

end Sys2Proof.Machine
end

section
/-! The channels that a command wakes leave the submission rings as they were (R373, R374). -/

namespace Sys2Proof.Machine

section wakes

variable (s : State)

@[simp] theorem setChannel_host (c : Nat) (x : MemChannel) : (setChannel s c x).host = s.host := rfl

@[simp] theorem writeLog_sq (cls : Nat) (blk : Blk) (code unit arg : Nat) (cont : Option Nat) :
    (writeLog s cls blk code unit arg cont).host.sq = s.host.sq := by
  have hcount : ∀ n, (if cls = 0 then countInfo s n else s).host.sq = s.host.sq := fun n => sq_ite rfl rfl
  cases cont with
  | none => exact sq_ite rfl (hcount 1)
  | some c => exact sq_ite rfl (hcount 2)

@[simp] theorem putEvent_sq (fn type inst unit dtime payload : Nat) : (putEvent s fn type inst unit dtime payload).host.sq = s.host.sq := by
  unfold putEvent
  exact sq_ite (signal_sq _ _ _) rfl

@[simp] theorem postEvent_sq (fn type inst unit payload : Nat) : (postEvent s fn type inst unit payload).host.sq = s.host.sq := by
  unfold postEvent postEventAt
  exact sq_ite (sq_ite (sq_ite rfl (putEvent_sq _ _ _ _ _ _ _)) (putEvent_sq _ _ _ _ _ _ _)) rfl

@[simp] theorem faultLog_sq (f : FaultRep) (cls count : Nat) : (faultLog f cls count s).host.sq = s.host.sq := writeLog_sq _ _ _ _ _ _ _

@[simp] theorem faultEvents_sq (f : FaultRep) (cls count : Nat) : (faultEvents f cls count s).host.sq = s.host.sq := by
  unfold faultEvents
  exact sq_ite (postEvent_sq _ _ _ _ _ _) ((postEvent_sq _ _ _ _ _ _).trans (postEvent_sq _ _ _ _ _ _))

@[simp] theorem enterSafe_sq (id : Nat) : (enterSafe id s).host.sq = s.host.sq := by
  unfold enterSafe
  split
  · rfl
  · rw [writeLog_sq, wrF_host, wrB_host]

@[simp] theorem countFault_sq (f : FaultRep) : (countFault f s).host.sq = s.host.sq := sq_ite rfl (sq_ite rfl rfl)

@[simp] theorem failTest_sq (f : FaultRep) : (failTest f s).host.sq = s.host.sq := sq_ite rfl rfl

/-- A fault is reported beside the submission rings. -/
@[simp] theorem reportFault_sq (f : FaultRep) : (reportFault f s).host.sq = s.host.sq := by
  unfold reportFault
  dsimp only
  refine sq_ite (by simp) (sq_ite (by simp) (sq_ite ?_ (sq_ite (by simp) (sq_ite (by simp) (by simp)))))
  exact (faultLog_sq _ _ _ _).trans ((countFault_sq _ _).trans (failTest_sq _ _))

@[simp] theorem retrained_sq (c : Nat) : (retrained c s).host.sq = s.host.sq := by
  rw [retrained, setChannel_host, wr64_host, incF_host, wrF_host]

@[simp] theorem wakeChannel_sq (c : Nat) : (wakeChannel c s).host.sq = s.host.sq := by
  have hfailed : ∀ s, (trainStep c false s).host.sq = s.host.sq := fun s => by rw [trainStep, if_pos rfl, reportFault_sq]
  unfold wakeChannel
  dsimp only
  split
  · rfl
  split
  · rw [wrF_host]
  split
  · rw [retrained_sq, spend_host, wrF_host]
  · rw [hfailed, wrF_host, spend_host, wrF_host]

@[simp] theorem wakeTouched_sq : (wakeTouched s).host.sq = s.host.sq := by
  unfold wakeTouched
  refine forEach_keeps (fun u => u.host.sq = s.host.sq) _ _ (fun c _ u hu => ?_) _ rfl
  rw [setChannel_host, wakeChannel_sq, hu]

end wakes

end Sys2Proof.Machine
end

section
/-! Captures (R199 to R202): how a capture is armed, how it completes, times out and overflows, and O28. -/

namespace Sys2Proof.Machine

/-- Claims about a command on a block outside PD0 to PD2 whose domain is good come down to what its effect leaves (R393). -/
theorem runs_of_actIn {i : Instr} {s : State} {P : State → Prop} (d t : Nat) (f : State → State) (hrun : s.pwr.phase = .run)
    (hgood : domainGood s d = true) (he : exec i s = actIn d t f s) (hp : P (settle (f (begin t s)))) : Runs i s P := by
  refine runs_of_act t (fun s => if domainGood s d then f s else s) hrun he ?_
  rwa [domainGood_begin, if_pos hgood]

/-! ### What the operations on a capture leave -/

/-- No capture of the descriptor `id` is armed or under way. -/
def noCapture (s : State) (id : Nat) : Bool := s.dsp.captures.all (fun x => decide (x.id ≠ id))

section drops

variable (s : State) (c : Capture)

theorem dropCapture_mem : (dropCapture c s).mem = s.mem := rfl

theorem dropCapture_captures : (dropCapture c s).dsp.captures = s.dsp.captures.filter (fun x => x.id ≠ c.id) := rfl

theorem noCapture_dropCapture : noCapture (dropCapture c s) c.id = true := by
  simp [noCapture, dropCapture_captures]

/-- The end of a capture starts none. -/
theorem noCapture_dropCapture_of_noCapture {id : Nat} (h : noCapture s id = true) : noCapture (dropCapture c s) id = true := by
  rw [noCapture, List.all_eq_true] at h ⊢
  exact fun x hx => h x (List.mem_filter.mp hx).1

theorem rdF_abort_dropCapture : rdF (dropCapture c s) LYR_WB_ABORT.COUNT = rdF s LYR_WB_ABORT.COUNT :=
  rdF_wr_ne _ _ (by decide)

/-- A capture that stops counts in LYR_WB_ABORT (R202). -/
theorem rdF_abort_abortCapture : rdF (abortCapture c s) LYR_WB_ABORT.COUNT = min (rdF s LYR_WB_ABORT.COUNT + 1) (2 ^ 32 - 1) := by
  rw [abortCapture, rdF_incF_same _ _ _ rfl, rdF_abort_dropCapture]
  rfl

end drops

theorem noCapture_congr {s t : State} (h : t.dsp = s.dsp) (id : Nat) : noCapture t id = noCapture s id := by
  rw [noCapture, noCapture, h]

theorem noCapture_complete (s : State) (fn q id st n : Nat) : noCapture (complete s fn q id st) n = noCapture s n :=
  noCapture_congr (ringsOnly_complete s fn q id st).dsp n

theorem noCapture_settle (s : State) (n : Nat) : noCapture (settle s) n = noCapture s n := noCapture_congr (settle_dsp s) n

theorem completed_settle (s : State) (fn q id : Nat) : Completed (settle s) fn q id = Completed s fn q id :=
  completed_congr (congrArg HostIf.sq (settle_host s)) fn q id

/-! ### The capture is armed (R200) -/

/-- The capture that a WB_CAPTURE arms for its function's generation `gen`, dispatched at `stamp`. -/
def armedCapture (k : Taken) (gen stamp : Nat) : Capture :=
  { fn := k.fn, q := k.q, id := k.id, gen := gen, head := u8 k.d 24, dest := u64 k.d 32, pitch := u32 k.d 40, target := u32 k.d 28, stamp := stamp }

theorem runCapture_captures (k : Taken) (s : State) :
    (runCapture k s).dsp.captures = s.dsp.captures ++ [armedCapture k (instGen s k.fn) (now s)] := rfl

/-- What the scheduler has moved before does not show in the capture that is armed. -/
theorem runCapture_captures_congr {s t : State} (k : Taken) (hregs : t.regs = s.regs) (hdsp : t.dsp = s.dsp) :
    (runCapture k t).dsp.captures = s.dsp.captures ++ [armedCapture k (instGen s k.fn) (now t)] := by
  rw [runCapture_captures, hdsp, instGen, rdF_congr hregs, instGen]

theorem runs_wbCapture {s : State} {t : Nat} {k : Taken} (hrun : s.pwr.phase = .run)
    (h : Dispatches t s (fun o => decide (o = OP_WB_CAPTURE)) checkCapture k = true) :
    Runs (.wbCapture t) s (fun u => u.dsp.captures = s.dsp.captures ++ [armedCapture k (instGen s k.fn) (now (begin t s))] ∧ u.mem = s.mem) := by
  obtain ⟨b, r, b', heq⟩ := dispatch_of_dispatches runCapture h
  refine runs_of_act t (dispatch OP_WB_CAPTURE checkCapture runCapture) hrun rfl ?_
  rw [heq, settle_dsp, settle_mem]
  exact ⟨runCapture_captures_congr k (begin_regs s t) (begin_dsp s t), begin_mem s t⟩

/-! ### The capture ends (R200 to R202) -/

section ends

variable {s : State} {t n : Nat} {c : Capture}

/-- A capture that completes writes what is left of it and its trailer, and ends (R201). -/
theorem captureComplete_of_find (h : s.dsp.captures.find? (fun c => decide (c.unit = some n)) = some c) :
    captureComplete n s = complete (dropCapture c (writeFor c.fn (c.dest + c.pitch * c.height) (trailer c) (captureRow c.head s))) c.fn c.q c.id ST_OK := by
  rw [captureComplete, h]

theorem bufferOverflow_of_find (h : s.dsp.captures.find? (fun c => decide (c.unit = some n)) = some c) :
    bufferOverflow n s = complete (abortCapture c s) c.fn c.q c.id ST_TIMEOUT := by
  rw [bufferOverflow, h]

theorem runs_wbCaptureComplete (hrun : s.pwr.phase = .run) (hgood : domainGood s 6 = true) (hclean : memClean s = true)
    (h : s.dsp.captures.find? (fun c => decide (c.unit = some n)) = some c) :
    Runs (.wbCaptureComplete t n) s (fun u => sameMem u.mem (writeFor c.fn (c.dest + c.pitch * c.height) (trailer c) (captureRow c.head (begin t s))).mem = true
      ∧ noCapture u c.id = true ∧ Completed u c.fn c.q c.id = true) := by
  have hbegin : memClean (begin t s) = true := by rw [memClean, begin_mem]; exact hclean
  refine runs_of_actIn 6 t (engineWork (captureComplete n)) hrun hgood rfl ?_
  rw [engineWork_of_clean _ _ hbegin, captureComplete_of_find (by rwa [begin_dsp])]
  generalize hw : writeFor c.fn (c.dest + c.pitch * c.height) (trailer c) (captureRow c.head (begin t s)) = w
  have hends : RingsOnly (dropCapture c w) (complete (dropCapture c w) c.fn c.q c.id ST_OK) := ringsOnly_complete _ _ _ _ _
  have hdone : Completed (complete (dropCapture c w) c.fn c.q c.id ST_OK) c.fn c.q c.id = true := completed_complete _ _ _ _ _
  generalize complete (dropCapture c w) c.fn c.q c.id ST_OK = e at hends hdone
  have hwoken := outsideOnly_woken e
  refine ⟨?trailer, ?gone, ?completed⟩
  case trailer => exact decide_eq_true (hwoken.sameMem.trans (by rw [hends.mem, dropCapture_mem]))
  case gone => exact (noCapture_congr (hwoken.keepsPlan.dsp.trans hends.dsp) _).trans (noCapture_dropCapture w c)
  case completed => rw [completed_settle, completed_congr (wakeTouched_sq e), hdone]

/-- After the captures that are late have timed out, each of them is gone and completed, and memory is as before (R200). -/
theorem captureTimeout_ends (hc : c ∈ s.dsp.captures) (hunit : c.unit = none) (hlate : c.stamp + 1000000000 ≤ now s) :
    noCapture (captureTimeout s) c.id = true ∧ Completed (captureTimeout s) c.fn c.q c.id = true ∧ (captureTimeout s).mem = s.mem := by
  have hdue : c ∈ s.dsp.captures.filter (fun c => c.unit = none ∧ c.stamp + 1000000000 ≤ now s) :=
    List.mem_filter.mpr ⟨hc, decide_eq_true ⟨hunit, hlate⟩⟩
  have hended := forEach_establishes (fun (c : Capture) u => noCapture u c.id = true ∧ Completed u c.fn c.q c.id = true)
    (fun c s => complete (dropCapture c s) c.fn c.q c.id ST_TIMEOUT)
    (fun a u => ⟨(noCapture_complete _ _ _ _ _ _).trans (noCapture_dropCapture u a), completed_complete _ _ _ _ _⟩)
    (fun a b u _ hu => ⟨(noCapture_complete _ _ _ _ _ _).trans (noCapture_dropCapture_of_noCapture u a hu.1),
      completed_complete_of_completed _ _ _ _ hu.2⟩) _ s c hdue
  have hmem : (captureTimeout s).mem = s.mem :=
    forEach_keeps (fun u => u.mem = s.mem) _ _ (fun a _ u hu => (ringsOnly_complete (dropCapture a u) _ _ _ _).mem.trans hu) _ rfl
  exact ⟨hended.1, hended.2, hmem⟩

theorem runs_wbCaptureTimeout (hrun : s.pwr.phase = .run) (hgood : domainGood s 6 = true) (hc : c ∈ s.dsp.captures)
    (hunit : c.unit = none) (hlate : c.stamp + 1000000000 ≤ now (begin t s)) :
    Runs (.wbCaptureTimeout t) s (fun u => noCapture u c.id = true ∧ Completed u c.fn c.q c.id = true ∧ u.mem = s.mem) := by
  obtain ⟨hgone, hdone, hmem⟩ := captureTimeout_ends (s := begin t s) (by rwa [begin_dsp]) hunit hlate
  refine runs_of_actIn 6 t captureTimeout hrun hgood rfl ?_
  rw [noCapture_settle, completed_settle, settle_mem]
  exact ⟨hgone, hdone, hmem.trans (begin_mem s t)⟩

theorem runs_wbBufferOverflow (hrun : s.pwr.phase = .run) (hgood : domainGood s 6 = true)
    (h : s.dsp.captures.find? (fun c => decide (c.unit = some n)) = some c) :
    Runs (.wbBufferOverflow t n) s (fun u => noCapture u c.id = true ∧ Completed u c.fn c.q c.id = true ∧ u.mem = s.mem
      ∧ rdF u LYR_WB_ABORT.COUNT = min (rdF s LYR_WB_ABORT.COUNT + 1) (2 ^ 32 - 1)) := by
  refine runs_of_actIn 6 t (bufferOverflow n) hrun hgood rfl ?_
  rw [bufferOverflow_of_find (by rwa [begin_dsp]), noCapture_settle, completed_settle, settle_mem, rdF_settle _ _ rfl]
  have hends := ringsOnly_complete (abortCapture c (begin t s)) c.fn c.q c.id ST_TIMEOUT
  refine ⟨?gone, ?completed, ?mem, ?counted⟩
  case gone => exact (noCapture_complete _ _ _ _ _ _).trans (noCapture_dropCapture (begin t s) c)
  case completed => exact completed_complete _ _ _ _ _
  case mem => exact hends.mem.trans (begin_mem s t)
  case counted => rw [hends.rdF_eq _ rfl, rdF_abort_abortCapture, rdF_begin]

end ends

/-- Settles O28, command by command. -/
theorem captures : Obligations.Captures := by
  unfold Obligations.Captures
  refine ⟨?armed, ?completes, ?timesOut, ?overflows⟩
  case armed => exact fun s t k _ hrun h => runs_wbCapture hrun h
  case completes => exact fun s t n c _ hrun hgood hclean h => runs_wbCaptureComplete hrun hgood hclean h
  case timesOut => exact fun s t c _ hrun hgood hc hunit hlate => runs_wbCaptureTimeout hrun hgood hc hunit hlate
  case overflows => exact fun s t n c _ hrun hgood h => runs_wbBufferOverflow hrun hgood h

end Sys2Proof.Machine
end
